-- ==== Sys2Proof/Word.lean ====
section
/-! DEFINITION. The words of the Concourse link and of the configuration memory: bytes, and the six-bit
station numbers of R173. Everything the spec treats as a count, a duration or an index is a `Nat` or a `Fin`. -/

namespace Sys2Proof

/-- One byte of a frame (R159) or of the configuration memory (R175). -/
abbrev Byte := BitVec 8

/-- A station field of a frame (R173): 1 to 62 name a station, 0 names none, 63 is read as its own rules say. -/
abbrev Station := BitVec 6

end Sys2Proof
end

