-- ==== Sys2Proof/Config.lean ====
section
/-! DEFINITION. What the installer fixes (the configuration image of R175 to R177 after clamping, as plain data) and the one
free value of the model: the order in which deliveries that "do not wait for another" are taken, and other open moments. -/

namespace Sys2Proof

/-- FREE VALUE (notes/assumptions/1.md). The spec takes several deliveries of one event in either order (R9, R15, R34, R113,
R131, R134, R145, R172, R180). The digits of a natural number, in a mixed base, pick the next delivery each time, and say
whether a held button or key has been let go before a sample (notes/assumptions/10.md); this is the number the machine starts with. It has no
body: nothing in Lean can evaluate it. -/
opaque Config.order : Nat

/-- Kinds of detector loop (R16). -/
inductive LoopKind where
  | unused | smoke | heat | manual
  deriving DecidableEq, Repr

/-- Kinds of watch input (R41). -/
inductive WatchKind where
  | unused | showcase | motion | beam | tamper
  deriving DecidableEq, Repr

/-- Kinds of door position (R57). -/
inductive DoorKind where
  | blank | interior | exit
  deriving DecidableEq, Repr

/-- The descriptive fields of a door record, as the door unit reads them (R57). -/
structure DoorDesc where
  kind      : DoorKind
  owned     : Bool
  neighbour : Station
  nbDoor    : Fin 4
  weight    : Nat
  magnet    : Bool
  deriving DecidableEq, Repr

/-- The descriptor of a position with no door (R57, R58). -/
def DoorDesc.none : DoorDesc :=
  { kind := .blank, owned := false, neighbour := 0, nbDoor := 0, weight := 1, magnet := false }

/-- The configuration image (R175) after the clamping of R177 and the reading of R57. Durations are in the units of R175:
seconds, or tenths of a second for the passage time and the silence limit. -/
structure Image where
  station       : Station
  doors         : Vector DoorDesc 4
  loops         : Vector LoopKind 6
  watch         : Vector WatchKind 8
  points        : Nat
  ackWindow     : Nat
  investigation : Nat
  travel        : Nat
  ajar          : Nat
  passage       : Nat
  escalation    : Nat
  attend        : Nat
  exitDelay     : Nat
  roundTime     : Nat
  silence       : Nat
  refresh       : Nat
  lockdownLevel : Nat
  passageLevel  : Nat
  depth         : Nat
  strict        : Bool
  deriving DecidableEq, Repr

/-- The values a station without a good configuration works with: no loops, inputs, doors or call points (R40, R56, R84, R108),
exit delay 10 s and round time 30 s (R56), scene depth 3 (R148). The other durations are the lowest of their ranges
and are used by nothing while there is no image. -/
def Image.unconfigured : Image :=
  { station := 0, doors := Vector.replicate 4 DoorDesc.none, loops := Vector.replicate 6 .unused
    watch := Vector.replicate 8 .unused, points := 0, ackWindow := 5, investigation := 30, travel := 5, ajar := 10
    passage := 30, escalation := 20, attend := 30, exitDelay := 10, roundTime := 30, silence := 30, refresh := 1
    lockdownLevel := 3, passageLevel := 3, depth := 3, strict := false }

end Sys2Proof
end

