-- ==== Sys2Proof/Syntax.lean ====
section
/-! DEFINITION. The commands of the station: one constructor of `Instr` per row of spec/opcode_table.json, with the operands the
rule of the row gives the event. -/

namespace Sys2Proof

/-- The museum mode, and the positions of the MODE key in the order of its travel (R1, R3). -/
inductive Mode where
  | pub | closed | night
  deriving DecidableEq, Repr

/-- A reading of the two contacts of the MODE key (R2). -/
structure ModeReading where
  aClosed : Bool
  bClosed : Bool
  deriving DecidableEq, Repr

/-- What a supervised watch line reads (R42). -/
inductive WatchReading where
  | endOfLine | tripped | cut | shorted
  deriving DecidableEq, Repr

/-- What the position line of an owned door reads (R59). -/
inductive ContactReading where
  | atRest | away | cut | shorted
  deriving DecidableEq, Repr

/-- The result of one transfer from the configuration memory (R176). -/
inductive ConfigTransfer where
  /-- the memory did not acknowledge its address or some byte -/
  | noAck
  /-- the bytes at addresses 0, 1, 2, … -/
  | bytes (read : List Byte)
  deriving DecidableEq, Repr

/-- The one-shot patterns of the buzzer (R187). -/
inductive OneShot where
  | refuse | callChirp | warning
  deriving DecidableEq, Repr

/-- A STATUS frame (R173), every bit of its eight bytes. -/
structure StatusFrame where
  urgent     : Bool
  source     : Station
  fire       : BitVec 2
  guard      : BitVec 2
  intrusion  : Bool
  round      : Bool
  evacuation : Bool
  trouble    : Bool
  epoch      : Byte
  cost       : Byte
  mode       : BitVec 2
  via        : Station
  doors      : Vector (BitVec 4) 4
  check      : Byte
  deriving DecidableEq, Repr

/-- A CALL frame (R173), every bit of its four bytes; `spare` is bits 7:6 of byte 2. -/
structure CallFrame where
  source   : Station
  point    : BitVec 2
  state    : BitVec 2
  level    : BitVec 4
  spare    : BitVec 2
  answerer : Station
  check    : Byte
  deriving DecidableEq, Repr

/-- An ANSWER frame (R173), every bit of its four bytes; `spare1` is bits 7:6 of byte 1, `spare2` bits 7:2 of byte 2. -/
structure AnswerFrame where
  source : Station
  spare1 : BitVec 2
  origin : Station
  spare2 : BitVec 6
  point  : BitVec 2
  check  : Byte
  deriving DecidableEq, Repr

/-- A frame of any kind (R159). -/
inductive Frame where
  | status (f : StatusFrame)
  | call (f : CallFrame)
  | answer (f : AnswerFrame)
  deriving DecidableEq, Repr

/-- What a receiver sees on the bus apart from good frames (R159, R167, R169). The table has no row of its own for another station's
start bit, so the row of what is seen and dispatched to no unit carries it (notes/assumptions/11.md). -/
inductive BusActivity where
  /-- a dominant bit: on the idle bus the start bit of a frame that another station begins (R159, R160) -/
  | startBit
  /-- dominant bits after a frame's end and before the bus was idle (R167) -/
  | stray
  /-- the bits read after a start bit, `true` recessive; bits nobody drove any more are left out (R167) -/
  | bits (read : List Bool)
  deriving DecidableEq, Repr

/-- The commands: one constructor per row of spec/opcode_table.json. -/
inductive Instr where
  /-- RESET_ASSERTED (R178): RESET asserted with the HOLD line high or low; power-on is an assertion with HOLD low. -/
  | resetAsserted (holdHigh : Bool)
  /-- HOLD_FALLS (R178) -/
  | holdFalls
  /-- COLD_START (R179): RESET released; the three samples of the MODE key that R1 takes at the start of CONFIG-READ. -/
  | coldStart (k1 k2 k3 : ModeReading)
  /-- WARM_RESTART (R181): RESET released from a held reset -/
  | warmRestart
  /-- CONFIG_READ_ATTEMPT (R176) -/
  | configReadAttempt (transfer : ConfigTransfer)
  /-- START_OF_RUN (R180): T19 expires in LISTEN or RELEARN -/
  | startOfRun
  /-- KEY_CHANGE (R3): the filtered MODE key reads this position -/
  | keyChange (position : Mode)
  /-- ACK (R29, R36, R186) -/
  | ack
  /-- RESTORE (R31, R52, R184) -/
  | restore
  /-- ACCEPT (R103) -/
  | accept
  /-- GUARD (R48, R91) -/
  | guard
  /-- PASSAGE (R64) -/
  | passage
  /-- TEST (R144) -/
  | test
  /-- BAND_CHANGE (R18): three agreeing samples of a loop's current, in microamperes -/
  | bandChange (loop : Fin 6) (microamps : Nat)
  /-- WATCH_BAND_CHANGE (R42) -/
  | watchBandChange (input : Fin 8) (reading : WatchReading)
  /-- CALL_BUTTON_PRESSED (R44) -/
  | callButtonPressed (point : Fin 4)
  /-- FIRST_READING (R80) -/
  | firstReading (door : Fin 4) (reading : ContactReading)
  /-- POSITION_CHANGE (R59) -/
  | positionChange (door : Fin 4) (reading : ContactReading)
  /-- ACK_WINDOW_EXPIRY (R28): T0 -/
  | ackWindowExpiry
  /-- INVESTIGATION_EXPIRY (R28): the pair T1/T2 -/
  | investigationExpiry
  /-- TRAVEL_LIMIT_EXPIRY (R73): T3 to T6 in CLOSING -/
  | travelLimitExpiry (door : Fin 4)
  /-- AJAR_COMPARE (R74): T3 to T6 reach half the ajar limit -/
  | ajarCompare (door : Fin 4)
  /-- HELD_EVENT (R74): T3 to T6 reach the ajar limit -/
  | heldEvent (door : Fin 4)
  /-- PASSAGE_EXPIRY (R64): T21 -/
  | passageExpiry
  /-- ESCALATION_COMPARE (R88): T7 to T10 reach half the escalation time -/
  | escalationCompare (point : Fin 4)
  /-- ESCALATION_EXPIRY (R88) -/
  | escalationExpiry (point : Fin 4)
  /-- ATTEND_LIMIT_EXPIRY (R90) -/
  | attendLimitExpiry (point : Fin 4)
  /-- SILENCE_EXPIRY (R115): T11 to T14 -/
  | silenceExpiry (entry : Fin 4)
  /-- SWEEP (R100, R119): T17 -/
  | sweep
  /-- EXIT_DELAY_EXPIRY (R47): T18 in SETTING -/
  | exitDelayExpiry
  /-- ROUND_EXPIRY (R47): T18 during a round -/
  | roundExpiry
  /-- LAMP_TEST_EXPIRY (R144): T20 -/
  | lampTestExpiry
  /-- REFRESH_EXPIRY (R166): T15 -/
  | refreshExpiry
  /-- STATUS_PACING_EXPIRY (R164): T16 -/
  | statusPacingExpiry
  /-- QUIET_PERIOD_EXPIRY (R162): T19 during QUIET -/
  | quietPeriodExpiry
  /-- BUZZER_PATTERN_END (R187) -/
  | buzzerPatternEnd (pattern : OneShot)
  /-- BEGIN_FRAME (R160, R164, R165) -/
  | beginFrame
  /-- LOST_ARBITRATION (R160): the header bit, counted from 7 down as R160's example does, that was read back dominant -/
  | lostArbitration (bit : Fin 8)
  /-- TRANSMIT_FAULT (R161): the bit of the frame, the start bit being bit 0, whose read-back differed -/
  | transmitFault (bit : Nat)
  /-- FRAME_SENT (R165) -/
  | frameSent
  /-- RECEIVED_STATUS (R172) -/
  | receivedStatus (frame : StatusFrame)
  /-- RECEIVED_NOTICE (R98) -/
  | receivedNotice (frame : CallFrame)
  /-- RECEIVED_OFFER (R89) -/
  | receivedOffer (frame : AnswerFrame)
  /-- FRAME_DISCARDED (R169) -/
  | frameDiscarded (seen : BusActivity)
  /-- BUS_IDLE (R159) -/
  | busIdle
  deriving DecidableEq, Repr

end Sys2Proof
end

