-- ==== Sys2Proof/WellFormed.lean ====
section
/-! DEFINITION. The commands the outside world can send: what the widths of R159 and R175 rule out. -/

namespace Sys2Proof

/-- R176: an attempt transfers the 41 bytes at addresses 0 to 40, or is not acknowledged. -/
def ConfigTransfer.wf : ConfigTransfer → Bool
  | .noAck => true
  | .bytes l => l.length == 41

/-- R159, R167: after the start bit a receiver reads at most eight bytes of nine bit times. -/
def BusActivity.wf : BusActivity → Bool
  | .startBit => true
  | .stray => true
  | .bits l => l.length ≤ 72

/-- A command that can reach the station. -/
def Instr.wf : Instr → Bool
  | .configReadAttempt t => t.wf
  | .transmitFault bit => bit < 73
  | .frameDiscarded seen => seen.wf
  | .resetAsserted _ | .holdFalls | .coldStart _ _ _ | .warmRestart | .startOfRun | .keyChange _ | .ack | .restore
  | .accept | .guard | .passage | .test | .bandChange _ _ | .watchBandChange _ _ | .callButtonPressed _
  | .firstReading _ _ | .positionChange _ _ | .ackWindowExpiry | .investigationExpiry | .travelLimitExpiry _
  | .ajarCompare _ | .heldEvent _ | .passageExpiry | .escalationCompare _ | .escalationExpiry _
  | .attendLimitExpiry _ | .silenceExpiry _ | .sweep | .exitDelayExpiry | .roundExpiry | .lampTestExpiry
  | .refreshExpiry | .statusPacingExpiry | .quietPeriodExpiry | .buzzerPatternEnd _ | .beginFrame
  | .lostArbitration _ | .frameSent | .receivedStatus _ | .receivedNotice _ | .receivedOffer _ | .busIdle => true

end Sys2Proof
end

