-- ==== Sys2Proof/Decode.lean ====
section
/-! DEFINITION. Decoding of commands. No row of spec/opcode_table.json gives bits (every row's fields are empty), so no word
spells a command; the frames of the Concourse link, which do have bits, are decoded in Machine/Frames.lean. -/

namespace Sys2Proof

/-- The command a table word spells: none, since no row of the table has bits. -/
def decodeTableWord (_nbits _w : Nat) : Option Instr := none

end Sys2Proof
end

