-- ==== Sys2Proof/Machine/State.lean ====
section
/-! DEFINITION. The state of the station, block by block (section 4 of the spec's introduction), and its value at power-on.
State is plain data: vectors, lists and numbers. -/

namespace Sys2Proof.Machine

/-- No command of this model ends in a fault: the spec names no event that stops the station. -/
inductive Fault where
  deriving DecidableEq, Repr

/-- Why a command has no outcome. -/
inductive Refusal where
  /-- raised by `exec` alone, for a row without a meaning; no row is left without one (safe) -/
  | notModelled (mnemonic : String)
  deriving DecidableEq, Repr

/-- The answer of a meaning needs the state, so the type is given at the end of this file. The filter state of R16, R41, R44, R57 and R188:
a candidate, which may be absent, and an agreeing count from 0 to 2. -/
structure Filter (α : Type) where
  candidate : Option α
  count     : Fin 3
  deriving DecidableEq, Repr

/-- No candidate, count 0 (R16). -/
def Filter.clear {α : Type} : Filter α := { candidate := none, count := 0 }

/-! ### Timer bank (R150, R156, R157) -/

/-- The rate at which a count falls (R150). -/
inductive TickRate where
  | ms10 | ms100 | s1
  deriving DecidableEq, Repr

/-- Whether a channel halts or reloads at expiry (R150). -/
inductive ChanKind where
  | oneShot | periodic
  deriving DecidableEq, Repr

/-- The events a channel raises for its owner (R151, R152). -/
inductive TimerEvent where
  | compare | expiry
  deriving DecidableEq, Repr

/-- A countdown channel (R150). `waiting` is the events raised and not yet taken by the owner, oldest first (R154). -/
structure Channel where
  reload  : Nat
  count   : Nat
  rate    : TickRate
  kind    : ChanKind
  compare : Nat
  running : Bool
  waiting : List TimerEvent
  deriving DecidableEq, Repr

/-- A channel after a cold start (R150). -/
def Channel.initial : Channel :=
  { reload := 1, count := 0, rate := .s1, kind := .oneShot, compare := 0, running := false, waiting := [] }

/-- The names of the channels; `pair` is T1 and T2 joined (R156). -/
inductive Chan where
  | t0 | pair | door (d : Fin 4) | point (p : Fin 4) | silence (k : Fin 4)
  | t15 | t16 | t17 | t18 | t19 | t20 | t21
  deriving DecidableEq, Repr

/-- The 22 channels of R157: T0; the pair T1/T2; T3 to T6; T7 to T10; T11 to T14; T15 to T21. -/
structure TimerBank where
  t0      : Channel
  pair    : Channel
  doors   : Vector Channel 4
  points  : Vector Channel 4
  silence : Vector Channel 4
  t15     : Channel
  t16     : Channel
  t17     : Channel
  t18     : Channel
  t19     : Channel
  t20     : Channel
  t21     : Channel
  deriving DecidableEq, Repr

/-- Every channel as after a cold start (R150). -/
def TimerBank.initial : TimerBank :=
  { t0 := .initial, pair := .initial, doors := Vector.replicate 4 .initial, points := Vector.replicate 4 .initial
    silence := Vector.replicate 4 .initial, t15 := .initial, t16 := .initial, t17 := .initial, t18 := .initial
    t19 := .initial, t20 := .initial, t21 := .initial }

/-- The free-running sources of time, each a count of 10 ms ticks: those of the timer bank (R151), of the 100 ms and the 20 ms
sampling (R17, R42, R44, R59, R188), of the lighting unit's rhythm (R136) and of the panel's rhythm (R189). None is altered
by a start. The panel's rhythm is counted in 5 ms so that the fast rate's 0.125 s is a whole number. -/
structure Clock where
  hundred     : Fin 10
  second      : Fin 100
  sampling    : Fin 10
  keySampling : Fin 2
  lighting    : Fin 200
  panel       : Fin 400
  deriving DecidableEq, Repr

/-- The input lines (introduction, section 10; R17, R42, R44, R59, R188, R178). They belong to the outside world: a command that
says a line has changed changes it here, and the sampling of Machine/Tick.lean reads it; a held key or call button is let go there, at a moment that no
row of the table gives (notes/assumptions/10.md). -/
structure Pins where
  loops   : Vector Nat 6
  watch   : Vector WatchReading 8
  doors   : Vector ContactReading 4
  buttons : Vector Bool 4
  ack     : Bool
  restore : Bool
  accept  : Bool
  guard   : Bool
  passage : Bool
  test    : Bool
  mode    : ModeReading
  reset   : Bool
  holdHigh : Bool
  deriving DecidableEq, Repr

/-! ### Mode unit (R1, R3) -/

/-- Mode, epoch, settled flag, key position, and the MODE key's filtered reading with its filter. -/
structure ModeUnit where
  mode        : Mode
  epoch       : Byte
  settled     : Bool
  keyPosition : Mode
  keyReading  : ModeReading
  keyFilter   : Filter ModeReading
  deriving DecidableEq, Repr

/-! ### Fire unit (R16, R20, R33, R35) -/

/-- Bands of a loop current (R17). -/
inductive LoopBand where
  | openLoop | normal | prealarm | alarm | short
  deriving DecidableEq, Repr

/-- A loop record (R16). -/
structure LoopRec where
  kind   : LoopKind
  band   : LoopBand
  filter : Filter LoopBand
  deriving DecidableEq, Repr

/-- The fire state (R20), and the fire state a neighbour last reported (R110). -/
inductive FireState where
  | clear | prealarm | verify | fire
  deriving DecidableEq, Repr

/-- The phase of the verification record (R20). -/
inductive VerifyPhase where
  | none | ackWindow | investigation
  deriving DecidableEq, Repr

/-- Loop records, fire state, verification record, evacuation flag, sounder-silenced flag. -/
structure FireUnit where
  loops     : Vector LoopRec 6
  state     : FireState
  phase     : VerifyPhase
  firstLoop : Option (Fin 6)
  evac      : Bool
  silenced  : Bool
  deriving DecidableEq, Repr

/-! ### Watch unit (R41, R44, R45, R50, R51) -/

/-- Bands of a watch line (R41). -/
inductive WatchBand where
  | normal | active | fault
  deriving DecidableEq, Repr

/-- A watch input record (R41). -/
structure WatchRec where
  kind   : WatchKind
  band   : WatchBand
  filter : Filter WatchBand
  deriving DecidableEq, Repr

/-- The guard state (R45). -/
inductive GuardState where
  | opened | setting | watching
  deriving DecidableEq, Repr

/-- The filter of a call button or a panel key: released or pressed, with its filter state (R44, R188). -/
structure ButtonRec where
  pressed : Bool
  filter  : Filter Bool
  deriving DecidableEq, Repr

/-- Released, no candidate, count 0 (R44, R188). -/
def ButtonRec.released : ButtonRec := { pressed := false, filter := Filter.clear }

/-- Pressed, no candidate, count 0: the filter of a button that is held down. -/
def ButtonRec.held : ButtonRec := { pressed := true, filter := Filter.clear }

/-- Watch input records, guard state, round flag, both latches, call button filters. -/
structure WatchUnit where
  inputs     : Vector WatchRec 8
  guard      : GuardState
  round      : Bool
  localLatch : Bool
  intrusion  : Bool
  buttons    : Vector ButtonRec 4
  deriving DecidableEq, Repr

/-! ### Door unit (R57) -/

/-- The position of an owned door (R59). -/
inductive Position where
  | closed | opened | unknown
  deriving DecidableEq, Repr

/-- The phases of section 4.4. -/
inductive DoorPhase where
  | shut | opened | forced | held | closing | blocked | unsensed
  deriving DecidableEq, Repr

/-- The lock output (R57). -/
inductive LockOut where
  | locked | free
  deriving DecidableEq, Repr

/-- The hold output (R57). -/
inductive HoldOut where
  | holding | dropped
  deriving DecidableEq, Repr

/-- A door record (R57). `ajar` holds while the door is under ajar timing (R74); `keep` marks a door whose descriptor came
back unchanged at a warm restart, the doors that the freeze flag freezes (R81, R182). -/
structure DoorRec where
  desc     : DoorDesc
  position : Option Position
  filter   : Filter Position
  phase    : Option DoorPhase
  lock     : LockOut
  hold     : HoldOut
  deferred : Bool
  ajar     : Bool
  keep     : Bool
  deriving DecidableEq, Repr

/-- A door position as it starts afresh (R57, R80), with a descriptor. -/
def DoorRec.afresh (desc : DoorDesc) : DoorRec :=
  { desc := desc, position := none, filter := Filter.clear, phase := none, lock := .free, hold := .dropped
    deferred := false, ajar := false, keep := false }

/-- The door records and the standing of the PASSAGE slot, which serves all owned doors together (R64). The other three claim
slots stand by conditions other units own (R61 to R63), and are computed from them in Machine/Flags.lean. -/
structure DoorUnit where
  records : Vector DoorRec 4
  passage : Bool
  deriving DecidableEq, Repr

/-! ### Call unit (R85, R95) -/

/-- The identity of a visitor call (R95). -/
structure CallId where
  origin : Station
  point  : Fin 4
  deriving DecidableEq, Repr

/-- The state of a call point (R85). -/
inductive PointState where
  | idle | waiting | answered
  deriving DecidableEq, Repr

/-- A call point record (R85). Its lamp is a function of state and hurry flag (R92), computed in Machine/Flags.lean. -/
structure PointRec where
  state    : PointState
  level    : Nat
  late     : Bool
  answerer : Station
  hurry    : Bool
  deriving DecidableEq, Repr

/-- A call point with no call (R85). -/
def PointRec.idle : PointRec := { state := .idle, level := 0, late := false, answerer := 0, hurry := false }

/-- An entry of the call list (R95). `answered` is its state: ANSWERED or WAITING. -/
structure CallEntry where
  id       : CallId
  level    : Nat
  answered : Bool
  answerer : Station
  isLocal  : Bool
  offered  : Bool
  heard    : Bool
  deriving DecidableEq, Repr

/-- The call point records and the call list, first entry first. -/
structure CallUnit where
  points : Vector PointRec 4
  list   : List CallEntry
  deriving DecidableEq, Repr

/-! ### Neighbour table and fire roster (R110, R117) -/

/-- The state of a neighbour entry (R110). -/
inductive EntryState where
  | unheard | fresh | mute
  deriving DecidableEq, Repr

/-- The two marks of a neighbour's door field (R110). -/
structure DoorMarks where
  fitted   : Bool
  passable : Bool
  deriving DecidableEq, Repr

/-- A neighbour entry (R110). -/
structure NbEntry where
  station   : Station
  state     : EntryState
  fire      : FireState
  intrusion : Bool
  cost      : Nat
  via       : Station
  fields    : Vector DoorMarks 4
  deriving DecidableEq, Repr

/-- An entry in the unheard values (R110). -/
def NbEntry.unheard (station : Station) : NbEntry :=
  { station := station, state := .unheard, fire := .clear, intrusion := false, cost := 255, via := 0
    fields := Vector.replicate 4 { fitted := false, passable := false } }

/-- A member of the fire roster (R117). -/
structure Member where
  station : Station
  mark    : Bool
  deriving DecidableEq, Repr

/-- The neighbour entries by number, and the fire roster, which has no order of its own. -/
structure NbTable where
  entries : Vector (Option NbEntry) 4
  roster  : List Member
  deriving DecidableEq, Repr

/-! ### Egress unit (R124) -/

/-- The verdict on a door position (R129). -/
inductive Verdict where
  | go | bar | neutral
  deriving DecidableEq, Repr

/-- Own cost, via, chosen door, verdicts, computed flag. -/
structure EgressUnit where
  cost     : Nat
  via      : Station
  chosen   : Option (Fin 4)
  verdicts : Vector Verdict 4
  computed : Bool
  deriving DecidableEq, Repr

/-- The uncomputed values (R124). -/
def EgressUnit.uncomputed : EgressUnit :=
  { cost := 255, via := 0, chosen := none, verdicts := Vector.replicate 4 .neutral, computed := false }

/-! ### Lighting unit (R136, R139) -/

/-- The scenes (R137). -/
inductive Scene where
  | dark | opened | dim | round | intrusion | test | evacuate
  deriving DecidableEq, Repr

/-- The emergency lamp output (R136). -/
inductive LampOut where
  | off | on | flash
  deriving DecidableEq, Repr

/-- The sounder output (R136). -/
inductive SounderOut where
  | off | pulse | on
  deriving DecidableEq, Repr

/-- A sign output (R136). -/
inductive SignOut where
  | dark | arrow | cross
  deriving DecidableEq, Repr

/-- The four kinds of output of the lighting unit (R136). -/
structure Outputs where
  lights  : Bool
  lamp    : LampOut
  sounder : SounderOut
  signs   : Vector SignOut 4
  deriving DecidableEq, Repr

/-- The forced setting (R146). -/
def Outputs.forced : Outputs :=
  { lights := true, lamp := .on, sounder := .off, signs := Vector.replicate 4 .dark }

/-- The scene stack, as its bottom entry and the entries above it, lowest first (R139), and the outputs. -/
structure LightUnit where
  base  : Scene
  above : List Scene
  out   : Outputs
  deriving DecidableEq, Repr

/-! ### Link unit (R163) -/

/-- The six transmit slots (R163). -/
inductive Slot where
  | status | call (p : Fin 4) | answer
  deriving DecidableEq, Repr

/-- The frame of this station under way on the bus: the slot whose in-flight mark is set, the frame captured at its start bit, and, from
the ANSWER slot, the offer it carries and whether a newer offer has been loaded since that start bit (R163, R165, R102). -/
structure Sending where
  slot  : Slot
  frame : Frame
  offer : Option CallId
  newer : Bool
  deriving DecidableEq, Repr

/-- How the link unit follows the bus while it drives none of it (R159, R160, R167). -/
inductive BusView where
  /-- it waits for 11 recessive bit times; `counted` says that dominant bits seen from now on to the idle bus raise the discard count no more:
  they belong to a frame discarded already, or to strays counted already, or no frame has ended yet (notes/assumptions/42.md) -/
  | waiting (counted : Bool)
  /-- the bus is idle: the next dominant bit is a start bit -/
  | idle
  /-- it follows a frame of another station, or one of its own that it has given up -/
  | following
  /-- the bus has stayed recessive under a start bit of its own, which is a fault: no frame is on it, the next dominant bit is a start bit, and
  this station begins again at the next idle (R161, notes/assumptions/46.md) -/
  | recessive
  deriving DecidableEq, Repr

/-- Pending marks of the STATUS and CALL slots; the offer the ANSWER slot holds unsent, which is its pending mark (R102); the
frame under way; transmit fault count, QUIET flag, discard count; and how the bus is followed. -/
structure LinkUnit where
  status   : Bool
  calls    : Vector Bool 4
  offer    : Option CallId
  sending  : Option Sending
  faults   : Nat
  quiet    : Bool
  discards : Nat
  bus      : BusView
  deriving DecidableEq, Repr

/-- The link unit after a cold start (R163) and at a warm restart. -/
def LinkUnit.initial : LinkUnit :=
  { status := false, calls := Vector.replicate 4 false, offer := none, sending := none, faults := 0, quiet := false
    discards := 0, bus := .waiting true }

/-! ### Start unit (chapter 11) -/

/-- The start phases (chapter 11). -/
inductive StartPhase where
  | configRead | listen | relearn | run | unconfigured
  deriving DecidableEq, Repr

/-- Which start the CONFIG-READ under way, or the last one, belongs to (R179, R181). -/
inductive StartKind where
  | cold | warm
  deriving DecidableEq, Repr

/-- The reset condition (R178). -/
inductive ResetCondition where
  | none | cold | held
  deriving DecidableEq, Repr

/-- A held reset waiting for the end of a frame of this station (R178): RESET asserted and not yet in hold, or released
before it took hold. -/
inductive ResetRequest where
  | none | hold | warm
  deriving DecidableEq, Repr

/-- Start phase, configuration image, reset condition, freeze flag; the kind of the last start, the failed attempts of the
read under way (R176) and the request of R178. -/
structure StartUnit where
  phase     : StartPhase
  kind      : StartKind
  image     : Option Image
  condition : ResetCondition
  freeze    : Bool
  attempts  : Nat
  request   : ResetRequest
  deriving DecidableEq, Repr

/-! ### Trouble unit and panel (chapter 12) -/

/-- A member of the trouble record: a kind with its subject (R184). -/
inductive Trouble where
  | loop (l : Fin 6) | watchLine (i : Fin 8) | doorPosition (d : Fin 4) | doorBlocked (d : Fin 4)
  | neighbourMute (n : Station) | linkNoise | linkDrive | duplicate | callListFull | config
  deriving DecidableEq, Repr

/-- The trouble record and the buzzer-silenced flag (R184, R186). -/
structure TroubleUnit where
  record   : List Trouble
  silenced : Bool
  deriving DecidableEq, Repr

/-- A one-shot pattern: the 10 ms ticks since its presentation if it is present, and how many wait behind it (R187). -/
structure OneShotRec where
  age    : Option Nat
  queued : Nat
  deriving DecidableEq, Repr

/-- No presentation (R187). -/
def OneShotRec.absent : OneShotRec := { age := none, queued := 0 }

/-- The buzzer arbiter: for a sustained pattern the ticks its rhythm has run, if it is present; the one-shot patterns (R187). -/
structure Buzzer where
  verify    : Option Nat
  trouble   : Option Nat
  refuse    : OneShotRec
  callChirp : OneShotRec
  warning   : OneShotRec
  deriving DecidableEq, Repr

/-- No pattern present (R187). -/
def Buzzer.silent : Buzzer :=
  { verify := none, trouble := none, refuse := .absent, callChirp := .absent, warning := .absent }

/-- The filters of the six keys other than MODE (R188). -/
structure KeyFilters where
  ack     : ButtonRec
  restore : ButtonRec
  accept  : ButtonRec
  guard   : ButtonRec
  passage : ButtonRec
  test    : ButtonRec
  deriving DecidableEq, Repr

/-- The panel keys but MODE, whose filters have two states (R188). -/
inductive PanelKey where
  | ack | restore | accept | guard | passage | test
  deriving DecidableEq, Repr

/-- Every key filter released (R188). -/
def KeyFilters.released : KeyFilters :=
  { ack := .released, restore := .released, accept := .released, guard := .released, passage := .released
    test := .released }

/-! ### The whole station -/

/-- The state of the station. `raised` holds the events its own sampling has raised and no unit has taken yet; `order` is the
free value that picks among deliveries (notes/assumptions/1.md and 10.md); `pending` is the queue of commands from outside. -/
structure State where
  clock    : Clock
  pins     : Pins
  timers   : TimerBank
  modes    : ModeUnit
  fire     : FireUnit
  watch    : WatchUnit
  doors    : DoorUnit
  calls    : CallUnit
  table    : NbTable
  egress   : EgressUnit
  light    : LightUnit
  link     : LinkUnit
  start    : StartUnit
  troubles : TroubleUnit
  buzzer   : Buzzer
  keys     : KeyFilters
  raised   : List Instr
  order    : Nat
  pending  : List Instr
  deriving DecidableEq, Repr

/-- The station at power-on: RESET asserted with HOLD low, which is a cold reset (R178), every unit at the values its chapter gives
after a cold start. The values the spec gives no power-on value for are in notes/assumptions/2.md to 5.md, 39.md (the doors) and 43.md (the kind
of a loop and of a watch input until the configuration is read, which R16 and R41 leave open: UNUSED). -/
def State.reset : State :=
  { clock := { hundred := 0, second := 0, sampling := 0, keySampling := 0, lighting := 0, panel := 0 }
    pins := { loops := Vector.replicate 6 5000, watch := Vector.replicate 8 .endOfLine
              doors := Vector.replicate 4 .atRest, buttons := Vector.replicate 4 false, ack := false, restore := false
              accept := false, guard := false, passage := false, test := false
              mode := { aClosed := true, bClosed := true }, reset := true, holdHigh := false }
    timers := .initial
    modes := { mode := .night, epoch := 0, settled := false, keyPosition := .night
               keyReading := { aClosed := true, bClosed := true }, keyFilter := Filter.clear }
    fire := { loops := Vector.replicate 6 { kind := .unused, band := .normal, filter := Filter.clear }
              state := .clear, phase := .none, firstLoop := none, evac := false, silenced := false }
    watch := { inputs := Vector.replicate 8 { kind := .unused, band := .normal, filter := Filter.clear }
               guard := .opened, round := false, localLatch := false, intrusion := false
               buttons := Vector.replicate 4 .released }
    doors := { records := Vector.replicate 4 (DoorRec.afresh .none), passage := false }
    calls := { points := Vector.replicate 4 .idle, list := [] }
    table := { entries := Vector.replicate 4 none, roster := [] }
    egress := .uncomputed
    light := { base := .dark, above := [], out := .forced }
    link := .initial
    start := { phase := .configRead, kind := .cold, image := none, condition := .cold, freeze := false, attempts := 0
               request := .none }
    troubles := { record := [], silenced := false }
    buzzer := .silent
    keys := .released
    raised := []
    order := Config.order
    pending := [] }

/-- What a meaning answers. -/
abbrev Answer := Host.Outcome State Fault Refusal

end Sys2Proof.Machine
end

