-- ==== Sys2Proof/Machine/Configuration.lean ====
section
/-! DEFINITION. The configuration memory: the judgement of an attempt (R176), the layout (R175), the clamping (R177) and the door unit's
reading of the descriptors (R57). -/

namespace Sys2Proof.Machine

/-- R176: the sum of the bytes, modulo 256. -/
def byteSum (l : List Byte) : Byte := l.foldl (· + ·) 0

/-- The byte at an address of the configuration memory, as a number. -/
def byteAt (l : List Byte) (a : Nat) : Nat := (l.getD a 0).toNat

/-- R177, the nearer end of a range. -/
def clampNearer (lo hi v : Nat) : Nat := if v < lo then lo else if hi < v then hi else v

/-- R177, the lower end for a value below it; the fields so clamped reach no further than their byte. -/
def clampLow (lo v : Nat) : Nat := if v < lo then lo else v

/-- R175: bits of a byte as a number. -/
def bitsAt (l : List Byte) (a lo width : Nat) : Nat := byteAt l a / 2 ^ lo % 2 ^ width

/-- R175, R57: the descriptor of door position d. An EXIT door is owned; an INTERIOR door naming 0, 63 or the own number is
BLANK; a shadow door has no magnet; a weight of 0 is 1. -/
def doorDescOf (own : Station) (l : List Byte) (d : Fin 4) : DoorDesc :=
  let first := 1 + 2 * d.val
  let second := 2 + 2 * d.val
  let kind := bitsAt l first 6 2
  let owned := bitsAt l first 5 1 = 1
  let magnet := bitsAt l first 4 1 = 1
  let weight := if bitsAt l first 0 4 = 0 then 1 else bitsAt l first 0 4
  let neighbour := BitVec.ofNat 6 (bitsAt l second 0 6)
  let nbDoor : Fin 4 := ⟨bitsAt l second 6 2, Nat.mod_lt _ (by decide)⟩
  if kind = 2 then
    { kind := .exit, owned := true, neighbour := 0, nbDoor := 0, weight := weight, magnet := magnet }
  else if kind = 1 ∧ neighbour ≠ 0 ∧ neighbour ≠ 63 ∧ neighbour ≠ own then
    { kind := .interior, owned := owned, neighbour := neighbour, nbDoor := nbDoor, weight := weight
      magnet := owned && magnet }
  else DoorDesc.none

/-- R175: a loop kind. -/
def loopKindOf (v : Nat) : LoopKind :=
  match v with
  | 1 => .smoke
  | 2 => .heat
  | 3 => .manual
  | _ => .unused

/-- R175: a watch input kind. -/
def watchKindOf (v : Nat) : WatchKind :=
  match v with
  | 1 => .showcase
  | 2 => .motion
  | 3 => .beam
  | 4 => .tamper
  | _ => .unused

/-- R175, R177: the configuration image of a good transfer. The refresh period is clamped first, and the silence limit is then held to
at least three of it. -/
def imageOf (l : List Byte) : Image :=
  let own := BitVec.ofNat 6 (bitsAt l 0 0 6)
  let refresh := clampNearer 1 8 (byteAt l 35)
  { station := own
    doors := Vector.ofFn (doorDescOf own l)
    loops := Vector.ofFn fun i => loopKindOf (byteAt l (9 + i.val))
    watch := Vector.ofFn fun i => watchKindOf (byteAt l (15 + i.val))
    points := if 4 < byteAt l 23 then 4 else byteAt l 23
    ackWindow := clampNearer 5 60 (byteAt l 24)
    investigation := clampNearer 30 600 (256 * byteAt l 25 + byteAt l 26)
    travel := clampNearer 5 60 (byteAt l 27)
    ajar := clampLow 10 (byteAt l 28)
    passage := clampLow 30 (byteAt l 29)
    escalation := clampLow 20 (byteAt l 30)
    attend := clampLow 30 (byteAt l 31)
    exitDelay := clampLow 10 (byteAt l 32)
    roundTime := clampLow 30 (byteAt l 33)
    silence := clampLow (30 * refresh) (byteAt l 34)
    refresh := refresh
    lockdownLevel := clampNearer 3 15 (byteAt l 36)
    passageLevel := clampNearer 3 15 (byteAt l 37)
    depth := if byteAt l 38 < 4 then 3 else 5
    strict := byteAt l 39 != 0 }

/-- The judgement of one attempt (R176). -/
inductive ReadJudgement where
  | failed | badNumber | good (image : Image)
  deriving DecidableEq, Repr

/-- R176: an attempt fails without acknowledgement or with a wrong sum; a station number 0 or 63 leaves the station
UNCONFIGURED; otherwise the configuration is good. -/
def judgeRead : ConfigTransfer → ReadJudgement
  | .noAck => .failed
  | .bytes l =>
    if l.length ≠ 41 ∨ byteSum l ≠ 0 then .failed
    else if bitsAt l 0 0 6 = 0 ∨ bitsAt l 0 0 6 = 63 then .badNumber
    else .good (imageOf l)

end Sys2Proof.Machine
end

