-- ==== Sys2Proof/Machine/Operands.lean ====
section
/-! DEFINITION. The operand forms: how the readings that a command carries are classed into the bands, positions and fields that the units
work with. -/

namespace Sys2Proof.Machine

/-- R17: the band of a loop current, in microamperes; a boundary value belongs to the higher band. -/
def loopBandOf (microamps : Nat) : LoopBand :=
  if microamps < 2000 then .openLoop
  else if microamps < 12000 then .normal
  else if microamps < 20000 then .prealarm
  else if microamps < 40000 then .alarm
  else .short

/-- R17: on a HEAT or MANUAL loop a sample in PREALARM is read as NORMAL before it reaches the filter. -/
def readByKind (kind : LoopKind) (b : LoopBand) : LoopBand :=
  match kind, b with
  | .heat, .prealarm => .normal
  | .manual, .prealarm => .normal
  | _, b => b

/-- R42: the band of a watch line reading. -/
def watchBandOf : WatchReading → WatchBand
  | .endOfLine => .normal
  | .tripped => .active
  | .cut => .fault
  | .shorted => .fault

/-- R59: the position a door contact reads. -/
def positionOf : ContactReading → Position
  | .atRest => .closed
  | .away => .opened
  | .cut => .unknown
  | .shorted => .unknown

/-- R2: the position of the MODE key, or no position. -/
def keyPositionOf (r : ModeReading) : Option Mode :=
  match r.aClosed, r.bClosed with
  | false, false => some .pub
  | true, false => some .closed
  | true, true => some .night
  | false, true => none

/-- R2: the reading that a position gives. -/
def readingOf : Mode → ModeReading
  | .pub => { aClosed := false, bClosed := false }
  | .closed => { aClosed := true, bClosed := false }
  | .night => { aClosed := true, bClosed := true }

/-- R1: the start position of the MODE key, from three samples: the position all three give, or NIGHT. -/
def startPositionOf (k1 k2 k3 : ModeReading) : Mode :=
  if k1 = k2 ∧ k2 = k3 then (keyPositionOf k1).getD .night else .night

/-- R18: one sample through a three-sample filter whose record stands at `band`: the filter afterwards, and the band taken if the
count has reached three. The record's band may be absent, as a door's position is before its first reading (R59). -/
def Filter.sample {α : Type} [DecidableEq α] (f : Filter α) (band : Option α) (x : α) : Filter α × Option α :=
  if band = some x then (Filter.clear, none)
  else if f.candidate = some x then
    if f.count.val = 2 then (Filter.clear, some x)
    else ({ candidate := some x, count := f.count + 1 }, none)
  else ({ candidate := some x, count := 1 }, none)

/-- R6, R174: the mode field, code 3 being read as NIGHT. -/
def modeOfCode (c : BitVec 2) : Mode :=
  if c = 0 then .pub else if c = 1 then .closed else .night

/-- R111: the fire field. -/
def fireOfCode (c : BitVec 2) : FireState :=
  if c = 0 then .clear else if c = 1 then .prealarm else if c = 2 then .verify else .fire

/-- R111: a cost of 0 or above 200 is read as 255. -/
def costOfCode (c : Byte) : Nat :=
  if c.toNat = 0 ∨ 200 < c.toNat then 255 else c.toNat

/-- R111: a via of 63 is read as 0. -/
def viaOfCode (v : Station) : Station := if v = 63 then 0 else v

/-- R111, R173: the two marks of a door field. -/
def marksOfCode (c : BitVec 4) : DoorMarks := { fitted := c.getLsbD 3, passable := c.getLsbD 2 }

/-- A point field as an index. -/
def pointOfCode (p : BitVec 2) : Fin 4 := ⟨p.toNat, p.isLt⟩

/-- R98: a level above 7 is read as 7, and a level of 0 as 1 (in a notice that is not CLEARED). -/
def levelOfCode (l : BitVec 4) : Nat :=
  if 7 < l.toNat then 7 else if l.toNat = 0 then 1 else l.toNat

/-- R98: an answerer of 63 is read as 0, and a WAITING notice has none. -/
def answererOfCode (answered : Bool) (a : Station) : Station :=
  if answered then (if a = 63 then 0 else a) else 0

end Sys2Proof.Machine
end

