-- ==== Sys2Proof/Machine/Frames.lean ====
section
/-! DEFINITION. The frames of the Concourse link: their layout (R173), check byte (R168), the bits on the bus (R159) and what a receiver
reads from bits (R167). -/

namespace Sys2Proof

/-- The kind codes of R173. -/
def Frame.kindCode : Frame → BitVec 2
  | .status f => if f.urgent then 0 else 3
  | .call _ => 1
  | .answer _ => 2

/-- The source field. -/
def Frame.source : Frame → Station
  | .status f => f.source
  | .call f => f.source
  | .answer f => f.source

/-- The check byte as sent. -/
def Frame.check : Frame → Byte
  | .status f => f.check
  | .call f => f.check
  | .answer f => f.check

/-- R173: a header, kind in bits 7:6 and source in bits 5:0. -/
def headerByte (kind : BitVec 2) (source : Station) : Byte := kind ++ source

/-- R173: the bytes of a frame before its check byte, first byte first. -/
def Frame.body (fr : Frame) : List Byte :=
  headerByte fr.kindCode fr.source ::
  match fr with
  | .status f =>
    [ f.fire ++ f.guard ++ BitVec.ofBool f.intrusion ++ BitVec.ofBool f.round ++ BitVec.ofBool f.evacuation
        ++ BitVec.ofBool f.trouble,
      f.epoch, f.cost, f.mode ++ f.via, f.doors[0] ++ f.doors[1], f.doors[2] ++ f.doors[3] ]
  | .call f => [ f.point ++ f.state ++ f.level, f.spare ++ f.answerer ]
  | .answer f => [ f.spare1 ++ f.origin, f.spare2 ++ f.point ]

/-- R173: every byte of a frame, check byte last. -/
def Frame.bytes (fr : Frame) : List Byte := fr.body ++ [fr.check]

/-- R168: one shift of the check register. -/
def crcShift (r : Byte) : Byte := if r.getLsbD 7 then (r <<< 1) ^^^ 0x07#8 else r <<< 1

/-- R168: one byte taken into the check register. -/
def crcByte (r b : Byte) : Byte :=
  crcShift (crcShift (crcShift (crcShift (crcShift (crcShift (crcShift (crcShift (r ^^^ b))))))))

/-- R168: the check byte over a list of bytes. -/
def crc (l : List Byte) : Byte := l.foldl crcByte 0

/-- R168: the frame's check byte is the one computed over the bytes before it. -/
def Frame.checkOk (fr : Frame) : Bool := fr.check == crc fr.body

/-- R168: a frame with its check byte filled in by the sender. -/
def Frame.sealed : Frame → Frame
  | .status f => .status { f with check := crc (Frame.status f).body }
  | .call f => .call { f with check := crc (Frame.call f).body }
  | .answer f => .answer { f with check := crc (Frame.answer f).body }

/-- R173: the fields of a STATUS from its bytes after the header. -/
def statusOfBytes (urgent : Bool) (source : Station) (b1 b2 b3 b4 b5 b6 b7 : Byte) : StatusFrame :=
  { urgent := urgent, source := source
    fire := b1.extractLsb' 6 2, guard := b1.extractLsb' 4 2, intrusion := b1.getLsbD 3, round := b1.getLsbD 2
    evacuation := b1.getLsbD 1, trouble := b1.getLsbD 0, epoch := b2, cost := b3
    mode := b4.extractLsb' 6 2, via := b4.extractLsb' 0 6
    doors := #v[b5.extractLsb' 4 4, b5.extractLsb' 0 4, b6.extractLsb' 4 4, b6.extractLsb' 0 4], check := b7 }

/-- R173: the fields of a CALL. -/
def callOfBytes (source : Station) (b1 b2 b3 : Byte) : CallFrame :=
  { source := source, point := b1.extractLsb' 6 2, state := b1.extractLsb' 4 2, level := b1.extractLsb' 0 4
    spare := b2.extractLsb' 6 2, answerer := b2.extractLsb' 0 6, check := b3 }

/-- R173: the fields of an ANSWER. -/
def answerOfBytes (source : Station) (b1 b2 b3 : Byte) : AnswerFrame :=
  { source := source, spare1 := b1.extractLsb' 6 2, origin := b1.extractLsb' 0 6, spare2 := b2.extractLsb' 2 6
    point := b2.extractLsb' 0 2, check := b3 }

/-- R173: the frame that a list of bytes lays out; `none` where the number of bytes is not the kind's. -/
def Frame.ofBytes : List Byte → Option Frame
  | [h, b1, b2, b3, b4, b5, b6, b7] =>
    if h.extractLsb' 6 2 = (0 : BitVec 2) then
      some (.status (statusOfBytes true (h.extractLsb' 0 6) b1 b2 b3 b4 b5 b6 b7))
    else if h.extractLsb' 6 2 = (3 : BitVec 2) then
      some (.status (statusOfBytes false (h.extractLsb' 0 6) b1 b2 b3 b4 b5 b6 b7))
    else none
  | [h, b1, b2, b3] =>
    if h.extractLsb' 6 2 = (1 : BitVec 2) then some (.call (callOfBytes (h.extractLsb' 0 6) b1 b2 b3))
    else if h.extractLsb' 6 2 = (2 : BitVec 2) then some (.answer (answerOfBytes (h.extractLsb' 0 6) b1 b2 b3))
    else none
  | _ => none

/-- R159: the bits of a byte, most significant first, `true` for a recessive 1. -/
def byteBits (b : Byte) : List Bool :=
  [b.getLsbD 7, b.getLsbD 6, b.getLsbD 5, b.getLsbD 4, b.getLsbD 3, b.getLsbD 2, b.getLsbD 1, b.getLsbD 0]

/-- R159: a frame on the bus: a dominant start bit, then each byte followed by a recessive separator. -/
def Frame.wire (fr : Frame) : List Bool := false :: fr.bytes.flatMap fun b => byteBits b ++ [true]

/-- R159: the byte that eight bits give, most significant first. -/
def byteOfBits (l : List Bool) : Byte := l.foldl (fun (acc : Byte) b => (acc <<< 1) ||| (if b then 1#8 else 0#8)) 0

/-- R167: n bytes read from bits after a start bit. A bit nobody drove is recessive; a separator read dominant ends the frame:
`none`. -/
def readBytes : Nat → List Bool → Option (List Byte)
  | 0, _ => some []
  | n + 1, l =>
    let padded := l ++ List.replicate 9 true
    if padded.getD 8 true then (readBytes n (l.drop 9)).map (byteOfBits (padded.take 8) :: ·) else none

/-- R167: the number of bytes, from the first two bits of the header: kinds 0 and 3 have eight, kinds 1 and 2 four. -/
def frameLength (l : List Bool) : Nat := if l.getD 0 true == l.getD 1 true then 8 else 4

/-- R167: what a receiver makes of the bits after a start bit: the frame, or `none` for a wrong length. -/
def Frame.ofBits (l : List Bool) : Option Frame := (readBytes (frameLength l) l).bind Frame.ofBytes

end Sys2Proof
end

