-- ==== Sys2Proof/Machine/Timers.lean ====
section
/-! DEFINITION. The timer bank: the four operations an owner makes on its channel (R153), what a tick does (R151, R152), and the taking of
events (R154). -/

namespace Sys2Proof.Machine

/-- R150: a load of a reload of 0 is taken as 1. -/
def reloadOf (r : Nat) : Nat := if r = 0 then 1 else r

/-- R153, preset: the fields are replaced, the count is loaded, the channel is halted; R154: events not yet taken are withdrawn. -/
def Channel.preset (_ch : Channel) (reload : Nat) (rate : TickRate) (kind : ChanKind) (compare : Nat) : Channel :=
  { reload := reloadOf reload, count := reloadOf reload, rate := rate, kind := kind, compare := compare
    running := false, waiting := [] }

/-- R153, resume: a halted channel runs on from its held count, a held count of 0 being loaded from the reload first; nothing is
withdrawn. -/
def Channel.resume (ch : Channel) : Channel :=
  if ch.running then ch
  else { ch with running := true, count := if ch.count = 0 then ch.reload else ch.count }

/-- R153, start: a preset followed at once by a resume. -/
def Channel.start (ch : Channel) (reload : Nat) (rate : TickRate) (kind : ChanKind) (compare : Nat) : Channel :=
  (ch.preset reload rate kind compare).resume

/-- R153, stop: the running flag is cleared and the count held; R154: events not yet taken are withdrawn. -/
def Channel.stop (ch : Channel) : Channel := { ch with running := false, waiting := [] }

/-- R151: what the channel holds once its count has reached 0. -/
def Channel.expired (ch : Channel) : Channel :=
  match ch.kind with
  | .oneShot => { ch with count := 0, running := false }
  | .periodic => { ch with count := ch.reload }

/-- R151, R152: one tick of the channel's own rate. -/
def Channel.tick (ch : Channel) : Channel :=
  if !ch.running || ch.count == 0 then ch
  else
    let low := { ch with count := ch.count - 1 }
    if low.count = 0 then { low.expired with waiting := ch.waiting ++ [.expiry] }
    else if low.count = ch.compare ∧ ch.compare ≠ 0 then { low with waiting := ch.waiting ++ [.compare] }
    else low

/-- R152: the compare event waits, or the count has still to pass the compare value. -/
def Channel.compareDue (ch : Channel) : Bool :=
  ch.waiting.contains .compare || (ch.running && ch.compare != 0 && ch.compare < ch.count)

/-- R154: the owner takes the compare event, one that waits, or else one that the command itself brings by the ticks that
were left to it (notes/assumptions/6.md). `none`: no compare event arrives. -/
def Channel.takeCompare (ch : Channel) : Option Channel :=
  if ch.waiting.contains .compare then some { ch with waiting := ch.waiting.erase .compare }
  else if ch.compareDue then some { ch with count := ch.compare }
  else none

/-- R154: the owner takes the expiry, one that waits, or else one that the command itself brings by the ticks that were left to it
(notes/assumptions/6.md); R152: a compare event not yet taken is taken before it. `none`: no expiry arrives. -/
def Channel.takeExpiry (ch : Channel) : Option Channel :=
  if ch.waiting.contains .expiry then
    some { ch with waiting := (ch.waiting.erase .expiry).filter fun e => e != .compare }
  else if ch.running then
    some { ch.expired with waiting := ch.waiting.filter fun e => e != .compare }
  else none

/-- A channel by its name. -/
def TimerBank.get (t : TimerBank) : Chan → Channel
  | .t0 => t.t0
  | .pair => t.pair
  | .door d => t.doors[d]
  | .point p => t.points[p]
  | .silence k => t.silence[k]
  | .t15 => t.t15
  | .t16 => t.t16
  | .t17 => t.t17
  | .t18 => t.t18
  | .t19 => t.t19
  | .t20 => t.t20
  | .t21 => t.t21

/-- The bank with one channel replaced. -/
def TimerBank.set (t : TimerBank) (c : Chan) (ch : Channel) : TimerBank :=
  match c with
  | .t0 => { t with t0 := ch }
  | .pair => { t with pair := ch }
  | .door d => { t with doors := t.doors.set d ch }
  | .point p => { t with points := t.points.set p ch }
  | .silence k => { t with silence := t.silence.set k ch }
  | .t15 => { t with t15 := ch }
  | .t16 => { t with t16 := ch }
  | .t17 => { t with t17 := ch }
  | .t18 => { t with t18 := ch }
  | .t19 => { t with t19 := ch }
  | .t20 => { t with t20 := ch }
  | .t21 => { t with t21 := ch }

/-- The bank with every channel changed alike. -/
def TimerBank.mapAll (t : TimerBank) (f : Channel → Channel) : TimerBank :=
  { t0 := f t.t0, pair := f t.pair, doors := Vector.ofFn fun d => f t.doors[d]
    points := Vector.ofFn fun p => f t.points[p], silence := Vector.ofFn fun k => f t.silence[k]
    t15 := f t.t15, t16 := f t.t16, t17 := f t.t17, t18 := f t.t18, t19 := f t.t19, t20 := f t.t20, t21 := f t.t21 }

/-- R158, R178: every channel stopped, every event not yet taken withdrawn. -/
def TimerBank.stopAll (t : TimerBank) : TimerBank := t.mapAll Channel.stop

/-- R151: one step of 10 ms; the 100 ms and the 1 s ticks fall when `tick100` and `tick1s` say so. -/
def TimerBank.tick (t : TimerBank) (tick100 tick1s : Bool) : TimerBank :=
  t.mapAll fun ch =>
    match ch.rate with
    | .ms10 => ch.tick
    | .ms100 => if tick100 then ch.tick else ch
    | .s1 => if tick1s then ch.tick else ch

/-- The channels, T0 first. -/
def Chan.all : List Chan :=
  [.t0, .pair, .door 0, .door 1, .door 2, .door 3, .point 0, .point 1, .point 2, .point 3,
   .silence 0, .silence 1, .silence 2, .silence 3, .t15, .t16, .t17, .t18, .t19, .t20, .t21]

end Sys2Proof.Machine
end

