-- ==== Sys2Proof/Machine/Flags.lean ====
section
/-! DEFINITION. What is computed from the state and stored nowhere: the conditions the rules ask for, the response table, the claim slots and their
resolution, call levels, and the lamps and the buzzer as they are seen. -/

namespace Sys2Proof

/-- R57: an owned door. -/
def DoorDesc.isOwned (desc : DoorDesc) : Bool := desc.kind != .blank && desc.owned

/-- R57: a shadow door. -/
def DoorDesc.isShadow (desc : DoorDesc) : Bool := desc.kind == .interior && !desc.owned

/-- R187: the fixed duration of a one-shot pattern, in 10 ms. -/
def OneShot.duration : OneShot → Nat
  | .refuse => 40
  | .callChirp => 10
  | .warning => 30

end Sys2Proof

namespace Sys2Proof.Machine

/-! ### Phases in which events are taken -/

/-- The configuration in force, or the values of UNCONFIGURED (R40, R56, R84, R108, R148). -/
def State.cfg (s : State) : Image := s.start.image.getD Image.unconfigured

/-- The own station number; 0 while there is no image. -/
def State.own (s : State) : Station := s.cfg.station

/-- R178: events are taken while no reset condition holds. -/
def State.live (s : State) : Bool := s.start.condition == .none

/-- R17, R42, R44, R59, R64, R169: LISTEN, RELEARN and RUN, the phases of sampling, of frames and of the PASSAGE key. -/
def State.hearing (s : State) : Bool :=
  s.live && (s.start.phase == .listen || s.start.phase == .relearn || s.start.phase == .run)

/-- R188: the phases in which the keys other than MODE and PASSAGE are taken. -/
def State.keyed (s : State) : Bool := s.hearing || (s.live && s.start.phase == .unconfigured)

/-- R180: LISTEN or RELEARN, the phases whose period T19 counts. -/
def State.listening (s : State) : Bool := s.start.phase == .listen || s.start.phase == .relearn

/-- The channel of a name. -/
def State.channel (s : State) (c : Chan) : Channel := s.timers.get c

/-! ### Response table (R11 to R13) -/

/-- The columns of the response table (R11). -/
inductive Column where
  | pub | closed | setting | watching | watchingRound
  deriving DecidableEq, Repr

/-- The rows of the response table (R12). -/
inductive WatchEvent where
  | active (kind : WatchKind) | fault | callButton | forced | held
  deriving DecidableEq, Repr

/-- The responses (R13). -/
inductive Response where
  | nothing | local | trouble | call | alert
  deriving DecidableEq, Repr

/-- R11: the column in effect. -/
def columnOf (mode : Mode) (guard : GuardState) (round : Bool) : Column :=
  match mode with
  | .pub => .pub
  | .closed => .closed
  | .night => if guard = .watching then (if round then .watchingRound else .watching) else .setting

/-- R13: the response table. UNUSED inputs raise no event. -/
def responseTable : WatchEvent → Column → Response
  | .active .showcase, _ => .alert
  | .active .motion, .watching => .alert
  | .active .motion, _ => .nothing
  | .active .beam, .pub => .nothing
  | .active .beam, .watching => .alert
  | .active .beam, _ => .local
  | .active .tamper, .pub => .trouble
  | .active .tamper, .closed => .trouble
  | .active .tamper, _ => .alert
  | .active .unused, _ => .nothing
  | .fault, .watching => .alert
  | .fault, _ => .trouble
  | .callButton, .setting => .local
  | .callButton, .watching => .alert
  | .callButton, _ => .call
  | .forced, .closed => .alert
  | .forced, .watching => .alert
  | .forced, _ => .local
  | .held, .watching => .alert
  | .held, _ => .local

/-- R11: the column in which this station looks an event up now. -/
def State.column (s : State) : Column := columnOf s.modes.mode s.watch.guard s.watch.round

/-! ### Neighbour entries -/

/-- The entry that stands for a station (R110). -/
def State.entryFor (s : State) (n : Station) : Option NbEntry :=
  (s.table.entries.toList.filterMap id).find? fun e => e.station == n

/-- R26: an entry is corroborating while it is FRESH and last reported PREALARM, VERIFY or FIRE. -/
def NbEntry.corroborating (e : NbEntry) : Bool := e.state == .fresh && e.fire != .clear

/-- R22: some neighbour entry is corroborating. -/
def State.corroborated (s : State) : Bool :=
  (s.table.entries.toList.filterMap id).any NbEntry.corroborating

/-! ### Doors -/

/-- The record of a door position. -/
def State.door (s : State) (d : Fin 4) : DoorRec := s.doors.records[d]

/-- The owned door positions, lowest first. -/
def State.ownedDoors (s : State) : List (Fin 4) :=
  (List.finRange 4).filter fun d => (s.door d).desc.isOwned

/-- The claim slots, in the default order of R65. -/
inductive ClaimSlot where
  | fire | lockdown | passage | schedule
  deriving DecidableEq, Repr

/-- The default order of R65. -/
def ClaimSlot.inOrder : List ClaimSlot := [.fire, .lockdown, .passage, .schedule]

/-- R63: the neighbour entry of an INTERIOR door holds the intrusion flag set. -/
def State.neighbourIntrusion (s : State) (d : Fin 4) : Bool :=
  (s.door d).desc.kind == .interior && ((s.entryFor (s.door d).desc.neighbour).map NbEntry.intrusion).getD false

/-- R60 to R64: a slot of an owned door stands while its condition holds. -/
def State.slotStands (s : State) (d : Fin 4) : ClaimSlot → Bool
  | .fire => s.fire.evac
  | .lockdown => s.watch.intrusion || s.neighbourIntrusion d
  | .passage => s.doors.passage
  | .schedule => true

/-- R60: the level of a slot. -/
def State.slotLevel (s : State) : ClaimSlot → Nat
  | .fire => 16
  | .lockdown => s.cfg.lockdownLevel
  | .passage => s.cfg.passageLevel
  | .schedule => 2

/-- R60, R61: the lock preference of a slot; every slot has one. -/
def slotLock (mode : Mode) (kind : DoorKind) : ClaimSlot → Option LockOut
  | .fire => some .free
  | .lockdown => some .locked
  | .passage => some .free
  | .schedule =>
    match mode, kind with
    | .pub, _ => some .free
    | .closed, .exit => some .locked
    | .closed, _ => some .free
    | .night, _ => some .locked

/-- R60, R61: the hold preference of a slot; PASSAGE has none. -/
def slotHold (mode : Mode) (kind : DoorKind) : ClaimSlot → Option HoldOut
  | .fire => some .dropped
  | .lockdown => some .dropped
  | .passage => none
  | .schedule =>
    match mode, kind with
    | .pub, .interior => some .holding
    | _, _ => some .dropped

/-- R65: of wishes with levels, in the default order, the one of highest level, the first among equals. -/
def strongest {α : Type} (l : List (Nat × α)) : Option (Nat × α) :=
  l.foldl (fun best x => match best with
    | none => some x
    | some b => if b.1 < x.1 then some x else some b) none

/-- R65: the standing slots of a door with a preference for one aspect, with their levels. -/
def State.wishes {α : Type} (s : State) (d : Fin 4) (pref : ClaimSlot → Option α) : List (Nat × α) :=
  ClaimSlot.inOrder.filterMap fun slot =>
    if s.slotStands d slot then (pref slot).map fun w => (s.slotLevel slot, w) else none

/-- R65: the resolved lock; `locked` is LOCK. -/
def State.resolvedLock (s : State) (d : Fin 4) : LockOut :=
  ((strongest (s.wishes d (slotLock s.modes.mode (s.door d).desc.kind))).map Prod.snd).getD .free

/-- R65: the resolved hold; `holding` is HOLD. -/
def State.resolvedHold (s : State) (d : Fin 4) : HoldOut :=
  ((strongest (s.wishes d (slotHold s.modes.mode (s.door d).desc.kind))).map Prod.snd).getD .dropped

/-- R66: the lock is due and waits for the door to close. -/
def State.lockPending (s : State) (d : Fin 4) : Bool :=
  s.resolvedLock d == .locked && (s.door d).position == some .opened && (s.door d).lock == .free

/-- R74: the condition under which ajar timing runs. -/
def State.ajarDue (s : State) (d : Fin 4) : Bool :=
  s.lockPending d && ((s.door d).phase == some .opened || (s.door d).phase == some .blocked)

/-- R82, R182: the outputs of this door are frozen. -/
def State.frozen (s : State) (d : Fin 4) : Bool := s.start.freeze && (s.door d).keep

/-- R79: passability: of an owned door by its lock output, of a shadow door by its owner's field (R58); a BLANK position
is not passable. -/
def State.passable (s : State) (d : Fin 4) : Bool :=
  let r := s.door d
  if r.desc.kind = .blank then false
  else if r.desc.isOwned then r.lock == .free
  else
    match s.entryFor r.desc.neighbour with
    | none => false
    | some e => e.fields[r.desc.nbDoor].fitted && e.fields[r.desc.nbDoor].passable

/-! ### Calls -/

/-- R85: the record of a call point. -/
def State.point (s : State) (p : Fin 4) : PointRec := s.calls.points[p]

/-- R85: a point is open while WAITING or ANSWERED. -/
def PointRec.isOpen (r : PointRec) : Bool := r.state != .idle

/-- R44, R85: the point is one of the configured number. -/
def State.pointFitted (s : State) (p : Fin 4) : Bool := p.val < s.cfg.points

/-- The open call points, lowest first. -/
def State.openPoints (s : State) : List (Fin 4) := (List.finRange 4).filter fun p => (s.point p).isOpen

/-- R87: the base level. Until the first computation a set evacuation flag gives REFUGE. -/
def State.baseLevel (s : State) : Nat :=
  if !s.fire.evac then 1 else if s.egress.computed && s.egress.cost == 255 then 7 else 5

/-- R87: the candidate level. -/
def State.candidateLevel (s : State) (late : Bool) : Nat :=
  if late && s.baseLevel < 7 then s.baseLevel + 1 else s.baseLevel

/-- R95: the identity of an own call point. -/
def State.ownCall (s : State) (p : Fin 4) : CallId := { origin := s.own, point := p }

/-- R95: an entry is answered by the station `n`. -/
def CallEntry.answeredBy (e : CallEntry) (n : Station) : Bool := e.answered && e.answerer == n

/-! ### Scenes -/

/-- R139: the base scene of a mode. -/
def baseScene : Mode → Scene
  | .pub => .opened
  | .closed => .dim
  | .night => .dark

/-- The scene on top of the stack (R138). -/
def LightUnit.top (l : LightUnit) : Scene := l.above.getLast?.getD l.base

/-- R139: the stack, bottom first. -/
def LightUnit.stack (l : LightUnit) : List Scene := l.base :: l.above

/-- R146, R148: the forced setting is driven in a cold reset, in the CONFIG-READ of a cold start and in UNCONFIGURED. -/
def State.forced (s : State) : Bool :=
  s.start.condition == .cold || (s.start.phase == .configRead && s.start.kind == .cold)
    || s.start.phase == .unconfigured

/-- R137: the sign of one fitted door in a scene. -/
def sceneSign (sc : Scene) (v : Verdict) : SignOut :=
  match sc with
  | .dark | .intrusion => .dark
  | .opened | .dim | .round => if v = .go then .arrow else .dark
  | .test => .arrow
  | .evacuate => match v with
    | .go => .arrow
    | .bar => .cross
    | .neutral => .dark

/-- R136, R137: the outputs the scene on top sets; the sign of a BLANK position is DARK. -/
def State.sceneOutputs (s : State) : Outputs :=
  let sc := s.light.top
  { lights := match sc with
      | .dark | .dim => false
      | .opened | .round | .intrusion | .test | .evacuate => true
    lamp := match sc with
      | .test => .on
      | .evacuate => if s.egress.computed && s.egress.cost == 255 then .flash else .on
      | .dark | .opened | .dim | .round | .intrusion => .off
    sounder := match sc with
      | .intrusion => .pulse
      | .evacuate => if s.fire.silenced then .off else .on
      | .dark | .opened | .dim | .round | .test => .off
    signs := Vector.ofFn fun d =>
      if (s.door d).desc.kind = .blank then .dark else sceneSign sc s.egress.verdicts[d] }

/-! ### What is seen: rhythm of the gallery outputs (R136), panel and call point lamps (R92, R189), buzzer (R187) -/

/-- R136: 0.5 s lit, 0.5 s dark. -/
def Clock.lightingFlash (c : Clock) : Bool := c.lighting.val / 50 % 2 == 0

/-- R136: 1 s sounding, 1 s silent. -/
def Clock.lightingPulse (c : Clock) : Bool := c.lighting.val / 100 % 2 == 0

/-- The emergency lamp is lit now. -/
def State.lampLit (s : State) : Bool :=
  match s.light.out.lamp with
  | .off => false
  | .on => true
  | .flash => s.clock.lightingFlash

/-- The sounder sounds now. -/
def State.sounding (s : State) : Bool :=
  match s.light.out.sounder with
  | .off => false
  | .on => true
  | .pulse => s.clock.lightingPulse

/-- The cross of a sign is lit now. -/
def State.crossLit (s : State) (d : Fin 4) : Bool :=
  s.light.out.signs[d] == .cross && s.clock.lightingFlash

/-- The patterns of the panel lamps and the call point lamps (R189). -/
inductive LampPattern where
  | off | steady | slow | flash | fast
  deriving DecidableEq, Repr

/-- R189: a lamp of a pattern is lit now. -/
def LampPattern.lit (p : LampPattern) (c : Clock) : Bool :=
  match p with
  | .off => false
  | .steady => true
  | .slow => c.panel.val / 200 % 2 == 0
  | .flash => c.panel.val / 100 % 2 == 0
  | .fast => c.panel.val / 25 % 2 == 0

/-- R92: the lamp of a call point. -/
def PointRec.lamp (r : PointRec) : LampPattern :=
  match r.state with
  | .idle => .off
  | .waiting => if r.hurry then .fast else .flash
  | .answered => .steady

/-- R189: the FIRE lamp. -/
def State.fireLamp (s : State) : LampPattern :=
  if s.fire.state = .fire then .steady
  else if s.table.roster ≠ [] then .flash
  else if s.fire.state = .verify then .slow
  else .off

/-- R189: the WATCH lamp. -/
def State.watchLamp (s : State) : LampPattern :=
  if s.watch.intrusion then .steady else if s.watch.localLatch then .slow else .off

/-- R105, R189: the CALL lamp. -/
def State.callLamp (s : State) : LampPattern :=
  if s.calls.list.any fun e => e.answeredBy s.own then .steady
  else if s.calls.list.any fun e => !e.answered then .flash
  else .off

/-- R185, R189: the TROUBLE lamp. -/
def State.troubleLamp (s : State) : LampPattern := if s.troubles.record = [] then .off else .steady

/-- The record of a one-shot pattern. -/
def Buzzer.oneShot (b : Buzzer) : OneShot → OneShotRec
  | .refuse => b.refuse
  | .callChirp => b.callChirp
  | .warning => b.warning

/-- R187: the buzzer is on: the highest pattern present decides, from the point its own rhythm has reached. -/
def Buzzer.on (b : Buzzer) : Bool :=
  match b.verify, b.refuse.age, b.callChirp.age, b.warning.age, b.trouble with
  | some a, _, _, _, _ => a / 25 % 2 == 0
  | none, some _, _, _, _ => true
  | none, none, some _, _, _ => true
  | none, none, none, some a, _ => a / 10 % 2 == 0
  | none, none, none, none, some a => a % 200 < 10
  | none, none, none, none, none => false

/-! ### Transmit slots -/

/-- The pending mark of a slot (R163). -/
def LinkUnit.isPending (l : LinkUnit) : Slot → Bool
  | .status => l.status
  | .call p => l.calls[p]
  | .answer => l.offer.isSome

/-- The in-flight mark of a slot (R163). -/
def LinkUnit.isInFlight (l : LinkUnit) (slot : Slot) : Bool := (l.sending.map Sending.slot) == some slot

/-- R164: a STATUS sent now is STATUS-URGENT. -/
def State.urgent (s : State) : Bool := s.fire.state != .clear || s.watch.intrusion || s.fire.evac

/-- R164: the STATUS slot is eligible while T16 is not running. -/
def State.statusReady (s : State) : Bool := s.link.status && !s.timers.t16.running

/-- R164: the slot a frame begun now is sent from: by kind code, and among CALL slots by the lower point index. -/
def State.chosenSlot (s : State) : Option Slot :=
  if s.statusReady && s.urgent then some .status
  else match (List.finRange 4).find? fun p => s.link.calls[p] with
    | some p => some (.call p)
    | none =>
      if s.link.offer.isSome then some .answer
      else if s.statusReady then some .status
      else none

/-- R160: the moment at which a frame begins. -/
def State.mayBegin (s : State) : Bool :=
  s.live && s.start.phase == .run && !s.link.quiet && s.link.bus == .idle && s.link.sending.isNone && s.chosenSlot.isSome

/-- R159, R160: a frame of another station can reach its end here: one that is followed, or one that begins on the idle bus, or on a bus that
has stayed recessive under a start bit of this station (R161); while a frame of this station is under way none can. -/
def LinkUnit.receives (l : LinkUnit) : Bool :=
  l.sending.isNone && (l.bus == .idle || l.bus == .following || l.bus == .recessive)

/-- R167: dominant bits belong to no frame here, because the bus has not been idle since the last frame; `counted` as in `BusView`. -/
def LinkUnit.awaits (l : LinkUnit) (counted : Bool) : Bool := l.sending.isNone && l.bus == .waiting counted

end Sys2Proof.Machine
end

