-- ==== Sys2Proof/Machine/Ops.lean ====
section
/-! DEFINITION. The shared operations that several units use: deliveries in a free order, timers, transmit marks, the trouble record, the buzzer
arbiter, the lighting outputs and the scene stack. -/

namespace Sys2Proof.Machine

/-! ### Deliveries that do not wait for another -/

/-- The next digit of the free order, below n (notes/assumptions/1.md). -/
def State.drawn (s : State) (n : Nat) : Nat := s.order % n

/-- The order after a draw below n. -/
def State.afterDraw (s : State) (n : Nat) : State := { s with order := s.order / n }

/-- Take deliveries one at a time, each time one of those that are left, picked by the free order. `fuel` is their number. -/
def deliverFuel : Nat → List (State → State) → State → State
  | 0, _, s => s
  | fuel + 1, fs, s =>
    match fs[s.drawn fs.length]? with
    | none => s
    | some f => deliverFuel fuel (fs.eraseIdx (s.drawn fs.length)) (f (s.afterDraw fs.length))

/-- R34, R113, R172, R180 and the rules like them: the deliveries of one event, in any order. -/
def deliver (fs : List (State → State)) (s : State) : State := deliverFuel fs.length fs s

/-! ### The panel keys, by name -/

/-- The line of a key. -/
def Pins.key (p : Pins) : PanelKey → Bool
  | .ack => p.ack
  | .restore => p.restore
  | .accept => p.accept
  | .guard => p.guard
  | .passage => p.passage
  | .test => p.test

/-- The line of a key closed or opened. -/
def Pins.setKey (p : Pins) (k : PanelKey) (closed : Bool) : Pins :=
  match k with
  | .ack => { p with ack := closed }
  | .restore => { p with restore := closed }
  | .accept => { p with accept := closed }
  | .guard => { p with guard := closed }
  | .passage => { p with passage := closed }
  | .test => { p with test := closed }

/-- The filter of a key (R188). -/
def KeyFilters.get (f : KeyFilters) : PanelKey → ButtonRec
  | .ack => f.ack
  | .restore => f.restore
  | .accept => f.accept
  | .guard => f.guard
  | .passage => f.passage
  | .test => f.test

/-- The filter of a key replaced. -/
def KeyFilters.set (f : KeyFilters) (k : PanelKey) (r : ButtonRec) : KeyFilters :=
  match k with
  | .ack => { f with ack := r }
  | .restore => { f with restore := r }
  | .accept => { f with accept := r }
  | .guard => { f with guard := r }
  | .passage => { f with passage := r }
  | .test => { f with test := r }

/-- The press of a key, as a command (R188). -/
def PanelKey.command : PanelKey → Instr
  | .ack => .ack
  | .restore => .restore
  | .accept => .accept
  | .guard => .guard
  | .passage => .passage
  | .test => .test

/-- The line of a key as the outside world closes or opens it. -/
def State.setKeyLine (s : State) (k : PanelKey) (closed : Bool) : State := { s with pins := s.pins.setKey k closed }

/-- One key filter replaced (R188). -/
def State.setKeyRec (s : State) (k : PanelKey) (r : ButtonRec) : State := { s with keys := s.keys.set k r }

/-! ### Timers of the station -/

/-- One channel replaced. -/
def State.setChannel (s : State) (c : Chan) (ch : Channel) : State := { s with timers := s.timers.set c ch }

/-- R153: an owner stops its channel. -/
def State.stopTimer (s : State) (c : Chan) : State := s.setChannel c (s.channel c).stop

/-- R153: an owner presets its channel. -/
def State.presetTimer (s : State) (c : Chan) (reload : Nat) (rate : TickRate) (kind : ChanKind) (compare : Nat) : State :=
  s.setChannel c ((s.channel c).preset reload rate kind compare)

/-- R153: an owner resumes its channel. -/
def State.resumeTimer (s : State) (c : Chan) : State := s.setChannel c (s.channel c).resume

/-- R153: an owner starts its channel; R158: in CONFIG-READ no channel runs, so a timing begun there leaves it stopped until the
configuration is judged. -/
def State.startTimer (s : State) (c : Chan) (reload : Nat) (rate : TickRate) (kind : ChanKind) (compare : Nat) : State :=
  if s.start.phase = .configRead then s.stopTimer c
  else s.setChannel c ((s.channel c).start reload rate kind compare)

/-- R154: the owner of a channel takes its expiry for a purpose that stands, and `act` is what the owner then does. -/
def State.onExpiry (s : State) (c : Chan) (purpose : Bool) (act : State → State) : State :=
  if s.live && purpose then
    match (s.channel c).takeExpiry with
    | none => s
    | some ch => act (s.setChannel c ch)
  else s

/-- R152, R154: the owner of a channel takes its compare event for a purpose that stands. -/
def State.onCompare (s : State) (c : Chan) (purpose : Bool) (act : State → State) : State :=
  if s.live && purpose then
    match (s.channel c).takeCompare with
    | none => s
    | some ch => act (s.setChannel c ch)
  else s

/-! ### Transmit marks (R163) -/

/-- The STATUS slot is marked pending. -/
def State.markStatus (s : State) : State := { s with link := { s.link with status := true } }

/-- R93: the CALL slot of a point is marked pending. -/
def State.markCall (s : State) (p : Fin 4) : State := { s with link := { s.link with calls := s.link.calls.set p true } }

/-! ### Buzzer (R187) -/

/-- R187: a presentation of a one-shot pattern: present, or queued behind the one present, up to four, a fifth being dropped. -/
def OneShotRec.presented (r : OneShotRec) : OneShotRec :=
  match r.age with
  | none => { r with age := some 0 }
  | some _ => if r.queued < 4 then { r with queued := r.queued + 1 } else r

/-- R187: the duration of the presentation ends, and the next queued one becomes present. -/
def OneShotRec.ended (r : OneShotRec) : OneShotRec :=
  match r.age with
  | none => r
  | some _ => if r.queued = 0 then { r with age := none } else { age := some 0, queued := r.queued - 1 }

/-- One one-shot record replaced. -/
def Buzzer.setOneShot (b : Buzzer) (p : OneShot) (r : OneShotRec) : Buzzer :=
  match p with
  | .refuse => { b with refuse := r }
  | .callChirp => { b with callChirp := r }
  | .warning => { b with warning := r }

/-- A unit presents a one-shot pattern. -/
def State.present (s : State) (p : OneShot) : State :=
  { s with buzzer := s.buzzer.setOneShot p (s.buzzer.oneShot p).presented }

/-- R23, R186, R187: the sustained patterns follow their conditions; one that stays present keeps its rhythm. -/
def State.syncBuzzer (s : State) : State :=
  { s with buzzer := { s.buzzer with
      verify := if s.fire.phase = .ackWindow then some (s.buzzer.verify.getD 0) else none
      trouble := if s.troubles.record ≠ [] ∧ !s.troubles.silenced then some (s.buzzer.trouble.getD 0) else none } }

/-! ### Trouble record (R184 to R186) -/

/-- R184 to R186: a member is entered: a new one clears the buzzer-silenced flag, and the first one marks STATUS pending. -/
def State.enterTrouble (s : State) (t : Trouble) : State :=
  if t ∈ s.troubles.record then s
  else
    let s1 := { s with troubles := { record := s.troubles.record ++ [t], silenced := false } }
    (if s.troubles.record = [] then s1.markStatus else s1).syncBuzzer

/-- R184, R185: members are removed: STATUS is marked pending when the record becomes empty. -/
def State.removeTroubles (s : State) (gone : Trouble → Bool) : State :=
  let left := s.troubles.record.filter fun t => !gone t
  let s1 := { s with troubles := { s.troubles with record := left } }
  (if s.troubles.record ≠ [] ∧ left = [] then s1.markStatus else s1).syncBuzzer

/-- R184: one member is removed; removing an absent one does nothing. -/
def State.removeTrouble (s : State) (t : Trouble) : State := s.removeTroubles fun u => u == t

/-- R184: the latched members. -/
def Trouble.latched : Trouble → Bool
  | .linkDrive | .duplicate | .callListFull => true
  | .loop _ | .watchLine _ | .doorPosition _ | .doorBlocked _ | .neighbourMute _ | .linkNoise | .config => false

/-! ### Lighting outputs and scene stack (R138 to R148) -/

/-- R138, R146 to R148: the outputs are set anew: the forced setting, or nothing while frozen, or what the scene on top sets. -/
def State.refreshLights (s : State) : State :=
  if s.forced then { s with light := { s.light with out := Outputs.forced } }
  else if s.start.freeze then s
  else { s with light := { s.light with out := s.sceneOutputs } }

/-- R140: a scene is placed: on top, or directly below EVACUATE. -/
def placeScene (sc : Scene) (above : List Scene) : List Scene :=
  if .evacuate ∈ above ∧ sc ≠ .evacuate then above.erase .evacuate ++ [sc, .evacuate] else above ++ [sc]

/-- R141: the victim, the lowest entry above the bottom that is not EVACUATE, is removed. -/
def dropVictim (above : List Scene) : List Scene := above.eraseP fun sc => sc != .evacuate

/-- R140, R141: the entries above the base after a push at a depth limit. -/
def pushed (depth : Nat) (sc : Scene) (above : List Scene) : List Scene :=
  if sc ∈ above then placeScene sc (above.erase sc)
  else if depth ≤ above.length + 1 then placeScene sc (dropVictim above)
  else placeScene sc above

/-- R140: a push. -/
def State.pushScene (s : State) (sc : Scene) : State :=
  State.refreshLights { s with light := { s.light with above := pushed s.cfg.depth sc s.light.above } }

/-- R142: a removal. -/
def State.removeScene (s : State) (sc : Scene) : State :=
  State.refreshLights { s with light := { s.light with above := s.light.above.erase sc } }

/-- R143: the base scene is replaced. -/
def State.replaceBase (s : State) : State :=
  State.refreshLights { s with light := { s.light with base := baseScene s.modes.mode } }

end Sys2Proof.Machine
end

