-- ==== Sys2Proof/Machine/CallOps.lean ====
section
/-! DEFINITION. The call unit's shared operations: levels (R87), the order of the call list (R96), local entries (R97), the full list (R99), offers (R89, R102)
and the clearing of a point (R91). -/

namespace Sys2Proof.Machine

/-- One call point record replaced. -/
def State.setPoint (s : State) (p : Fin 4) (r : PointRec) : State :=
  { s with calls := { s.calls with points := s.calls.points.set p r } }

/-- The call list replaced. -/
def State.setList (s : State) (l : List CallEntry) : State := { s with calls := { s.calls with list := l } }

/-- R96: an entry is placed behind every entry of equal or higher level. -/
def placeEntry (e : CallEntry) (l : List CallEntry) : List CallEntry :=
  l.takeWhile (fun x => e.level ≤ x.level) ++ e :: l.dropWhile (fun x => e.level ≤ x.level)

/-- R96: the entry of an identity takes a new level, and is placed again if its level changed. -/
def relevelEntry (id : CallId) (level : Nat) (l : List CallEntry) : List CallEntry :=
  match l.find? fun e => e.id == id with
  | none => l
  | some e => if e.level = level then l else placeEntry { e with level := level } (l.filter fun x => x.id != id)

/-- The entry of an identity changed in its place. -/
def updateEntry (id : CallId) (f : CallEntry → CallEntry) (l : List CallEntry) : List CallEntry :=
  l.map fun e => if e.id = id then f e else e

/-- R87: the level of an open point is computed; a level that rises marks the CALL slot and moves the local entry. -/
def State.relevel (s : State) (p : Fin 4) : State :=
  let r := s.point p
  let level := max r.level (s.candidateLevel r.late)
  if !r.isOpen || level == r.level then s
  else ((s.setPoint p { r with level := level }).setList (relevelEntry (s.ownCall p) level s.calls.list)).markCall p

/-- R87: every open point is computed again, in any order. -/
def State.relevelAll (s : State) : State := deliver (s.openPoints.map fun p t => t.relevel p) s

/-- R99, R100, R102: entries leave the list, and an unsent offer for one of them is withdrawn. -/
def State.dropEntries (s : State) (gone : CallEntry → Bool) : State :=
  { s with
    calls := { s.calls with list := s.calls.list.filter fun e => !gone e }
    link := { s.link with
      offer := s.link.offer.filter fun id => !(s.calls.list.any fun e => gone e && e.id == id) } }

/-- The last remote entry in the list's order (R99). -/
def lastRemote (l : List CallEntry) : Option CallEntry := l.reverse.find? fun e => !e.isLocal

/-- R97, R99: an entry is inserted; R105: each insertion presents one CALL chirp. -/
def State.insertEntry (s : State) (e : CallEntry) : State :=
  (s.setList (placeEntry e s.calls.list)).present .callChirp

/-- R97: the local entry of a point, from its record. -/
def State.localEntry (s : State) (p : Fin 4) : CallEntry :=
  let r := s.point p
  { id := s.ownCall p, level := r.level, answered := r.state == .answered, answerer := r.answerer, isLocal := true
    offered := false, heard := false }

/-- R97, R99: a local entry is inserted, displacing the last remote entry of a full list. -/
def State.insertLocal (s : State) (p : Fin 4) : State :=
  if s.calls.list.length < 16 then s.insertEntry (s.localEntry p)
  else
    match lastRemote s.calls.list with
    | none => s.insertEntry (s.localEntry p)
    | some v => ((s.dropEntries fun e => e.id == v.id).enterTrouble .callListFull).insertEntry (s.localEntry p)

/-- R97: the local entry takes the point's state and answerer in its place. -/
def State.syncEntry (s : State) (p : Fin 4) : State :=
  let r := s.point p
  s.setList (updateEntry (s.ownCall p)
    (fun e => { e with answered := r.state == .answered, answerer := r.answerer }) s.calls.list)

/-- R86, R157: the escalation timing of a point, with its compare value. -/
def State.startEscalation (s : State) (p : Fin 4) : State :=
  s.startTimer (.point p) s.cfg.escalation .s1 .oneShot (s.cfg.escalation / 2)

/-- R89, R157: the attend limit of a point. -/
def State.startAttend (s : State) (p : Fin 4) : State := s.startTimer (.point p) s.cfg.attend .s1 .oneShot 0

/-- R86: a call is raised at an IDLE point; a press on an open one is ignored. -/
def State.raiseCall (s : State) (p : Fin 4) : State :=
  if (s.point p).isOpen then s
  else
    let r : PointRec :=
      { state := .waiting, level := s.candidateLevel false, late := false, answerer := 0, hurry := false }
    (((s.setPoint p r).startEscalation p).markCall p).insertLocal p

/-- R89: an offer by station `n` for a configured point. -/
def State.takeOffer (s : State) (p : Fin 4) (n : Station) : State :=
  let r := s.point p
  match r.state with
  | .idle => s
  | .waiting =>
    (((s.setPoint p { r with state := .answered, answerer := n, hurry := false }).startAttend p).markCall p).syncEntry p
  | .answered =>
    if n.toNat < r.answerer.toNat then ((s.setPoint p { r with answerer := n }).markCall p).syncEntry p
    else s.markCall p

/-- R88: the escalation compare of a WAITING point: the hurry flag is set. -/
def State.hurry (s : State) (p : Fin 4) : State :=
  if (s.point p).state = .waiting then s.setPoint p { s.point p with hurry := true } else s

/-- R88: the escalation time of a WAITING point has run out. -/
def State.escalate (s : State) (p : Fin 4) : State :=
  if (s.point p).state = .waiting then
    (((s.setPoint p { s.point p with late := true }).relevel p).markCall p).startEscalation p
  else s

/-- R90: the attend limit of an ANSWERED point has run out. -/
def State.attendLapse (s : State) (p : Fin 4) : State :=
  if (s.point p).state = .answered then
    let r := { s.point p with state := .waiting, answerer := 0, late := true, hurry := true }
    ((((s.setPoint p r).syncEntry p).relevel p).startEscalation p).markCall p
  else s

/-- R91: GUARD clears an open point. -/
def State.clearPoint (s : State) (p : Fin 4) : State :=
  if (s.point p).isOpen then
    (((s.setPoint p .idle).stopTimer (.point p)).markCall p).dropEntries fun e => e.id == s.ownCall p
  else s

/-- R91: the call unit's part of GUARD. -/
def State.clearPoints (s : State) : State := (List.finRange 4).foldl State.clearPoint s

/-- R102: the offered-by-me flag of an entry is set or cleared. -/
def State.setOffered (s : State) (id : CallId) (b : Bool) : State :=
  s.setList (updateEntry id (fun e => { e with offered := b }) s.calls.list)

/-- R102: a newer offer has been loaded while this frame, if it carries an offer, is under way. -/
def Sending.overtaken (f : Sending) : Sending := { f with newer := f.newer || f.slot == .answer }

/-- R102, loading: an unsent offer that the slot holds is replaced, and its entry's flag is cleared. -/
def State.loadOffer (s : State) (id : CallId) : State :=
  let s1 := match s.link.offer with
    | none => s
    | some old => s.setOffered old false
  State.setOffered { s1 with link := { s1.link with offer := some id, sending := s1.link.sending.map Sending.overtaken } } id true

/-- R103: the first entry that ACCEPT may answer. -/
def State.acceptable (s : State) : Option CallEntry := s.calls.list.find? fun e => !e.answered && !e.offered

/-- R103: ACCEPT. -/
def State.acceptCall (s : State) : State :=
  match s.acceptable with
  | none => s.present .refuse
  | some e => if e.isLocal then s.takeOffer e.id.point s.own else s.loadOffer e.id

/-- R100: the sweep of the call list. -/
def State.sweepCalls (s : State) : State :=
  let s1 := s.dropEntries fun e => !e.isLocal && !e.heard
  s1.setList (s1.calls.list.map fun e => if e.isLocal then e else { e with heard := false })

/-- R104: the offered-by-me flag after a notice, `unsent` saying that the ANSWER slot still holds the offer; a clear flag
stays clear (notes/assumptions/40.md). -/
def settledOffer (unsent : Bool) (answered : Bool) (answerer own : Station) (offered : Bool) : Bool :=
  offered && (unsent || (answered && answerer == own))

/-- R98, R99, R104: a received notice, its fields read as R98 says. `state` is 0 WAITING, 1 ANSWERED, 2 CLEARED. -/
def State.takeNotice (s : State) (id : CallId) (state : BitVec 2) (level : Nat) (answerer : Station) : State :=
  let answered := state == 1
  match s.calls.list.find? fun e => e.id == id with
  | some _ =>
    if state = 2 then s.dropEntries fun e => e.id == id
    else
      let unsent := s.link.offer == some id
      let fields := updateEntry id (fun e =>
        { e with answered := answered, answerer := answerer, heard := true
                 offered := settledOffer unsent answered answerer s.own e.offered }) s.calls.list
      s.setList (relevelEntry id level fields)
  | none =>
    if state = 2 then s
    else
      let e : CallEntry :=
        { id := id, level := level, answered := answered, answerer := answerer, isLocal := false, offered := false
          heard := true }
      if s.calls.list.length < 16 then s.insertEntry e
      else
        match lastRemote s.calls.list with
        | none => s.enterTrouble .callListFull
        | some v =>
          if v.level < level then ((s.dropEntries fun x => x.id == v.id).enterTrouble .callListFull).insertEntry e
          else s.enterTrouble .callListFull

end Sys2Proof.Machine
end

