-- ==== Sys2Proof/Machine/EgressOps.lean ====
section
/-! DEFINITION. The egress computation (R125 to R129) and what it hands on (R130 to R132). -/

namespace Sys2Proof.Machine

/-- R126: the hazard value of a neighbour's fire state, or `none` where the gallery is excluded as a way. -/
def hazard (strict : Bool) : FireState → Option Nat
  | .clear => some 0
  | .prealarm => some 16
  | .verify => if strict then none else some 48
  | .fire => none

/-- R127: the candidate of a door position. -/
def State.candidate (s : State) (d : Fin 4) : Option Nat :=
  let desc := (s.door d).desc
  if !s.passable d then none
  else
    match desc.kind with
    | .blank => none
    | .exit => some desc.weight
    | .interior =>
      match s.entryFor desc.neighbour with
      | none => none
      | some e =>
        if e.state ≠ .fresh ∨ e.cost = 255 ∨ e.via = s.own then none
        else (hazard s.cfg.strict e.fire).map fun h => desc.weight + e.cost + h

/-- R128: a candidate above the horizon of 200 is discarded. -/
def State.remaining (s : State) (d : Fin 4) : Option Nat := (s.candidate d).filter fun c => c ≤ 200

/-- R128: the least remaining candidate, or 255. -/
def State.leastCost (s : State) : Nat :=
  (List.finRange 4).foldl (fun best d => match s.remaining d with
    | some c => min best c
    | none => best) 255

/-- R128: the chosen door: none at 255, the current one while it gives the least cost, otherwise the lowest that does. -/
def State.chooseDoor (s : State) : Option (Fin 4) :=
  let best := s.leastCost
  if best = 255 then none
  else if (s.egress.chosen.bind s.remaining) = some best then s.egress.chosen
  else (List.finRange 4).find? fun d => s.remaining d == some best

/-- R129: the verdict on a door position, the rows from the top. -/
def State.verdictOn (s : State) (cost : Nat) (chosen : Option (Fin 4)) (d : Fin 4) : Verdict :=
  let desc := (s.door d).desc
  if desc.kind = .blank then .neutral
  else if cost = 255 then .bar
  else if chosen = some d then .go
  else if desc.kind = .interior ∧ (s.entryFor desc.neighbour).map NbEntry.fire = some .fire then .bar
  else .neutral

/-- R128: the via of a chosen door. -/
def State.viaOf (s : State) (chosen : Option (Fin 4)) : Station :=
  match chosen with
  | none => 0
  | some d => if (s.door d).desc.kind = .interior then (s.door d).desc.neighbour else 0

/-- R128, R129: one computation from the inputs as they stand. -/
def State.computeEgress (s : State) : EgressUnit :=
  let cost := s.leastCost
  let chosen := s.chooseDoor
  { cost := cost, via := s.viaOf chosen, chosen := chosen
    verdicts := Vector.ofFn (s.verdictOn cost chosen), computed := true }

/-- R132: the result of a computation is taken over, and what changed is handed on; `first` hands on every part (R131). -/
def State.takeEgress (s : State) (new : EgressUnit) (first : Bool) : State :=
  let old := s.egress
  let s1 := { s with egress := new }
  let s2 := if first || old.cost != new.cost || old.via != new.via || old.chosen != new.chosen then s1.markStatus else s1
  let s3 := if first || old.cost != new.cost then s2.relevelAll else s2
  s3.refreshLights

/-- R130, R131: an input has changed: nothing before the first computation, a computation afterwards. A result equal to the one before hands
nothing on. -/
def State.recomputeEgress (s : State) : State :=
  if !s.egress.computed then s
  else if s.computeEgress = s.egress then s
  else s.takeEgress s.computeEgress false

/-- R131: the first computation of a start. -/
def State.firstEgress (s : State) : State := s.takeEgress s.computeEgress true

end Sys2Proof.Machine
end

