-- ==== Sys2Proof/Machine/DoorOps.lean ====
section
/-! DEFINITION. The door unit's shared operations: driving the outputs (R66, R67), phases (R69 to R75), ajar timing (R74), resolution (R65) and the
release of frozen outputs (R83). -/

namespace Sys2Proof.Machine

/-- One door record replaced. -/
def State.setDoor (s : State) (d : Fin 4) (r : DoorRec) : State :=
  { s with doors := { s.doors with records := s.doors.records.set d r } }

/-- R80: the rules of outputs and phases act on a door that is owned and has been read. -/
def State.sensed (s : State) (d : Fin 4) : Bool := (s.door d).desc.isOwned && (s.door d).position.isSome

/-- R80, R82: the outputs of a door may be driven: it is owned, has been read, and is not frozen. -/
def State.drivable (s : State) (d : Fin 4) : Bool := s.sensed d && !s.frozen d

/-- R66: the lock output for a resolved lock and a position. -/
def lockFor (resolved : LockOut) (position : Option Position) (now : LockOut) : LockOut :=
  match resolved with
  | .free => .free
  | .locked => if position = some .opened then now else .locked

/-- R66, R68: the lock output is set; a change marks STATUS pending and is taken by the egress unit. -/
def State.driveLock (s : State) (d : Fin 4) : State :=
  let r := s.door d
  let new := lockFor (s.resolvedLock d) r.position r.lock
  if !s.drivable d || new == r.lock then s
  else ((s.setDoor d { r with lock := new }).markStatus).recomputeEgress

/-- R67: hold output and hold-deferred flag for a resolved hold. -/
def holdFor (resolved : HoldOut) (magnet : Bool) (deferred : Bool) (phase : Option DoorPhase) : HoldOut × Bool :=
  match resolved with
  | .dropped => (.dropped, false)
  | .holding =>
    if !magnet then (.dropped, deferred)
    else if phase = some .closing ∨ phase = some .blocked then (.dropped, true)
    else if deferred then (.dropped, true)
    else (.holding, false)

/-- R72, R157: the travel limit is started. -/
def State.startTravel (s : State) (d : Fin 4) : State := s.startTimer (.door d) s.cfg.travel .s1 .oneShot 0

/-- R74, R157: the ajar limit is started, with its compare value. -/
def State.startAjar (s : State) (d : Fin 4) : State := s.startTimer (.door d) s.cfg.ajar .s1 .oneShot (s.cfg.ajar / 2)

/-- R72: the hold output has changed while the position is OPEN. -/
def State.holdChanged (s : State) (d : Fin 4) : State :=
  let r := s.door d
  if r.position = some .opened ∧ r.phase = some .held ∧ r.hold = .dropped then
    (s.setDoor d { r with phase := some .closing }).startTravel d
  else if r.position = some .opened ∧ r.phase = some .opened ∧ r.hold = .holding then
    (s.setDoor d { r with phase := some .held, ajar := false }).stopTimer (.door d)
  else s

/-- R67, R68: the hold output and the hold-deferred flag are set; a change of the output is handed to the phase rules. R82: while the outputs
are frozen the output alone is kept, and the flag follows the resolution. -/
def State.driveHold (s : State) (d : Fin 4) : State :=
  let r := s.door d
  let new := holdFor (s.resolvedHold d) r.desc.magnet r.deferred r.phase
  if !s.sensed d then s
  else if s.frozen d || new.1 == r.hold then s.setDoor d { r with deferred := new.2 }
  else (s.setDoor d { r with hold := new.1, deferred := new.2 }).holdChanged d

/-- R74: ajar timing starts when its condition begins and stops when it ends. -/
def State.ajarUpdate (s : State) (d : Fin 4) : State :=
  let r := s.door d
  if s.ajarDue d && !r.ajar then (s.setDoor d { r with ajar := true }).startAjar d
  else if !s.ajarDue d && r.ajar then
    let s1 := s.setDoor d { r with ajar := false }
    if r.phase = some .closing then s1 else s1.stopTimer (.door d)
  else s

/-- R65: an owned door is resolved and the result applied, or, while it is frozen, only computed (R82). -/
def State.resolve (s : State) (d : Fin 4) : State :=
  if (s.door d).desc.isOwned then ((s.driveLock d).driveHold d).ajarUpdate d else s

/-- R60: every owned door is resolved, in any order. -/
def State.resolveAll (s : State) : State := deliver (s.ownedDoors.map fun d t => t.resolve d) s

/-- R63: the owned INTERIOR doors toward a neighbour are resolved. -/
def State.resolveToward (s : State) (n : Station) : State :=
  deliver ((s.ownedDoors.filter fun d =>
    (s.door d).desc.kind == .interior && (s.door d).desc.neighbour == n).map fun d t => t.resolve d) s

/-- R83, R182: the freeze flag is cleared and the release delivered to the door unit and the lighting unit; nothing if it is clear. -/
def State.release (s : State) : State :=
  if !s.start.freeze then s
  else
    let s1 := { s with start := { s.start with freeze := false } }
    (deliver ((s1.ownedDoors.filter fun d => (s1.door d).keep).map fun d t => t.resolve d) s1).refreshLights

/-- R69: the position of an owned door becomes CLOSED. -/
def State.doorCloses (s : State) (d : Fin 4) : State :=
  let r := s.door d
  let s1 := s.setDoor d { r with position := some .closed, filter := Filter.clear, phase := some .shut
                                 deferred := false, ajar := false }
  let s2 := ((s1.stopTimer (.door d)).markStatus).removeTroubles fun t => t == .doorBlocked d || t == .doorPosition d
  (s2.driveLock d).driveHold d

/-- R70: the position of an owned door becomes OPEN: outputs first, then the phase from the outputs. -/
def State.doorOpens (s : State) (d : Fin 4) : State :=
  let r := s.door d
  let s1 := (s.setDoor d { r with position := some .opened, filter := Filter.clear }).markStatus
  let s2 := ((s1.removeTrouble (.doorPosition d)).driveLock d).driveHold d
  let r2 := s2.door d
  let phase : DoorPhase :=
    match r2.lock, r2.hold with
    | .locked, _ => .forced
    | .free, .holding => .held
    | .free, .dropped => .opened
  (s2.setDoor d { r2 with phase := some phase }).ajarUpdate d

/-- R71: the position of an owned door becomes UNKNOWN. -/
def State.doorLost (s : State) (d : Fin 4) : State :=
  let r := s.door d
  let s1 := s.setDoor d { r with position := some .unknown, filter := Filter.clear, phase := some .unsensed, ajar := false }
  let s2 := (((s1.stopTimer (.door d)).markStatus).removeTrouble (.doorBlocked d)).enterTrouble (.doorPosition d)
  (s2.driveLock d).driveHold d

/-- R80: the first reading of an owned door: the phase from the outputs standing, then the resolution; R68, R163: STATUS carries the
position, which changes here from absent (notes/assumptions/17.md). -/
def State.firstReading (s : State) (d : Fin 4) (p : Position) : State :=
  let r := s.door d
  let phase : DoorPhase :=
    match p with
    | .closed => .shut
    | .opened => .opened
    | .unknown => .unsensed
  let s1 := (s.setDoor d { r with position := some p, filter := Filter.clear, phase := some phase }).markStatus
  let s2 := if p = .unknown then s1.enterTrouble (.doorPosition d) else s1
  s2.resolve d

/-- R73: the travel limit of a door in CLOSING has run out. -/
def State.travelLapse (s : State) (d : Fin 4) : State :=
  let r := s.door d
  if r.phase = some .closing then
    (((s.setDoor d { r with phase := some .blocked }).enterTrouble (.doorBlocked d)).driveHold d).ajarUpdate d
  else s

end Sys2Proof.Machine
end

