-- ==== Sys2Proof/Machine/FireOps.lean ====
section
/-! DEFINITION. The fire unit's shared operations: loops (R19, R21, R22), verification (R23 to R31), the evacuation flag (R33, R34) and the
sounder-silenced flag (R35). -/

namespace Sys2Proof.Machine

/-- One loop record replaced. -/
def State.setLoop (s : State) (l : Fin 6) (r : LoopRec) : State :=
  { s with fire := { s.fire with loops := s.fire.loops.set l r } }

/-- R31: some loop's band is ALARM. -/
def State.loopInAlarm (s : State) : Bool := s.fire.loops.toList.any fun r => r.band == .alarm

/-- R22: a loop other than `l` is in ALARM. -/
def State.otherLoopInAlarm (s : State) (l : Fin 6) : Bool :=
  (List.finRange 6).any fun k => k != l && s.fire.loops[k].band == .alarm

/-- R21: some SMOKE loop's band is PREALARM. -/
def State.smokePrealarm (s : State) : Bool :=
  s.fire.loops.toList.any fun r => r.kind == .smoke && r.band == .prealarm

/-- R35, R36: the sounder-silenced flag is set or cleared; the lighting unit reads it (R138). -/
def State.setSounderSilenced (s : State) (b : Bool) : State :=
  State.refreshLights { s with fire := { s.fire with silenced := b } }

/-- R166: in RUN the refresh channel is started with the period the evacuation flag gives. -/
def State.startRefresh (s : State) : State :=
  s.startTimer .t15 (if s.fire.evac then 10 else 10 * s.cfg.refresh) .ms100 .periodic 0

/-- R33: what the evacuation flag is when it is recomputed. -/
def State.evacDue (s : State) : Bool := s.fire.state == .fire || !s.table.roster.isEmpty

/-- R33, R34: the evacuation flag is recomputed, and a change is delivered: to the door unit, the call unit and the start unit in any
order, and to the lighting unit and the link unit. R35: the rising flag clears the sounder-silenced flag. -/
def State.recomputeEvac (s : State) : State :=
  if s.evacDue = s.fire.evac then s
  else
    let s1 := { s with fire := { s.fire with evac := s.evacDue
                                             silenced := if s.evacDue then false else s.fire.silenced } }
    let s2 := deliver [State.resolveAll, State.relevelAll, fun t => if t.fire.evac then t.release else t] s1
    let s3 := if s.evacDue then s2.pushScene .evacuate else s2.removeScene .evacuate
    if s3.start.phase = .run then s3.markStatus.startRefresh else s3.markStatus

/-- R20: the fire state changes; a change marks STATUS pending, and one into or out of FIRE is taken by the evacuation flag. -/
def State.setFireState (s : State) (f : FireState) : State :=
  if s.fire.state = f then s
  else
    let s1 := State.markStatus { s with fire := { s.fire with state := f } }
    if f = .fire ∨ s.fire.state = .fire then s1.recomputeEvac else s1

/-- R24, R31: the verification ends: T0 and the pair are stopped, phase and first loop are none, VERIFY is withdrawn. -/
def State.endVerification (s : State) : State :=
  let s1 := (s.stopTimer .t0).stopTimer .pair
  State.syncBuzzer { s1 with fire := { s1.fire with phase := .none, firstLoop := none } }

/-- R24: the fire state enters FIRE. -/
def State.enterFire (s : State) : State :=
  if s.fire.state = .fire then s
  else (s.endVerification.setSounderSilenced false).setFireState .fire

/-- R23: the fire state enters VERIFY. -/
def State.enterVerify (s : State) (l : Fin 6) : State :=
  let s1 := { s with fire := { s.fire with phase := .ackWindow, firstLoop := some l } }
  ((s1.startTimer .t0 s.cfg.ackWindow .s1 .oneShot 0).syncBuzzer).setFireState .verify

/-- R21: the unlatched fire state. -/
def State.unlatchedFire (s : State) : FireState := if s.smokePrealarm then .prealarm else .clear

/-- R17: out of service. -/
def LoopBand.outOfService (b : LoopBand) : Bool := b == .openLoop || b == .short

/-- R22: a SMOKE loop's alarm needs no verification. -/
def State.smokeTrusted (s : State) (l : Fin 6) : Bool :=
  s.otherLoopInAlarm l || s.corroborated || s.modes.mode != .pub

/-- R22, R25: a loop has entered ALARM. -/
def State.loopAlarm (s : State) (l : Fin 6) : State :=
  match s.fire.state with
  | .clear | .prealarm =>
    if s.fire.loops[l].kind = .smoke ∧ s.smokeTrusted l = false then s.enterVerify l else s.enterFire
  | .verify => if s.fire.firstLoop = some l then s else s.enterFire
  | .fire => s

/-- R19: the LOOP trouble follows the band. -/
def State.loopTrouble (s : State) (l : Fin 6) (old new : LoopBand) : State :=
  if new.outOfService then (if old.outOfService then s else s.enterTrouble (.loop l))
  else if old.outOfService then s.removeTrouble (.loop l)
  else s

/-- R18 to R25: a band change is taken. -/
def State.bandTaken (s : State) (l : Fin 6) (new : LoopBand) : State :=
  let r := s.fire.loops[l]
  let s1 := (s.setLoop l { r with band := new, filter := Filter.clear }).loopTrouble l r.band new
  if new = .alarm then s1.loopAlarm l
  else if r.kind = .smoke ∧ (s.fire.state = .clear ∨ s.fire.state = .prealarm) then s1.setFireState s1.unlatchedFire
  else s1

/-- R29: ACK while a verification is in its ACK window. -/
def State.ackVerification (s : State) : State :=
  if s.fire.state = .verify ∧ s.fire.phase = .ackWindow then
    let s1 := s.stopTimer .t0
    let s2 := State.syncBuzzer { s1 with fire := { s1.fire with phase := .investigation } }
    s2.startTimer .pair s.cfg.investigation .s1 .oneShot 0
  else s

/-- R36: ACK while the evacuation flag is set. -/
def State.ackSounder (s : State) : State := if s.fire.evac then s.setSounderSilenced true else s

/-- R31: the fire unit refuses its part of RESTORE. -/
def State.fireRefuses (s : State) : Bool :=
  (s.fire.state == .verify || s.fire.state == .fire) && s.loopInAlarm

/-- R31: the fire unit's part of RESTORE. R39: a PREALARM held over a warm restart is evaluated again here; any other PREALARM has its SMOKE
loop and stays (notes/assumptions/35.md). -/
def State.restoreFire (s : State) : State :=
  match s.fire.state with
  | .clear => s
  | .prealarm => s.setFireState s.unlatchedFire
  | .verify | .fire => if s.loopInAlarm then s else s.endVerification.setFireState s.unlatchedFire

/-- R30: the mode value has changed. -/
def State.fireModeChange (s : State) : State :=
  if s.fire.state = .verify ∧ s.modes.mode ≠ .pub then s.enterFire else s

/-- R27: a neighbour entry has become corroborating. -/
def State.corroborate (s : State) : State := if s.fire.state = .verify then s.enterFire else s

end Sys2Proof.Machine
end

