-- ==== Sys2Proof/Machine/WatchOps.lean ====
section
/-! DEFINITION. The watch unit's shared operations: the guard state and the round (R45 to R48), the responses (R43, R50, R51), RESTORE of the latches
(R52); and the mode unit's: a mode change and what it does (R4 to R10). -/

namespace Sys2Proof.Machine

/-- One watch input record replaced. -/
def State.setInput (s : State) (i : Fin 8) (r : WatchRec) : State :=
  { s with watch := { s.watch with inputs := s.watch.inputs.set i r } }

/-- One call button filter replaced (R44). -/
def State.setButton (s : State) (p : Fin 4) (r : ButtonRec) : State :=
  { s with watch := { s.watch with buttons := s.watch.buttons.set p r } }

/-- The line of one call button as the outside world closes or opens it. -/
def State.setButtonLine (s : State) (p : Fin 4) (closed : Bool) : State :=
  { s with pins := { s.pins with buttons := s.pins.buttons.set p closed } }

/-- R45: the guard state changes; a change marks STATUS pending. -/
def State.setGuard (s : State) (g : GuardState) : State :=
  if s.watch.guard = g then s else State.markStatus { s with watch := { s.watch with guard := g } }

/-- R45: the round flag changes; a change marks STATUS pending. -/
def State.setRound (s : State) (b : Bool) : State :=
  if s.watch.round = b then s else State.markStatus { s with watch := { s.watch with round := b } }

/-- R46, R157: the exit delay is started. -/
def State.startExitDelay (s : State) : State := s.startTimer .t18 s.cfg.exitDelay .s1 .oneShot 0

/-- R48, R157: the round time is started. -/
def State.startRoundTime (s : State) : State := s.startTimer .t18 s.cfg.roundTime .s1 .oneShot 0

/-- R46, R47: a round in progress ends. -/
def State.endRound (s : State) : State :=
  if s.watch.round then (s.setRound false).removeScene .round else s

/-- R46: the watch unit takes a change of the mode value from `old`. In the CONFIG-READ of a cold start the guard state stays OPEN
(R45). -/
def State.watchModeChange (s : State) (old : Mode) : State :=
  if s.start.phase = .configRead ∧ s.start.kind = .cold then s
  else if s.modes.mode = .night then (s.setGuard .setting).startExitDelay
  else if old = .night then ((s.setGuard .opened).stopTimer .t18).endRound
  else s

/-- R50: the response LOCAL. -/
def State.respondLocal (s : State) : State :=
  State.present { s with watch := { s.watch with localLatch := true } } .callChirp

/-- R51: the response ALERT: the intrusion latch sets, with its deliveries, unless it is set already. -/
def State.respondAlert (s : State) : State :=
  if s.watch.intrusion then s
  else ((State.pushScene { s with watch := { s.watch with intrusion := true } } .intrusion).resolveAll).markStatus

/-- R14, R50, R51: a response without a subject of its own is carried out; TROUBLE and CALL are their callers'. -/
def State.respond (s : State) (r : Response) : State :=
  match r with
  | .local => s.respondLocal
  | .alert => s.respondAlert
  | .nothing | .trouble | .call => s

/-- R42, R43: the band of a watch input has changed: the WATCH-LINE trouble and the response. -/
def State.watchBandTaken (s : State) (i : Fin 8) (new : WatchBand) : State :=
  let r := s.watch.inputs[i]
  let s1 := s.setInput i { r with band := new, filter := Filter.clear }
  match new with
  | .normal => s1.removeTrouble (.watchLine i)
  | .fault => (s1.enterTrouble (.watchLine i)).respond (responseTable .fault s.column)
  | .active =>
    let resp := responseTable (.active r.kind) s.column
    (if resp = .trouble then s1.enterTrouble (.watchLine i) else s1).respond resp

/-- R44, R86: a call button press is looked up and answered. -/
def State.buttonTaken (s : State) (p : Fin 4) : State :=
  match responseTable .callButton s.column with
  | .call => s.raiseCall p
  | r => s.respond r

/-- R44: the filter of a configured button has taken three closed samples: from released it changes to pressed, which is the event; a filter
that holds pressed already raises none until it has taken a release. -/
def State.buttonReads (s : State) (p : Fin 4) : State :=
  let s1 := s.setButton p .held
  if s.watch.buttons[p].pressed then s1 else s1.buttonTaken p

/-- R52: some watch input's band is ACTIVE. -/
def State.inputActive (s : State) : Bool := s.watch.inputs.toList.any fun r => r.band == .active

/-- R52: the watch unit refuses the intrusion piece of RESTORE. -/
def State.watchRefuses (s : State) : Bool := s.watch.intrusion && s.inputActive

/-- R52: the watch unit's part of RESTORE. -/
def State.restoreWatch (s : State) : State :=
  let s1 := { s with watch := { s.watch with localLatch := false } }
  if s.watch.intrusion && !s.inputActive then
    ((State.removeScene { s1 with watch := { s1.watch with intrusion := false } } .intrusion).resolveAll).markStatus
  else s1

/-- R48: the watch unit's part of GUARD. -/
def State.guardWatch (s : State) : State :=
  match s.watch.guard with
  | .opened => s
  | .setting => s.startExitDelay
  | .watching => ((s.setRound true).startRoundTime).pushScene .round

/-- R10: the mode value changes, and the change is delivered: to the door unit and the fire unit in any order, to the lighting unit
and to the watch unit. -/
def State.changeMode (s : State) (m : Mode) : State :=
  if s.modes.mode = m then s
  else
    let s1 := { s with modes := { s.modes with mode := m } }
    ((deliver [State.resolveAll, State.fireModeChange] s1).replaceBase).watchModeChange s.modes.mode

/-- R4, R5: a key change to a position is taken. -/
def State.turnKey (s : State) (pos : Mode) : State :=
  if s.modes.settled then
    (State.markStatus { s with modes := { s.modes with epoch := s.modes.epoch + 1 } }).changeMode pos
  else s.changeMode pos

/-- R7: the order of security. -/
def Mode.security : Mode → Nat
  | .pub => 0
  | .closed => 1
  | .night => 2

/-- R6, R7: the decision on a heard pair. -/
def adopts (settled : Bool) (own heard : Mode) (ownEpoch heardEpoch : Byte) : Bool :=
  let d := (heardEpoch - ownEpoch).toNat
  !settled || (1 ≤ d && d ≤ 127) || (d == 0 && Mode.security own < Mode.security heard)

/-- R7: a heard pair is adopted or ignored. -/
def State.hearPair (s : State) (m : Mode) (e : Byte) : State :=
  if adopts s.modes.settled s.modes.mode m s.modes.epoch e then
    let s1 := { s with modes := { s.modes with epoch := e, settled := true } }
    (if s.modes.mode ≠ m ∨ s.modes.epoch ≠ e then s1.markStatus else s1).changeMode m
  else s

/-- R8: at the start of RUN an unsettled mode unit settles on the key position at epoch 0. -/
def State.settle (s : State) : State :=
  if s.modes.settled then s
  else State.changeMode { s with modes := { s.modes with epoch := 0, settled := true } } s.modes.keyPosition

end Sys2Proof.Machine
end

