-- ==== Sys2Proof/Machine/TableOps.lean ====
section
/-! DEFINITION. The neighbour table's shared operations: a STATUS taken by an entry (R111 to R113), silence (R115), and the fire roster
(R118, R119). -/

namespace Sys2Proof.Machine

/-- One entry replaced. -/
def State.setEntry (s : State) (k : Fin 4) (e : NbEntry) : State :=
  { s with table := { s.table with entries := s.table.entries.set k (some e) } }

/-- The fire roster replaced. -/
def State.setRoster (s : State) (l : List Member) : State := { s with table := { s.table with roster := l } }

/-- R113: the passability of a field that one of this station's shadow doors reads from the entry differs. -/
def State.shadowFieldChanged (s : State) (old new : NbEntry) : Bool :=
  (List.finRange 4).any fun d =>
    let desc := (s.door d).desc
    let passes := fun (e : NbEntry) => e.fields[desc.nbDoor].fitted && e.fields[desc.nbDoor].passable
    desc.isShadow && desc.neighbour == new.station && passes old != passes new

/-- R113: the changes the egress unit takes. -/
def State.egressInputChanged (s : State) (old new : NbEntry) : Bool :=
  old.state != new.state || old.cost != new.cost || old.via != new.via || old.fire != new.fire
    || s.shadowFieldChanged old new

/-- R113: an entry changes, and each change is handed to its owner, the fire, door and egress units in any order. -/
def State.changeEntry (s : State) (k : Fin 4) (old new : NbEntry) : State :=
  let s1 := s.setEntry k new
  let s2 :=
    if old.state = .mute ∧ new.state ≠ .mute then s1.removeTrouble (.neighbourMute new.station)
    else if old.state ≠ .mute ∧ new.state = .mute then s1.enterTrouble (.neighbourMute new.station)
    else s1
  deliver
    [ fun t => if new.corroborating && !old.corroborating then t.corroborate else t,
      fun t => if old.intrusion != new.intrusion then t.resolveToward new.station else t,
      fun t => if s.egressInputChanged old new then t.recomputeEgress else t ] s2

/-- R111: the fields of a STATUS as an entry takes them; R112: the entry is FRESH. -/
def entryOfStatus (f : StatusFrame) : NbEntry :=
  { station := f.source, state := .fresh, fire := fireOfCode f.fire, intrusion := f.intrusion
    cost := costOfCode f.cost, via := viaOfCode f.via, fields := Vector.ofFn fun i => marksOfCode f.doors[i] }

/-- R112, R114: the silence timer is started with the full silence limit. -/
def State.startSilence (s : State) (k : Fin 4) : State :=
  s.startTimer (.silence k) s.cfg.silence .ms100 .oneShot 0

/-- R112: entry k takes a STATUS if its neighbour is the source. -/
def State.entryTakes (s : State) (f : StatusFrame) (k : Fin 4) : State :=
  match s.table.entries[k] with
  | none => s
  | some old => if old.station = f.source then (s.startSilence k).changeEntry k old (entryOfStatus f) else s

/-- R112: the neighbour table takes a STATUS; at most one entry stands for the source. -/
def State.tableTakes (s : State) (f : StatusFrame) : State := (List.finRange 4).foldl (fun t k => t.entryTakes f k) s

/-- R115: the silence timer of entry k has run out. -/
def State.fallMute (s : State) (k : Fin 4) : State :=
  match s.table.entries[k] with
  | none => s
  | some old => if old.state = .mute then s else s.changeEntry k old { old with state := .mute }

/-- R118: the fire roster takes the fire field of a STATUS; R35: an addition clears the sounder-silenced flag. -/
def State.rosterTakes (s : State) (f : StatusFrame) : State :=
  let held := s.table.roster.any fun m => m.station == f.source
  if fireOfCode f.fire = .fire then
    if held then
      s.setRoster (s.table.roster.map fun m => if m.station = f.source then { m with mark := true } else m)
    else
      ((s.setRoster (s.table.roster ++ [{ station := f.source, mark := true }])).recomputeEvac).setSounderSilenced false
  else if held then (s.setRoster (s.table.roster.filter fun m => m.station != f.source)).recomputeEvac
  else s

/-- R119: the sweep of the fire roster. -/
def State.sweepRoster (s : State) : State :=
  let left := s.table.roster.filter Member.mark
  let s1 := s.setRoster (left.map fun m => { m with mark := false })
  if left.length < s.table.roster.length then s1.recomputeEvac else s1

/-- R172: the deliveries of one STATUS, in any order. -/
def State.dispatchStatus (s : State) (f : StatusFrame) : State :=
  deliver
    [ fun t => t.hearPair (modeOfCode f.mode) f.epoch,
      fun t => t.rosterTakes f,
      fun t => t.tableTakes f ] s

end Sys2Proof.Machine
end

