-- ==== Sys2Proof/Machine/LinkOps.lean ====
section
/-! DEFINITION. The link unit's shared operations: capture (R165, R173, R174), begin (R160), the outcomes of a frame (R165), and the judging and
dispatch of received frames (R167 to R172). -/

namespace Sys2Proof

/-- R169: a frame that has reached its end, not this station's own, is discarded. -/
def Frame.isBad (fr : Frame) (own : Station) : Bool :=
  !fr.checkOk || fr.source == 0 || fr.source == 63 || fr.source == own ||
    match fr with
    | .call f => f.state == 3
    | .status _ | .answer _ => false

end Sys2Proof

namespace Sys2Proof.Machine

/-- R173: the mode field. -/
def modeCode : Mode → BitVec 2
  | .pub => 0
  | .closed => 1
  | .night => 2

/-- R173: the fire field. -/
def fireCode : FireState → BitVec 2
  | .clear => 0
  | .prealarm => 1
  | .verify => 2
  | .fire => 3

/-- R173: the guard field. -/
def guardCode : GuardState → BitVec 2
  | .opened => 0
  | .setting => 1
  | .watching => 2

/-- R173: the position of a door field; a position not read yet is never carried (R79). -/
def positionCode : Option Position → BitVec 2
  | some .opened => 1
  | some .unknown => 2
  | some .closed => 0
  | none => 0

/-- R79: the door field of a position: marks clear and CLOSED for shadow doors and BLANK positions. -/
def State.doorField (s : State) (d : Fin 4) : BitVec 4 :=
  let r := s.door d
  if r.desc.isOwned then BitVec.ofBool true ++ BitVec.ofBool (r.lock == .free) ++ positionCode r.position
  else 0

/-- R173, R174: the STATUS of this station, from the state as it stands. -/
def State.statusFrame (s : State) : StatusFrame :=
  { urgent := s.urgent, source := s.own, fire := fireCode s.fire.state, guard := guardCode s.watch.guard
    intrusion := s.watch.intrusion, round := s.watch.round, evacuation := s.fire.evac
    trouble := !s.troubles.record.isEmpty, epoch := s.modes.epoch, cost := BitVec.ofNat 8 s.egress.cost
    mode := modeCode s.modes.mode, via := s.egress.via, doors := Vector.ofFn s.doorField, check := 0 }

/-- R93: the notice of a call point. -/
def State.callFrame (s : State) (p : Fin 4) : CallFrame :=
  let r := s.point p
  { source := s.own, point := BitVec.ofNat 2 p.val
    state := match r.state with
      | .waiting => 0
      | .answered => 1
      | .idle => 2
    level := match r.state with
      | .idle => 0
      | .waiting | .answered => BitVec.ofNat 4 r.level
    spare := 0
    answerer := match r.state with
      | .answered => r.answerer
      | .idle | .waiting => 0
    check := 0 }

/-- R102: the frame of an offer. -/
def State.answerFrame (s : State) (id : CallId) : AnswerFrame :=
  { source := s.own, spare1 := 0, origin := id.origin, spare2 := 0, point := BitVec.ofNat 2 id.point.val, check := 0 }

/-- R165: the frame a slot gives now; the ANSWER slot gives one only while it holds an offer. -/
def State.capture (s : State) : Slot → Option Frame
  | .status => some (Frame.status s.statusFrame).sealed
  | .call p => some (Frame.call (s.callFrame p)).sealed
  | .answer => s.link.offer.map fun id => (Frame.answer (s.answerFrame id)).sealed

/-- The link unit with a slot's pending mark set or cleared; the ANSWER slot's mark is its offer. -/
def LinkUnit.setPending (l : LinkUnit) (slot : Slot) (b : Bool) (offer : Option CallId) : LinkUnit :=
  match slot with
  | .status => { l with status := b }
  | .call p => { l with calls := l.calls.set p b }
  | .answer => { l with offer := offer }

/-- R160, R165: a frame begins: its slot is chosen, its content captured, its pending mark cleared and its in-flight mark set. -/
def State.beginFrame (s : State) : State :=
  if !s.mayBegin then s
  else
    match s.chosenSlot with
    | none => s
    | some slot =>
      match s.capture slot with
      | none => s
      | some frame =>
        let carried := if slot = .answer then s.link.offer else none
        { s with link := { s.link.setPending slot false none with
            sending := some { slot := slot, frame := frame, offer := carried, newer := false }, bus := .waiting false } }

/-- R165: the frame ends without fault; R164: a STATUS starts T16. -/
def State.frameSent (s : State) : State :=
  match s.link.sending with
  | none => s
  | some f =>
    let s1 := { s with link := { s.link with sending := none, faults := 0, bus := .waiting false } }
    if f.slot = .status then s1.startTimer .t16 10 .ms10 .oneShot 0 else s1

/-- R102, R165: a frame is not sent: the bus is followed as `view` says and the frame's slot is pending again. A failed offer stays
in the ANSWER slot as unsent; where a newer one was loaded during the frame it is lost and its entry's flag is cleared
(notes/assumptions/20.md: even if the newer one has been withdrawn since, but not if it waits and is for the same entry). -/
def State.frameFailed (s : State) (f : Sending) (view : BusView) : State :=
  let s1 := { s with link := { s.link with sending := none, bus := view } }
  match f.slot, f.offer with
  | .answer, some id =>
    if !f.newer then { s1 with link := { s1.link with offer := some id } }
    else if s.link.offer = some id then s1
    else s1.setOffered id false
  | .answer, none => s1
  | slot, _ => { s1 with link := s1.link.setPending slot true none }

/-- R160: arbitration is lost at a header bit that was sent recessive. -/
def Sending.mayLose (f : Sending) (bit : Fin 8) : Bool := (headerByte f.frame.kindCode f.frame.source).getLsbD bit

/-- R161: a read-back differing at this bit is a transmit fault: a dominant bit anywhere, or a recessive bit after the header. -/
def Sending.mayFault (f : Sending) (bit : Nat) : Bool :=
  match f.frame.wire[bit]? with
  | some false => true
  | some true => 9 ≤ bit
  | none => false

/-- R160: lost arbitration; the station follows the rest of the frame as a receiver. -/
def State.loseArbitration (s : State) (bit : Fin 8) : State :=
  match s.link.sending with
  | none => s
  | some f => if f.mayLose bit then s.frameFailed f .following else s

/-- R162: QUIET is entered. -/
def State.enterQuiet (s : State) : State :=
  (State.enterTrouble { s with link := { s.link with quiet := true, faults := 0 } } .linkDrive).startTimer
    .t19 100 .ms100 .oneShot 0

/-- R159, R161: what is on the bus at a fault: a start bit that has read recessive has put no frame on it; behind a start bit that stood, the
frame given up is followed as a receiver does. -/
def viewAtFault (bit : Nat) : BusView := if bit = 0 then .recessive else .following

/-- R161, R162: a transmit fault. -/
def State.transmitFault (s : State) (bit : Nat) : State :=
  match s.link.sending with
  | none => s
  | some f =>
    if f.mayFault bit then
      let s1 := s.frameFailed f (viewAtFault bit)
      if s.link.faults + 1 < 3 then { s1 with link := { s1.link with faults := s.link.faults + 1 } } else s1.enterQuiet
    else s

/-- R159, R167: the bus is waited on until it is idle again; `counted` as in `BusView`. -/
def State.awaitIdle (s : State) (counted : Bool) : State := { s with link := { s.link with bus := .waiting counted } }

/-- R171: a discarded frame is counted. -/
def State.countDiscard (s : State) : State :=
  let n := if s.link.discards < 8 then s.link.discards + 1 else 8
  let s1 := { s with link := { s.link with discards := n } }
  if n = 8 then s1.enterTrouble .linkNoise else s1

/-- R171: a good frame sets the discard count to 0 and removes LINK-NOISE. -/
def State.countGood (s : State) : State :=
  State.removeTrouble { s with link := { s.link with discards := 0 } } .linkNoise

/-- R170: a frame bearing the own number that this station did not send. -/
def State.markDuplicate (s : State) (fr : Frame) : State :=
  if fr.source = s.own then s.enterTrouble .duplicate else s

/-- R172: the dispatch of a good frame. -/
def State.dispatch (s : State) : Frame → State
  | .status f => s.dispatchStatus f
  | .call f =>
    s.takeNotice { origin := f.source, point := pointOfCode f.point } f.state (levelOfCode f.level)
      (answererOfCode (f.state == 1) f.answerer)
  | .answer f =>
    if f.origin = s.own ∧ s.pointFitted (pointOfCode f.point) = true then s.takeOffer (pointOfCode f.point) f.source
    else s

/-- R167, R169: the station is in a phase that counts discarded frames. -/
def State.discardFrame (s : State) : State := if s.hearing then s.countDiscard else s

/-- R167: dominant bits seen before the bus is idle belong to no frame: all that come until then are one discarded frame of the wrong
length, and those of a frame that is discarded already are none (notes/assumptions/42.md). -/
def State.straysSeen (s : State) : State :=
  if !s.live then s
  else if s.link.awaits false then (s.awaitIdle true).discardFrame
  else s

/-- R167, R169, R172: a frame of another station has reached its end. Outside LISTEN, RELEARN and RUN it is only followed; R167: where the
bus has not been idle since the last frame, its bits belong to none. -/
def State.takeFrame (s : State) (fr : Frame) : State :=
  if !s.live || !s.link.receives then s.straysSeen
  else if !s.hearing then s.awaitIdle false
  else if fr.isBad s.own then ((s.awaitIdle false).countDiscard).markDuplicate fr
  else ((s.awaitIdle false).countGood).dispatch fr

/-- R167: a separator has read dominant: the frame is followed no longer and is one discarded frame of the wrong length. -/
def State.frameBroken (s : State) : State :=
  if !s.live || !s.link.receives then s.straysSeen else (s.awaitIdle true).discardFrame

/-- R159, R160: a dominant bit on the idle bus, or on a bus that has stayed recessive under a start bit of this station, is the start bit of another station's frame, and this station follows it as a receiver and
begins nothing; before the bus is idle it belongs to no frame. -/
def State.startBitSeen (s : State) : State :=
  if s.live && s.link.sending.isNone && (s.link.bus == .idle || s.link.bus == .recessive) then { s with link := { s.link with bus := .following } }
  else s.straysSeen

/-- R159, R167, R169: what the receiver saw is judged: a start bit, a frame, or one discarded frame of the wrong length. -/
def State.takeActivity (s : State) (seen : BusActivity) : State :=
  match seen with
  | .startBit => s.startBitSeen
  | .stray => s.straysSeen
  | .bits l =>
    match Frame.ofBits l with
    | none => s.frameBroken
    | some fr => s.takeFrame fr

/-- R159: the bus has been recessive for 11 bit times outside a frame. The recessive bits of a frame that is followed, and those of a frame
of this station, count for nothing. -/
def State.findIdle (s : State) : State :=
  if !s.live || s.link.sending.isSome || s.link.bus == .following then s
  else { s with link := { s.link with bus := .idle } }

end Sys2Proof.Machine
end

