-- ==== Sys2Proof/Machine/StartOps.lean ====
section
/-! DEFINITION. The start unit's operations: the reset conditions (R178), the cold start (R179), the warm restart (R181), the taking of a good
configuration, UNCONFIGURED (R183) and the start of RUN (R180). -/

namespace Sys2Proof.Machine

/-- R178: every unit at the values its chapter gives after a cold start. The lines, the free-running sources of time, the free
order and the queue are not the units'. -/
def State.cold (s : State) : State :=
  { State.reset with
    clock := s.clock, pins := { s.pins with reset := true, holdHigh := false }, order := s.order, pending := s.pending }

/-- R178, R158: the held reset takes hold: every channel is stopped, no event is taken, everything else keeps its value.
An event of the sampling that nobody has taken yet is dropped (notes/assumptions/38.md). -/
def State.hold (s : State) : State :=
  { s with
    timers := s.timers.stopAll, raised := []
    start := { s.start with condition := .held, request := .none } }

/-- R178: a held reset of a cold start's CONFIG-READ holds nothing, and its release is a cold start. -/
def State.heldIsCold (s : State) : Bool :=
  s.start.phase == .configRead && s.start.kind == .cold && s.start.image.isNone

/-- R178: RESET is asserted. With HOLD high while a frame of this station is under way the held reset is requested for the frame's end; where an
earlier held reset has been released before that end, the new assertion takes the place of the warm restart noted, which R178 leaves open
(notes/assumptions/45.md). -/
def State.assertReset (s : State) (holdHigh : Bool) : State :=
  if !holdHigh then s.cold
  else if s.start.condition ≠ .none then s
  else
    let s1 := { s with pins := { s.pins with reset := true, holdHigh := true } }
    if s.link.sending.isSome then { s1 with start := { s1.start with request := .hold } } else s1.hold

/-- R178: HOLD falls low: during an assertion a held reset becomes a cold reset; otherwise nothing. -/
def State.dropHold (s : State) : State :=
  if s.start.condition = .held ∨ s.start.request = .hold then s.cold
  else { s with pins := { s.pins with holdHigh := false } }

/-- R179, R1: the release of a cold reset: CONFIG-READ, with the start position of the MODE key. -/
def State.releaseCold (s : State) (k1 k2 k3 : ModeReading) : State :=
  let c := s.cold
  let m := startPositionOf k1 k2 k3
  { c with
    pins := { c.pins with reset := false, mode := k3 }
    modes := { c.modes with mode := m, keyPosition := m, keyReading := readingOf m }
    light := { c.light with base := baseScene m }
    start := { c.start with condition := .none } }

/-- R97, R107: the list of the local entries of the open points, in order of point index. -/
def State.rebuildList (s : State) : State :=
  s.setList (s.openPoints.foldl (fun l p => placeEntry (s.localEntry p) l) [])

/-- R81: a door record at the release of a warm restart; it is held until the re-read configuration says otherwise. -/
def DoorRec.held (r : DoorRec) : DoorRec := { r with filter := Filter.clear, ajar := false, keep := true }

/-- R107: a call point record at a warm restart. -/
def PointRec.heldOver (r : PointRec) : PointRec := { r with hurry := r.state == .waiting && r.late }

/-- R181 and the rules it gathers: the release of a held reset that begins a warm restart. The stations of the neighbour entries stay until the
re-read, in the unheard values (notes/assumptions/37.md). The claims withdrawn here resolve no door: every door keeps its hold-deferred flag as R81
holds it (notes/assumptions/44.md). -/
def State.releaseWarm (s : State) : State :=
  let evac := s.fire.state == .fire
  let s1 : State :=
    { s with
      pins := { s.pins with reset := false }
      timers := s.timers.stopAll
      modes := { s.modes with keyReading := readingOf s.modes.keyPosition, keyFilter := Filter.clear }
      fire := { s.fire with
        loops := Vector.ofFn fun l => { s.fire.loops[l] with filter := Filter.clear }
        evac := evac, silenced := false }
      watch := { s.watch with
        inputs := Vector.ofFn fun i => { s.watch.inputs[i] with filter := Filter.clear }
        round := false, buttons := Vector.replicate 4 .released }
      doors := { records := Vector.ofFn fun d => s.doors.records[d].held, passage := false }
      calls := { s.calls with points := Vector.ofFn fun p => s.calls.points[p].heldOver }
      table := { entries := Vector.ofFn fun k => s.table.entries[k].map fun e => NbEntry.unheard e.station, roster := [] }
      egress := .uncomputed
      light := { s.light with
        base := baseScene s.modes.mode
        above := (if s.watch.intrusion then [.intrusion] else []) ++ (if evac then [.evacuate] else []) }
      link := .initial
      start := { s.start with
        phase := .configRead, kind := .warm, condition := .none, freeze := !evac, attempts := 0, request := .none }
      troubles := { record := [], silenced := false }
      buzzer := { Buzzer.silent with verify := if s.fire.phase = .ackWindow then some 0 else none }
      keys := .released
      raised := [] }
  (s1.rebuildList.relevelAll).refreshLights

/-- R178: the end of a frame at which a held reset takes hold, or has been released already. -/
def State.frameOver (s : State) : State :=
  match s.start.request with
  | .none => s
  | .hold => s.hold
  | .warm => s.hold.releaseWarm

/-- R57, R81: two descriptors of the same kind, ownership and magnet fitting. -/
def sameFitting (a b : DoorDesc) : Bool := a.kind == b.kind && a.owned == b.owned && a.magnet == b.magnet

/-- R39: a loop record takes its kind. -/
def LoopRec.takeKind (r : LoopRec) (kind : LoopKind) : LoopRec :=
  { r with kind := kind, band := if r.kind = kind ∧ kind ≠ .unused then readByKind kind r.band else .normal }

/-- R55: a watch input record takes its kind. -/
def WatchRec.takeKind (r : WatchRec) (kind : WatchKind) : WatchRec :=
  { r with kind := kind, band := if r.kind = kind ∧ kind ≠ .unused then r.band else .normal }

/-- R57, R81: a door record takes its descriptor, or starts afresh. -/
def DoorRec.takeDesc (r : DoorRec) (desc : DoorDesc) : DoorRec :=
  if sameFitting r.desc desc then { r with desc := desc } else DoorRec.afresh desc

/-- R110: the distinct neighbours of the INTERIOR doors, in order of door index. -/
def neighboursOf (doors : Vector DoorDesc 4) : List Station :=
  (doors.toList.filter fun d => d.kind == .interior).foldl
    (fun l d => if d.neighbour ∈ l then l else l ++ [d.neighbour]) []

/-- R110: the entries, made in the unheard values. -/
def entriesOf (doors : Vector DoorDesc 4) : Vector (Option NbEntry) 4 :=
  Vector.ofFn fun k => ((neighboursOf doors)[k.val]?).map NbEntry.unheard

/-- R68, R81: a position that starts afresh changes its lock output or its position, which STATUS carries. A change of the fitted-and-owned
mark alone marks nothing (notes/assumptions/17.md). -/
def State.startsAfresh (s : State) (img : Image) (d : Fin 4) : Bool :=
  let new := (s.door d).takeDesc img.doors[d]
  new.lock != (s.door d).lock || new.position != (s.door d).position

/-- R39, R55, R57, R85, R110: every unit takes its part of the image. A CALL mark of a point that is configured no longer is kept
(notes/assumptions/36.md). -/
def State.takeImage (s : State) (img : Image) : State :=
  let s1 : State :=
    { s with
      start := { s.start with image := some img }
      fire := { s.fire with loops := Vector.ofFn fun l => s.fire.loops[l].takeKind img.loops[l] }
      watch := { s.watch with inputs := Vector.ofFn fun i => s.watch.inputs[i].takeKind img.watch[i] }
      doors := { s.doors with records := Vector.ofFn fun d => s.doors.records[d].takeDesc img.doors[d] }
      calls := { s.calls with
        points := Vector.ofFn fun p => if p.val < img.points then s.calls.points[p] else .idle }
      table := { s.table with entries := entriesOf img.doors }
      link := { s.link with status := s.link.status || (List.finRange 4).any (s.startsAfresh img) } }
  s1.rebuildList

/-- R39, R55, R81: the troubles that held state calls for. -/
def State.heldTroubles (s : State) : List Trouble :=
  ((List.finRange 6).filter fun l => s.fire.loops[l].band.outOfService).map Trouble.loop
  ++ ((List.finRange 8).filter fun i =>
      s.watch.inputs[i].band == .fault
        || (s.watch.inputs[i].band == .active
            && responseTable (.active s.watch.inputs[i].kind) s.column == .trouble)).map Trouble.watchLine
  ++ ((List.finRange 4).filter fun d => (s.door d).phase == some .unsensed).map Trouble.doorPosition
  ++ ((List.finRange 4).filter fun d => (s.door d).phase == some .blocked).map Trouble.doorBlocked

/-- R158: the held timings, each with its channel, its full duration and its compare value; every one counts 1 s ticks once. -/
def State.heldTimings (s : State) : List (Chan × Nat × Nat) :=
  (match s.fire.phase with
    | .ackWindow => [(.t0, s.cfg.ackWindow, 0)]
    | .investigation => [(.pair, s.cfg.investigation, 0)]
    | .none => [])
  ++ (List.finRange 4).flatMap (fun d =>
      if (s.door d).phase = some .closing then [(.door d, s.cfg.travel, 0)]
      else if s.ajarDue d && (s.door d).desc.isOwned then [(.door d, s.cfg.ajar, s.cfg.ajar / 2)]
      else [])
  ++ (List.finRange 4).flatMap (fun p =>
      match (s.point p).state with
      | .waiting => [(.point p, s.cfg.escalation, s.cfg.escalation / 2)]
      | .answered => [(.point p, s.cfg.attend, 0)]
      | .idle => [])
  ++ (if s.watch.guard = .setting then [(.t18, s.cfg.exitDelay, 0)] else [])

/-- R158, first step: each held timing's channel is preset. -/
def State.presetHeld (s : State) : State :=
  s.heldTimings.foldl (fun t h => t.presetTimer h.1 h.2.1 .s1 .oneShot h.2.2) s

/-- R158, second step: each held timing's channel is resumed. -/
def State.resumeHeld (s : State) : State := s.heldTimings.foldl (fun t h => t.resumeTimer h.1) s

/-- R74: the doors under ajar timing when their channels are preset. -/
def State.markAjar (s : State) : State :=
  { s with doors := { s.doors with
      records := Vector.ofFn fun d =>
        { s.doors.records[d] with ajar := s.ajarDue d && s.doors.records[d].desc.isOwned } } }

/-- R179, R181: the listen or relearn period and the sweep are started. -/
def State.startPeriods (s : State) : State :=
  (s.startTimer .t19 30 .ms100 .oneShot 0).startTimer .t17 s.cfg.silence .ms100 .periodic 0

/-- R45, R56: the guard state at the start of LISTEN, or on entry to UNCONFIGURED after a cold start. -/
def State.guardAtStart (s : State) : State :=
  if s.modes.mode = .night then (s.setGuard .setting).startExitDelay else s

/-- The start phase replaced. -/
def State.setPhase (s : State) (p : StartPhase) : State := { s with start := { s.start with phase := p } }

/-- R179, R181: the configuration has been judged good. -/
def State.configGood (s : State) (img : Image) : State :=
  let s1 := s.takeImage img
  match s.start.kind with
  | .cold => (((s1.setPhase .listen).startPeriods).guardAtStart).refreshLights
  | .warm =>
    let s2 := (s1.heldTroubles.foldl State.enterTrouble s1).markAjar
    (((s2.presetHeld).setPhase .relearn).startPeriods.resumeHeld).refreshLights

/-- R40, R56, R84, R108, R122, R124: what every unit holds in UNCONFIGURED whatever was held. -/
def State.stripped (s : State) : State :=
  { s with
    start := { s.start with phase := .unconfigured, image := none, freeze := false, attempts := 0 }
    modes := { s.modes with settled := false }
    fire := { s.fire with loops := Vector.replicate 6 { kind := .unused, band := .normal, filter := Filter.clear } }
    watch := { s.watch with
      inputs := Vector.replicate 8 { kind := .unused, band := .normal, filter := Filter.clear }
      buttons := Vector.replicate 4 .released }
    doors := { records := Vector.replicate 4 (DoorRec.afresh .none), passage := false }
    calls := { points := Vector.replicate 4 .idle, list := [] }
    table := { entries := Vector.replicate 4 none, roster := [] }
    egress := .uncomputed
    link := { s.link with offer := none } }

/-- R40: a fire state held into UNCONFIGURED. -/
def State.unconfiguredFire (s : State) : State :=
  match s.fire.state with
  | .verify => s.enterFire
  | .prealarm => s.setFireState .clear
  | .clear | .fire => s

/-- R45, R56, R158: the guard state on entry to UNCONFIGURED. -/
def State.unconfiguredGuard (s : State) : State :=
  match s.start.kind with
  | .cold => s.guardAtStart
  | .warm => if s.watch.guard = .setting then s.startExitDelay else s

/-- R183: the read has ended without a good configuration; R40: the evacuation flag follows the own fire state alone. -/
def State.enterUnconfigured (s : State) : State :=
  (((s.stripped.enterTrouble .config).unconfiguredFire.recomputeEvac).unconfiguredGuard).refreshLights

/-- R176: one attempt is completed. -/
def State.readAttempt (s : State) (t : ConfigTransfer) : State :=
  if !s.live || s.start.phase != .configRead then s
  else
    match judgeRead t with
    | .failed =>
      if s.start.attempts + 1 < 3 then { s with start := { s.start with attempts := s.start.attempts + 1 } }
      else s.enterUnconfigured
    | .badNumber => s.enterUnconfigured
    | .good img => s.configGood img

/-- R114: the silence timers of the entries still UNHEARD are started. -/
def State.startUnheard (s : State) : State :=
  (List.finRange 4).foldl (fun t k =>
    if (t.table.entries[k].map NbEntry.state) = some .unheard then t.startSilence k else t) s

/-- R107: after a warm restart the CALL slot of every open point is marked. -/
def State.markOpenCalls (s : State) : State := s.openPoints.foldl State.markCall s

/-- R180: the start of RUN: the mode unit, the egress unit and the start unit in any order, then the link unit, the neighbour table
and the call unit. -/
def State.beginRun (s : State) : State :=
  let s1 := deliver [State.settle, State.firstEgress, State.release] (s.setPhase .run)
  let s2 := (s1.markStatus).startRefresh.startUnheard
  if s.start.kind = .warm then s2.markOpenCalls else s2

end Sys2Proof.Machine
end

