-- ==== Sys2Proof/Machine/KeyFamily.lean ====
section
/-! DEFINITION. The meanings of the panel keys: KEY_CHANGE, ACK, RESTORE, ACCEPT, GUARD, PASSAGE and TEST. -/

namespace Sys2Proof.Machine

/-- R3: the filtered key takes a position; the mode unit is told only of one that differs from the position kept. -/
def State.keyTaken (s : State) (position : Mode) : State :=
  if s.modes.keyPosition = position then s
  else
    State.turnKey
      { s with modes := { s.modes with keyPosition := position, keyReading := readingOf position, keyFilter := Filter.clear } }
      position

/-- KEY_CHANGE (R3 to R5), in every phase; the lines of the key read as the position does. -/
def execKeyChange (position : Mode) (s : State) : Answer :=
  let s1 := { s with pins := { s.pins with mode := readingOf position } }
  .next (if s.live then s1.keyTaken position else s1)

/-- R188: the filter of a key that is sampled has taken three closed samples: from released it changes to pressed, which is the press; a filter
that holds pressed already gives none until it has taken a release. -/
def State.keyReads (s : State) (k : PanelKey) (press : State → State) : State :=
  let s1 := s.setKeyRec k .held
  if (s.keys.get k).pressed then s1 else press s1

/-- R188: a key is pressed down: its line is closed, and in the phases in which it is sampled its filter reads it so. Outside them the filter
holds released, and the line is sampled from the start of the next such phase. The line opens again in the tick (notes/assumptions/10.md). -/
def State.keyDown (s : State) (k : PanelKey) (sampled : Bool) (press : State → State) : State :=
  let s1 := s.setKeyLine k true
  if sampled then s1.keyReads k press else s1

/-- R29, R36, R186: the fire unit's part of ACK and the trouble unit's. -/
def State.pressAck (s : State) : State :=
  let s1 := s.ackVerification.ackSounder
  State.syncBuzzer { s1 with troubles := { s1.troubles with silenced := true } }

/-- ACK (R29, R36, R186). -/
def execAck (s : State) : Answer := .next (s.keyDown .ack s.keyed State.pressAck)

/-- R184: the trouble unit's part of RESTORE. -/
def State.restoreTroubles (s : State) : State := s.removeTroubles Trouble.latched

/-- R31, R52, R184: the three parts of RESTORE in any order; R188: one REFUSE however many parts refuse. -/
def State.pressRestore (s : State) : State :=
  let s1 := if s.fireRefuses || s.watchRefuses then s.present .refuse else s
  deliver [State.restoreFire, State.restoreWatch, State.restoreTroubles] s1

/-- RESTORE (R31, R52, R184). -/
def execRestore (s : State) : Answer := .next (s.keyDown .restore s.keyed State.pressRestore)

/-- ACCEPT (R103). -/
def execAccept (s : State) : Answer := .next (s.keyDown .accept s.keyed State.acceptCall)

/-- R48, R91: the watch unit's part of GUARD and the call unit's. -/
def State.pressGuard (s : State) : State := s.guardWatch.clearPoints

/-- GUARD (R48, R91). -/
def execGuard (s : State) : Answer := .next (s.keyDown .guard s.keyed State.pressGuard)

/-- R64: the PASSAGE slot stands from now on, and T21 is started or restarted; doors are resolved where the slot did not stand. -/
def State.takePassage (s : State) : State :=
  let s1 := State.startTimer { s with doors := { s.doors with passage := true } } .t21 s.cfg.passage .ms100 .oneShot 0
  if s.doors.passage then s1 else s1.resolveAll

/-- PASSAGE (R64). -/
def execPassage (s : State) : Answer := .next (s.keyDown .passage s.hearing State.takePassage)

/-- R144: the lamp test is started. -/
def State.pressTest (s : State) : State := (s.pushScene .test).startTimer .t20 10 .s1 .oneShot 0

/-- TEST (R144). -/
def execTest (s : State) : Answer := .next (s.keyDown .test s.keyed State.pressTest)

end Sys2Proof.Machine
end

