-- ==== Sys2Proof/Machine/LinkFamily.lean ====
section
/-! DEFINITION. The meanings of the Concourse link's events and of the end of a buzzer pattern. -/

namespace Sys2Proof.Machine

/-- BUZZER_PATTERN_END (R187). An end of this pattern that the station's own tick has raised is this end, and is taken with it. -/
def execBuzzerPatternEnd (pattern : OneShot) (s : State) : Answer :=
  .next (
    if s.live then
      { s with
        buzzer := s.buzzer.setOneShot pattern (s.buzzer.oneShot pattern).ended
        raised := s.raised.erase (.buzzerPatternEnd pattern) }
    else s)

/-- BEGIN_FRAME (R160, R164, R165). -/
def execBeginFrame (s : State) : Answer := .next s.beginFrame

/-- R178: a held reset that waits for the end of a frame takes hold where the event ended it. -/
def State.afterFrame (before after : State) : State :=
  if before.link.sending.isSome && after.link.sending.isNone then after.frameOver else after

/-- LOST_ARBITRATION (R160). -/
def execLostArbitration (bit : Fin 8) (s : State) : Answer :=
  .next (if s.live then s.afterFrame (s.loseArbitration bit) else s)

/-- TRANSMIT_FAULT (R161, R162). -/
def execTransmitFault (bit : Nat) (s : State) : Answer :=
  .next (if s.live then s.afterFrame (s.transmitFault bit) else s)

/-- FRAME_SENT (R165). -/
def execFrameSent (s : State) : Answer := .next (if s.live then s.afterFrame s.frameSent else s)

/-- RECEIVED_STATUS (R172). -/
def execReceivedStatus (frame : StatusFrame) (s : State) : Answer := .next (s.takeFrame (.status frame))

/-- RECEIVED_NOTICE (R98). -/
def execReceivedNotice (frame : CallFrame) (s : State) : Answer := .next (s.takeFrame (.call frame))

/-- RECEIVED_OFFER (R89). -/
def execReceivedOffer (frame : AnswerFrame) (s : State) : Answer := .next (s.takeFrame (.answer frame))

/-- FRAME_DISCARDED (R167, R169). -/
def execFrameDiscarded (seen : BusActivity) (s : State) : Answer := .next (s.takeActivity seen)

/-- BUS_IDLE (R159). -/
def execBusIdle (s : State) : Answer := .next s.findIdle

end Sys2Proof.Machine
end

