-- ==== Sys2Proof/Machine/SampleFamily.lean ====
section
/-! DEFINITION. The meanings of the field lines' events: BAND_CHANGE, WATCH_BAND_CHANGE, CALL_BUTTON_PRESSED, FIRST_READING and
POSITION_CHANGE. Each sets the line it speaks of; the event itself is taken while the line is sampled. -/

namespace Sys2Proof.Machine

/-- R17, R18: the loop's filter has taken the band of this current. -/
def State.loopReads (s : State) (l : Fin 6) (microamps : Nat) : State :=
  let r := s.fire.loops[l]
  let band := readByKind r.kind (loopBandOf microamps)
  if r.kind = .unused then s
  else if r.band = band then s.setLoop l { r with filter := Filter.clear }
  else s.bandTaken l band

/-- BAND_CHANGE (R18 to R25). -/
def execBandChange (l : Fin 6) (microamps : Nat) (s : State) : Answer :=
  let s1 := { s with pins := { s.pins with loops := s.pins.loops.set l microamps } }
  .next (if s.hearing then s1.loopReads l microamps else s1)

/-- R42: the input's filter has taken the band of this reading. -/
def State.inputReads (s : State) (i : Fin 8) (reading : WatchReading) : State :=
  let r := s.watch.inputs[i]
  if r.kind = .unused then s
  else if r.band = watchBandOf reading then s.setInput i { r with filter := Filter.clear }
  else s.watchBandTaken i (watchBandOf reading)

/-- WATCH_BAND_CHANGE (R42, R43). -/
def execWatchBandChange (i : Fin 8) (reading : WatchReading) (s : State) : Answer :=
  let s1 := { s with pins := { s.pins with watch := s.pins.watch.set i reading } }
  .next (if s.hearing then s1.inputReads i reading else s1)

/-- CALL_BUTTON_PRESSED (R44): the button's line is closed, and its filter reads it so; the buttons that are not sampled stay released. The
line opens again in the tick (notes/assumptions/10.md). -/
def execCallButtonPressed (p : Fin 4) (s : State) : Answer :=
  let s1 := s.setButtonLine p true
  .next (if s.hearing && s.pointFitted p then s1.buttonReads p else s1)

/-- FIRST_READING (R80), of an owned door whose position is absent. -/
def execFirstReading (d : Fin 4) (reading : ContactReading) (s : State) : Answer :=
  let s1 := { s with pins := { s.pins with doors := s.pins.doors.set d reading } }
  .next (
    if s.hearing && (s.door d).desc.isOwned && (s.door d).position.isNone then s1.firstReading d (positionOf reading)
    else s1)

/-- R69 to R71: a position change is taken; R70, R12: FORCED is looked up as the door enters that phase. -/
def State.positionTaken (s : State) (d : Fin 4) (p : Position) : State :=
  match p with
  | .closed => s.doorCloses d
  | .unknown => s.doorLost d
  | .opened =>
    let s1 := s.doorOpens d
    if (s1.door d).phase = some .forced then s1.respond (responseTable .forced s1.column) else s1

/-- POSITION_CHANGE (R59), of an owned door with a position. -/
def execPositionChange (d : Fin 4) (reading : ContactReading) (s : State) : Answer :=
  let s1 := { s with pins := { s.pins with doors := s.pins.doors.set d reading } }
  .next (
    if s.hearing && (s.door d).desc.isOwned && (s.door d).position.isSome then
      if (s.door d).position = some (positionOf reading) then s1.setDoor d { s1.door d with filter := Filter.clear }
      else s1.positionTaken d (positionOf reading)
    else s1)

end Sys2Proof.Machine
end

