-- ==== Sys2Proof/Machine/StartFamily.lean ====
section
/-! DEFINITION. The meanings of the start unit's commands: RESET_ASSERTED, HOLD_FALLS, COLD_START, WARM_RESTART, CONFIG_READ_ATTEMPT and
START_OF_RUN. -/

namespace Sys2Proof.Machine

/-- RESET_ASSERTED (R178). -/
def execResetAsserted (holdHigh : Bool) (s : State) : Answer := .next (s.assertReset holdHigh)

/-- HOLD_FALLS (R178). -/
def execHoldFalls (s : State) : Answer := .next s.dropHold

/-- R178: the releases that begin a cold start: from a cold reset, and from a held reset of a cold start's CONFIG-READ. -/
def State.coldReleases (s : State) : Bool :=
  s.start.condition == .cold || (s.start.condition == .held && s.heldIsCold)

/-- R178: the releases that begin a warm restart. -/
def State.warmReleases (s : State) : Bool := s.start.condition == .held && !s.heldIsCold

/-- COLD_START (R179). -/
def execColdStart (k1 k2 k3 : ModeReading) (s : State) : Answer :=
  .next (if s.coldReleases then s.releaseCold k1 k2 k3 else s)

/-- WARM_RESTART (R181). R178: a release before the end of a frame under way waits for that end. -/
def execWarmRestart (s : State) : Answer :=
  .next (
    if s.warmReleases then s.releaseWarm
    else if s.start.request = .hold then
      { s with start := { s.start with request := .warm }, pins := { s.pins with reset := false } }
    else s)

/-- CONFIG_READ_ATTEMPT (R176). -/
def execConfigReadAttempt (transfer : ConfigTransfer) (s : State) : Answer := .next (s.readAttempt transfer)

/-- START_OF_RUN (R180). -/
def execStartOfRun (s : State) : Answer := .next (s.onExpiry .t19 s.listening State.beginRun)

end Sys2Proof.Machine
end

