-- ==== Sys2Proof/Machine/TimerFamily.lean ====
section
/-! DEFINITION. The meanings of the timer bank's events, each taken by the owner of its channel while the purpose it was started for stands
(R154, R157). -/

namespace Sys2Proof.Machine

/-- R28: T0 counts the ACK window. -/
def State.ackWindowRuns (s : State) : Bool := s.fire.state == .verify && s.fire.phase == .ackWindow

/-- R28: the pair counts the investigation. -/
def State.investigationRuns (s : State) : Bool := s.fire.state == .verify && s.fire.phase == .investigation

/-- ACK_WINDOW_EXPIRY (R28). -/
def execAckWindowExpiry (s : State) : Answer := .next (s.onExpiry .t0 s.ackWindowRuns State.enterFire)

/-- INVESTIGATION_EXPIRY (R28). -/
def execInvestigationExpiry (s : State) : Answer := .next (s.onExpiry .pair s.investigationRuns State.enterFire)

/-- R73: the door's channel counts the travel limit. -/
def State.travels (s : State) (d : Fin 4) : Bool := (s.door d).phase == some .closing

/-- TRAVEL_LIMIT_EXPIRY (R73). -/
def execTravelLimitExpiry (d : Fin 4) (s : State) : Answer :=
  .next (s.onExpiry (.door d) (s.travels d) fun t => t.travelLapse d)

/-- R74: the door's channel counts the ajar limit. -/
def State.standsAjar (s : State) (d : Fin 4) : Bool := (s.door d).ajar && !s.travels d

/-- AJAR_COMPARE (R74): one WARNING chirp. -/
def execAjarCompare (d : Fin 4) (s : State) : Answer :=
  .next (s.onCompare (.door d) (s.standsAjar d) fun t => t.present .warning)

/-- HELD_EVENT (R74, R12): the event is looked up in the column in effect; R152: a compare still due is taken before it. -/
def execHeldEvent (d : Fin 4) (s : State) : Answer :=
  .next (s.onExpiry (.door d) (s.standsAjar d) fun t =>
    (if (s.channel (.door d)).compareDue then t.present .warning else t).respond (responseTable .held s.column))

/-- PASSAGE_EXPIRY (R64). -/
def execPassageExpiry (s : State) : Answer :=
  .next (s.onExpiry .t21 true fun t => State.resolveAll { t with doors := { t.doors with passage := false } })

/-- ESCALATION_COMPARE (R88). -/
def execEscalationCompare (p : Fin 4) (s : State) : Answer :=
  .next (s.onCompare (.point p) ((s.point p).state == .waiting) fun t => t.hurry p)

/-- ESCALATION_EXPIRY (R88); R152: a compare still due is taken before it. -/
def execEscalationExpiry (p : Fin 4) (s : State) : Answer :=
  .next (s.onExpiry (.point p) ((s.point p).state == .waiting) fun t =>
    (if (s.channel (.point p)).compareDue then t.hurry p else t).escalate p)

/-- ATTEND_LIMIT_EXPIRY (R90). -/
def execAttendLimitExpiry (p : Fin 4) (s : State) : Answer :=
  .next (s.onExpiry (.point p) ((s.point p).state == .answered) fun t => t.attendLapse p)

/-- SILENCE_EXPIRY (R115). -/
def execSilenceExpiry (k : Fin 4) (s : State) : Answer :=
  .next (s.onExpiry (.silence k) (s.table.entries[k]).isSome fun t => t.fallMute k)

/-- SWEEP (R100, R119): the fire roster and the call list. -/
def execSweep (s : State) : Answer := .next (s.onExpiry .t17 true fun t => t.sweepRoster.sweepCalls)

/-- EXIT_DELAY_EXPIRY (R47). -/
def execExitDelayExpiry (s : State) : Answer :=
  .next (s.onExpiry .t18 (s.watch.guard == .setting) fun t => t.setGuard .watching)

/-- ROUND_EXPIRY (R47). -/
def execRoundExpiry (s : State) : Answer :=
  .next (s.onExpiry .t18 (s.watch.guard == .watching && s.watch.round) State.endRound)

/-- LAMP_TEST_EXPIRY (R144). -/
def execLampTestExpiry (s : State) : Answer := .next (s.onExpiry .t20 true fun t => t.removeScene .test)

/-- REFRESH_EXPIRY (R166, R93): STATUS, and the CALL slot of every open point. -/
def execRefreshExpiry (s : State) : Answer := .next (s.onExpiry .t15 true fun t => t.markStatus.markOpenCalls)

/-- STATUS_PACING_EXPIRY (R164): the STATUS slot is eligible again, T16 being halted. -/
def execStatusPacingExpiry (s : State) : Answer := .next (s.onExpiry .t16 true id)

/-- QUIET_PERIOD_EXPIRY (R162). -/
def execQuietPeriodExpiry (s : State) : Answer :=
  .next (s.onExpiry .t19 s.link.quiet fun t => { t with link := { t.link with quiet := false } })

end Sys2Proof.Machine
end

