-- ==== Sys2Proof/Machine/Tick.lean ====
section
/-! DEFINITION. What the station does of itself while no command waits: the 10 ms tick with its sampling (R17, R42, R44, R59, R188), its counting (R151) and
its rhythms (R136, R187, R189), and the events that wait to be taken (R154, notes/assumptions/7.md). -/

namespace Sys2Proof.Machine

/-! ### One tick of 10 ms -/

/-- R151, R136, R189: every free-running source moves on; the panel's rhythm counts 5 ms. -/
def Clock.tick (c : Clock) : Clock :=
  { hundred := c.hundred + 1, second := c.second + 1, sampling := c.sampling + 1, keySampling := c.keySampling + 1
    lighting := c.lighting + 1, panel := c.panel + 2 }

/-- An event is raised, to be taken by its owner. -/
def State.raise (s : State) (e : Instr) : State := { s with raised := s.raised ++ [e] }

/-- R44, R188: one sample of a call button or a key: its record afterwards, and whether it has become pressed. A change to released is taken at
once and is no event; a change to pressed is taken with its event. -/
def ButtonRec.sample (b : ButtonRec) (closed : Bool) : ButtonRec × Bool :=
  match b.filter.sample (some b.pressed) closed with
  | (f, none) => ({ b with filter := f }, false)
  | (f, some now) => ({ pressed := false, filter := f }, now)

/-- No row of the table lets a held call button or key go, so whether its closed line has opened before this sample is drawn by the free
order (notes/assumptions/10.md). -/
def State.letGo (s : State) (closed : Bool) (openLine : State → State) : State :=
  if closed then
    let s1 := s.afterDraw 2
    if s.drawn 2 = 0 then openLine s1 else s1
  else s

/-- R3, R188: one sample of the MODE key. -/
def State.sampleModeKey (s : State) : State :=
  match s.modes.keyFilter.sample (some s.modes.keyReading) s.pins.mode with
  | (f, none) => { s with modes := { s.modes with keyFilter := f } }
  | (f, some r) =>
    let s1 := { s with modes := { s.modes with keyFilter := f, keyReading := r } }
    match keyPositionOf r with
    | none => s1
    | some p => if p = s.modes.keyPosition then s1 else s1.raise (.keyChange p)

/-- R188: one sample of a key's line through its filter. -/
def State.filterKey (s : State) (k : PanelKey) : State :=
  let b := (s.keys.get k).sample (s.pins.key k)
  let s1 := s.setKeyRec k b.1
  if b.2 then s1.raise k.command else s1

/-- A held key is let go, or not yet. -/
def State.letKeyGo (s : State) (k : PanelKey) : State := s.letGo (s.pins.key k) fun u => u.setKeyLine k false

/-- R188: one sample of a key. -/
def State.sampleKey (s : State) (k : PanelKey) : State := (s.letKeyGo k).filterKey k

/-- R17, R18: one sample of a loop. -/
def State.sampleLoop (s : State) (l : Fin 6) : State :=
  let r := s.fire.loops[l]
  if r.kind = .unused then s
  else
    match r.filter.sample (some r.band) (readByKind r.kind (loopBandOf s.pins.loops[l])) with
    | (f, none) => s.setLoop l { r with filter := f }
    | (f, some _) => (s.setLoop l { r with filter := f }).raise (.bandChange l s.pins.loops[l])

/-- R42: one sample of a watch input. -/
def State.sampleInput (s : State) (i : Fin 8) : State :=
  let r := s.watch.inputs[i]
  if r.kind = .unused then s
  else
    match r.filter.sample (some r.band) (watchBandOf s.pins.watch[i]) with
    | (f, none) => s.setInput i { r with filter := f }
    | (f, some _) => (s.setInput i { r with filter := f }).raise (.watchBandChange i s.pins.watch[i])

/-- R59, R80: one sample of an owned door's position. -/
def State.samplePosition (s : State) (d : Fin 4) : State :=
  let r := s.door d
  if !r.desc.isOwned then s
  else
    match r.filter.sample r.position (positionOf s.pins.doors[d]) with
    | (f, none) => s.setDoor d { r with filter := f }
    | (f, some _) =>
      (s.setDoor d { r with filter := f }).raise
        (if r.position.isNone then .firstReading d s.pins.doors[d] else .positionChange d s.pins.doors[d])

/-- R44: one sample of a call button's line through its filter. -/
def State.filterButton (s : State) (p : Fin 4) : State :=
  let b := s.watch.buttons[p].sample s.pins.buttons[p]
  let s1 := s.setButton p b.1
  if b.2 then s1.raise (.callButtonPressed p) else s1

/-- A held call button is let go, or not yet. -/
def State.letButtonGo (s : State) (p : Fin 4) : State := s.letGo s.pins.buttons[p] fun u => u.setButtonLine p false

/-- R44: one sample of a configured call button. -/
def State.sampleButton (s : State) (p : Fin 4) : State :=
  if s.pointFitted p then (s.letButtonGo p).filterButton p else s

/-- R17, R42, R44, R59: the 100 ms samples. -/
def State.sampleLines (s : State) : State :=
  let s1 := (List.finRange 6).foldl State.sampleLoop s
  let s2 := (List.finRange 8).foldl State.sampleInput s1
  let s3 := (List.finRange 4).foldl State.samplePosition s2
  (List.finRange 4).foldl State.sampleButton s3

/-- R187: 10 ms of a one-shot pattern, which stops at its duration. -/
def OneShotRec.tick (r : OneShotRec) (duration : Nat) : OneShotRec :=
  { r with age := r.age.map fun a => if a < duration then a + 1 else a }

/-- R187: the presentation has just reached its duration. -/
def OneShotRec.runsOut (r : OneShotRec) (duration : Nat) : Bool := r.age == some (duration - 1)

/-- R187: 10 ms of the patterns present, heard or not; VERIFY repeats each 0.5 s, TROUBLE each 2 s. -/
def Buzzer.tick (b : Buzzer) : Buzzer :=
  { verify := b.verify.map fun a => (a + 1) % 50
    trouble := b.trouble.map fun a => (a + 1) % 200
    refuse := b.refuse.tick OneShot.refuse.duration
    callChirp := b.callChirp.tick OneShot.callChirp.duration
    warning := b.warning.tick OneShot.warning.duration }

/-- R187: the one-shot patterns whose presentation has just reached its duration. -/
def Buzzer.endings (b : Buzzer) : List Instr :=
  [OneShot.refuse, OneShot.callChirp, OneShot.warning].filterMap fun p =>
    if (b.oneShot p).runsOut p.duration then some (.buzzerPatternEnd p) else none

/-- R188: the samples of the keys, each in its phases. -/
def State.samplePanel (s : State) : State :=
  let s1 := s.sampleModeKey
  let s2 := if s.keyed then [PanelKey.ack, .restore, .accept, .guard, .test].foldl State.sampleKey s1 else s1
  if s.hearing then s2.sampleKey .passage else s2

/-- One tick of 10 ms. R178: in a reset condition only the free-running sources move, and with them the flashing of the panel lamps, while the
buzzer's own rhythm stands (notes/assumptions/41.md). -/
def State.tick (s : State) : State :=
  let c := s.clock.tick
  let s0 := { s with clock := c }
  if !s.live then s0
  else
    let s1 := { s0 with
      timers := s.timers.tick (c.hundred == 0) (c.second == 0)
      buzzer := s.buzzer.tick
      raised := s.raised ++ s.buzzer.endings }
    let s2 := if c.keySampling == 0 then s1.samplePanel else s1
    if s.hearing && c.sampling == 0 then s2.sampleLines else s2

/-! ### Events that wait -/

/-- R154, R157: the command by which a channel's owner takes the oldest event that waits; none where the event's purpose is over. -/
def State.timerCommand (s : State) (c : Chan) : Option Instr :=
  match (s.channel c).waiting.head? with
  | none => none
  | some .compare =>
    match c with
    | .door d => if s.standsAjar d then some (.ajarCompare d) else none
    | .point p => if (s.point p).state = .waiting then some (.escalationCompare p) else none
    | .t0 | .pair | .silence _ | .t15 | .t16 | .t17 | .t18 | .t19 | .t20 | .t21 => none
  | some .expiry =>
    match c with
    | .t0 => if s.ackWindowRuns then some .ackWindowExpiry else none
    | .pair => if s.investigationRuns then some .investigationExpiry else none
    | .door d =>
      if s.travels d then some (.travelLimitExpiry d) else if s.standsAjar d then some (.heldEvent d) else none
    | .point p =>
      match (s.point p).state with
      | .waiting => some (.escalationExpiry p)
      | .answered => some (.attendLimitExpiry p)
      | .idle => none
    | .silence k => if (s.table.entries[k]).isSome then some (.silenceExpiry k) else none
    | .t15 => some .refreshExpiry
    | .t16 => some .statusPacingExpiry
    | .t17 => some .sweep
    | .t18 =>
      match s.watch.guard with
      | .setting => some .exitDelayExpiry
      | .watching => if s.watch.round then some .roundExpiry else none
      | .opened => none
    | .t19 => if s.listening then some .startOfRun else if s.link.quiet then some .quietPeriodExpiry else none
    | .t20 => some .lampTestExpiry
    | .t21 => some .passageExpiry

/-- The events the station may take now of itself: those its sampling raised, those its timers raised, and the begin of a frame. -/
def State.waitingEvents (s : State) : List Instr :=
  if s.live then
    s.raised ++ Chan.all.filterMap s.timerCommand ++ (if s.mayBegin then [.beginFrame] else [])
  else []

/-- Where events reach the station together either may be taken first (introduction, section 6): one is drawn by the free order, and leaves
the events raised. -/
def State.nextEvent (s : State) : Option (Instr × State) :=
  let events := s.waitingEvents
  let i := s.drawn events.length
  (events[i]?).map fun e => (e, { s.afterDraw events.length with raised := s.raised.eraseIdx i })

/-- An event the station takes of itself leaves its input lines as they are. -/
def State.withPins (s : State) (pins : Pins) : State := { s with pins := pins }

end Sys2Proof.Machine
end

