-- ==== Sys2Proof/Machine/Dispatch.lean ====
section
/-! DEFINITION. One arm per command, each one direct call of its meaning. -/

namespace Sys2Proof.Machine

def exec (i : Instr) (s : State) : Host.Outcome State Fault Refusal :=
  match i with
  | .resetAsserted h => Sys2Proof.Machine.execResetAsserted h s
  | .holdFalls => Sys2Proof.Machine.execHoldFalls s
  | .coldStart k1 k2 k3 => Sys2Proof.Machine.execColdStart k1 k2 k3 s
  | .warmRestart => Sys2Proof.Machine.execWarmRestart s
  | .configReadAttempt t => Sys2Proof.Machine.execConfigReadAttempt t s
  | .startOfRun => Sys2Proof.Machine.execStartOfRun s
  | .keyChange m => Sys2Proof.Machine.execKeyChange m s
  | .ack => Sys2Proof.Machine.execAck s
  | .restore => Sys2Proof.Machine.execRestore s
  | .accept => Sys2Proof.Machine.execAccept s
  | .guard => Sys2Proof.Machine.execGuard s
  | .passage => Sys2Proof.Machine.execPassage s
  | .test => Sys2Proof.Machine.execTest s
  | .bandChange l a => Sys2Proof.Machine.execBandChange l a s
  | .watchBandChange n r => Sys2Proof.Machine.execWatchBandChange n r s
  | .callButtonPressed p => Sys2Proof.Machine.execCallButtonPressed p s
  | .firstReading d r => Sys2Proof.Machine.execFirstReading d r s
  | .positionChange d r => Sys2Proof.Machine.execPositionChange d r s
  | .ackWindowExpiry => Sys2Proof.Machine.execAckWindowExpiry s
  | .investigationExpiry => Sys2Proof.Machine.execInvestigationExpiry s
  | .travelLimitExpiry d => Sys2Proof.Machine.execTravelLimitExpiry d s
  | .ajarCompare d => Sys2Proof.Machine.execAjarCompare d s
  | .heldEvent d => Sys2Proof.Machine.execHeldEvent d s
  | .passageExpiry => Sys2Proof.Machine.execPassageExpiry s
  | .escalationCompare p => Sys2Proof.Machine.execEscalationCompare p s
  | .escalationExpiry p => Sys2Proof.Machine.execEscalationExpiry p s
  | .attendLimitExpiry p => Sys2Proof.Machine.execAttendLimitExpiry p s
  | .silenceExpiry k => Sys2Proof.Machine.execSilenceExpiry k s
  | .sweep => Sys2Proof.Machine.execSweep s
  | .exitDelayExpiry => Sys2Proof.Machine.execExitDelayExpiry s
  | .roundExpiry => Sys2Proof.Machine.execRoundExpiry s
  | .lampTestExpiry => Sys2Proof.Machine.execLampTestExpiry s
  | .refreshExpiry => Sys2Proof.Machine.execRefreshExpiry s
  | .statusPacingExpiry => Sys2Proof.Machine.execStatusPacingExpiry s
  | .quietPeriodExpiry => Sys2Proof.Machine.execQuietPeriodExpiry s
  | .buzzerPatternEnd p => Sys2Proof.Machine.execBuzzerPatternEnd p s
  | .beginFrame => Sys2Proof.Machine.execBeginFrame s
  | .lostArbitration b => Sys2Proof.Machine.execLostArbitration b s
  | .transmitFault b => Sys2Proof.Machine.execTransmitFault b s
  | .frameSent => Sys2Proof.Machine.execFrameSent s
  | .receivedStatus f => Sys2Proof.Machine.execReceivedStatus f s
  | .receivedNotice f => Sys2Proof.Machine.execReceivedNotice f s
  | .receivedOffer f => Sys2Proof.Machine.execReceivedOffer f s
  | .frameDiscarded a => Sys2Proof.Machine.execFrameDiscarded a s
  | .busIdle => Sys2Proof.Machine.execBusIdle s

end Sys2Proof.Machine
end

