-- ==== Sys2Proof/Machine/Step.lean ====
section
/-! DEFINITION. One step: the command at the front of the queue; with no command waiting, an event the station takes of itself, or one tick
of 10 ms (notes/assumptions/7.md). -/

namespace Sys2Proof.Machine

/-- The outcome of an event the station takes of itself, with its input lines as they were. -/
def keepPins (pins : Pins) (o : Host.Outcome State Fault Refusal) : Host.Outcome State Fault Refusal :=
  match o with
  | .next t => .next (t.withPins pins)
  | .fault r => .fault r
  | .refused r => .refused r

/-- One step of the station. -/
def step (s : State) : Host.Outcome State Fault Refusal :=
  match s.pending with
  | c :: rest => exec c { s with pending := rest }
  | [] =>
    match s.nextEvent with
    | some (e, t) => keepPins s.pins (exec e t)
    | none => .next s.tick

/-- The state with the command that a table word spells in front of its queue; no row of the table has bits, so no word spells one. -/
def State.withFetchWord (s : State) (nbits w : Nat) : State :=
  match Sys2Proof.decodeTableWord nbits w with
  | some c => { s with pending := c :: s.pending }
  | none => s

end Sys2Proof.Machine
end

