-- ==== Sys2Proof/Safety.lean ====
section
/-! DEFINITION. What the rules say is always so: the invariants of the station, each a decidable property of one state. -/

namespace Sys2Proof.Machine

/-- R33: the evacuation flag is set exactly when the own fire state is FIRE or the fire roster is non-empty. -/
abbrev State.EvacuationSound (s : State) : Prop := s.fire.evac = s.evacDue

/-- R20, R30: the verification record has a phase and a first loop exactly in VERIFY, and VERIFY stands in PUBLIC alone. -/
abbrev State.VerificationSound (s : State) : Prop :=
  (s.fire.state = .verify ↔ s.fire.phase ≠ .none) ∧ (s.fire.state = .verify ↔ s.fire.firstLoop.isSome = true)
    ∧ (s.fire.state = .verify → s.modes.mode = .pub)

/-- R160, R163: a frame of this station is under way in RUN alone. -/
abbrev State.SendingSound (s : State) : Prop := s.link.sending.isSome = true → s.start.phase = .run

/-- R11, R45: outside NIGHT the guard state is OPEN; in NIGHT it is SETTING or WATCHING, but for the CONFIG-READ of a cold start; a round is
walked in WATCHING alone. -/
abbrev State.GuardSound (s : State) : Prop :=
  (s.modes.mode ≠ .night → s.watch.guard = .opened)
    ∧ (s.modes.mode = .night → s.watch.guard = .opened → s.start.phase = .configRead ∧ s.start.kind = .cold)
    ∧ (s.watch.round = true → s.watch.guard = .watching)
    ∧ (s.start.phase = .configRead → s.start.kind = .cold → s.start.image = none ∧ s.watch.guard = .opened)

/-- R139: the scene stack has the base scene of the mode at the bottom and holds no scene twice; EVACUATE is in it exactly while the
evacuation flag is set, and is then its top; it holds at most the configured depth, which is at least 3; R147: until the configuration is read
again nothing but INTRUSION and EVACUATE lies above the base. -/
abbrev State.StackSound (s : State) : Prop :=
  s.light.base = baseScene s.modes.mode ∧ s.light.stack.Nodup
    ∧ (Scene.evacuate ∈ s.light.stack ↔ s.fire.evac = true)
    ∧ (s.fire.evac = true → s.light.top = .evacuate)
    ∧ (∀ sc ∈ s.light.above, sc = .round ∨ sc = .intrusion ∨ sc = .test ∨ sc = .evacuate)
    ∧ 3 ≤ s.cfg.depth ∧ s.light.stack.length ≤ s.cfg.depth
    ∧ (s.start.phase = .configRead → ∀ sc ∈ s.light.above, sc = .intrusion ∨ sc = .evacuate)

/-- R117, R119: the fire roster holds no station twice and never the own station number; outside LISTEN, RELEARN and RUN it is empty. -/
abbrev State.RosterSound (s : State) : Prop :=
  (s.table.roster.map Member.station).Nodup ∧ s.own ∉ s.table.roster.map Member.station
    ∧ (s.start.phase = .configRead ∨ s.start.phase = .unconfigured → s.table.roster = [])

/-- R57, R128: the egress result: an EXIT door is owned; the own cost is 1 to 200 with a chosen door, or 255 without one; while a computation has been made in RUN, the chosen
door gives that cost now. -/
abbrev State.EgressSound (s : State) : Prop :=
  (∀ d : Fin 4, 1 ≤ (s.door d).desc.weight) ∧ (∀ d : Fin 4, (s.door d).desc.kind = .exit → (s.door d).desc.owned = true)
    ∧ ((s.egress.chosen = none ∧ s.egress.cost = 255)
        ∨ (s.egress.chosen.isSome = true ∧ 1 ≤ s.egress.cost ∧ s.egress.cost ≤ 200))
    ∧ (s.egress.computed = true → s.start.phase = .run)
    ∧ (s.egress.computed = true → ∀ d : Fin 4, s.egress.chosen = some d → s.remaining d = some s.egress.cost)

/-- R59, section 4.4: the phase that fits a position. -/
def phaseFits : Option Position → Option DoorPhase → Bool
  | none, none => true
  | some .closed, some .shut => true
  | some .unknown, some .unsensed => true
  | some .opened, some .opened => true
  | some .opened, some .forced => true
  | some .opened, some .held => true
  | some .opened, some .closing => true
  | some .opened, some .blocked => true
  | _, _ => false

/-- R57, R58, R62, R66, R67, R80: one door: LOCKED only closed, unsensed or FORCED; HOLDING only with a magnet, and outside a freeze only in PUBLIC
without evacuation; FREE during an evacuation; a door that is not owned or not read yet is FREE and DROPPED. -/
abbrev State.DoorSound (s : State) (d : Fin 4) : Prop :=
  phaseFits (s.door d).position (s.door d).phase = true
    ∧ ((s.door d).lock = .locked → (s.door d).position ≠ some .opened ∨ (s.door d).phase = some .forced)
    ∧ ((s.door d).hold = .holding → (s.door d).desc.magnet = true)
    ∧ ((s.door d).hold = .holding → s.frozen d = true ∨ (s.modes.mode = .pub ∧ s.fire.evac = false))
    ∧ (s.fire.evac = true → (s.door d).lock = .free)
    ∧ ((s.door d).desc.isOwned = false ∨ (s.door d).position = none →
        (s.door d).lock = .free ∧ (s.door d).hold = .dropped)
    ∧ ((s.door d).desc.isOwned = false → (s.door d).position = none)

/-- R60, R62: every door is sound, the evacuation flag is sound and ends any freeze, and every configured claim
lies above SCHEDULE and below FIRE. -/
abbrev State.DoorsSound (s : State) : Prop :=
  s.EvacuationSound ∧ (s.fire.evac = true → s.start.freeze = false)
    ∧ (3 ≤ s.cfg.lockdownLevel ∧ s.cfg.lockdownLevel ≤ 15 ∧ 3 ≤ s.cfg.passageLevel ∧ s.cfg.passageLevel ≤ 15) ∧ (∀ d : Fin 4, s.DoorSound d)

/-- R66, R67: a door that does not stand open has the resolved lock, and every door the hold output of its resolved hold. -/
abbrev State.DoorFollows (s : State) (d : Fin 4) : Prop :=
  ((s.door d).position ≠ some .opened → (s.door d).lock = s.resolvedLock d)
    ∧ (s.door d).hold = (holdFor (s.resolvedHold d) (s.door d).desc.magnet (s.door d).deferred (s.door d).phase).1

/-- R60: the outputs of every owned door that has been read and is not frozen (R82) follow the resolution. R81, R182: in the CONFIG-READ of a warm restart every door is held over, frozen but for
an evacuation; after a cold start none has been read there. -/
abbrev State.DoorsFollow (s : State) : Prop :=
  (s.start.phase = .configRead → s.start.kind = .cold → ∀ d : Fin 4, (s.door d).position = none)
    ∧ (s.start.phase = .configRead → s.start.kind = .warm → s.start.freeze = true ∨ s.fire.evac = true)
    ∧ (s.start.phase = .configRead → s.start.kind = .warm → ∀ d : Fin 4, (s.door d).keep = true)
    ∧ (∀ d : Fin 4, s.drivable d = true → s.DoorFollows d)

/-- R138, R146, R147: the lighting outputs are the forced setting where it is driven, and elsewhere, while not frozen, what the scene on top of
the stack sets. -/
abbrev State.LightsFollow (s : State) : Prop :=
  (s.forced = true → s.light.out = Outputs.forced)
    ∧ (s.forced = false → s.start.freeze = false → s.light.out = s.sceneOutputs)

/-- R23, R186, R187: the sustained patterns are presented exactly while their conditions hold. -/
abbrev State.BuzzerSound (s : State) : Prop :=
  (s.buzzer.verify.isSome = true ↔ s.fire.phase = .ackWindow)
    ∧ (s.buzzer.trouble.isSome = true ↔ s.troubles.record ≠ [] ∧ s.troubles.silenced = false)

/-- R95: the local entry of a call point, as the list should hold it. -/
def CallEntry.standsFor (e : CallEntry) (id : CallId) (r : PointRec) : Bool :=
  e.id == id && e.isLocal && e.level == r.level && e.answered == (r.state == .answered) && e.answerer == r.answerer

/-- R95 to R97: the call list holds at most 16 entries, one per identity, highest level first; an entry is local exactly when its origin is the
own station, and the local entries are those of the open points. -/
abbrev State.CallsSound (s : State) : Prop :=
  s.calls.list.length ≤ 16 ∧ (s.calls.list.map CallEntry.id).Nodup
    ∧ s.calls.list.Pairwise (fun a b => b.level ≤ a.level)
    ∧ (∀ e ∈ s.calls.list, e.isLocal = (e.id.origin == s.own))
    ∧ (∀ e ∈ s.calls.list, e.isLocal = true → (s.point e.id.point).isOpen = true)
    ∧ (∀ p : Fin 4, (s.point p).isOpen = true → ∃ e ∈ s.calls.list, e.standsFor (s.ownCall p) (s.point p) = true)

/-! ### Words the statements use -/

/-- R150, R153: a channel as a start leaves it, a reload of 0 being taken as 1. -/
def Channel.fresh (reload : Nat) (rate : TickRate) (kind : ChanKind) (compare : Nat) : Channel :=
  { reload := reloadOf reload, count := reloadOf reload, rate := rate, kind := kind, compare := compare, running := true, waiting := [] }

/-- R154: an expiry waits to be taken, or the channel runs and its expiry is brought by the command (notes/assumptions/6.md). -/
def Channel.mayExpire (ch : Channel) : Bool := ch.running || ch.waiting.contains .expiry

/-- R24: what the entry into FIRE leaves. -/
abbrev EntersFire (s t : State) : Prop :=
  t.fire.state = .fire ∧ t.fire.phase = .none ∧ t.fire.firstLoop = none ∧ t.fire.evac = true ∧ t.fire.silenced = false
    ∧ (t.channel .t0).running = false ∧ (t.channel .t0).waiting = []
    ∧ (t.channel .pair).running = false ∧ (t.channel .pair).waiting = []
    ∧ t.buzzer.verify = none ∧ t.link.status = true
    ∧ (s.fire.evac = false → t.start.freeze = false ∧ Scene.evacuate ∈ t.light.above)

/-- R96: highest level first. -/
abbrev falling (l : List CallEntry) : Prop := l.Pairwise fun a b => b.level ≤ a.level

/-- R96: an entry behind every entry of equal or higher level and ahead of every entry of lower level. -/
def behindEquals (e : CallEntry) (l : List CallEntry) : List CallEntry :=
  l.filter (fun x => e.level ≤ x.level) ++ e :: l.filter fun x => x.level < e.level

/-- R44, R188: a released button or key that has been sampled closed twice, so that the next closed sample is the third. -/
def thirdPress : ButtonRec := { pressed := false, filter := { candidate := some true, count := 2 } }

/-- R44: a pressed button that has been sampled open twice, so that the next open sample is the third. -/
def thirdRelease : ButtonRec := { pressed := true, filter := { candidate := some false, count := 2 } }

/-- R12, R13: the response to a watch input's change into a band, in a column. -/
def watchAnswer (kind : WatchKind) (band : WatchBand) (column : Column) : Response :=
  match band with
  | .active => responseTable (.active kind) column
  | .fault => responseTable .fault column
  | .normal => .nothing

end Sys2Proof.Machine
end

