-- ==== Sys2Proof/Certificates/Slice0/Obligations.lean ====
section
/-! DEFINITION. The statements for the provers, in the order of OBLIGATIONS.json. -/

open Sys2Proof Sys2Proof.Machine

/-- For every command c and state s, one step of s with c at the front of its queue is exec c on s with the rest of the queue.
The queue is the model's own form of the events that reach the station one by one (assumption 8). -/
def Obligations.StepTakesTheFrontCommand : Prop :=
  ∀ (c : Instr) (s : State) (rest : List Instr),
    step { s with pending := c :: rest } = exec c { s with pending := rest }

/-- With an empty queue: if no event of the station's own waits, step answers next s.tick; otherwise it takes one of the
waiting events by exec, on the state with one digit of the free order consumed and that event no longer among the raised ones,
and the input lines stay as they were. -/
def Obligations.IdleStepTicksOrTakesOneEvent : Prop :=
  ∀ s : State, s.pending = [] →
    (s.waitingEvents = [] → step s = .next s.tick)
    ∧ (s.waitingEvents ≠ [] →
        ∃ (e : Instr) (k : Nat) (u : State), s.waitingEvents[k]? = some e ∧ k = s.order % s.waitingEvents.length
          ∧ exec e { s with order := s.order / s.waitingEvents.length, raised := s.raised.eraseIdx k } = .next u
          ∧ step s = .next { u with pins := s.pins })

/-- While a reset condition holds, every command other than RESET_ASSERTED, HOLD_FALLS, COLD_START and WARM_RESTART answers a
next state that differs from the state before at most in the input lines. -/
def Obligations.ResetConditionTakesNoOtherCommand : Prop :=
  ∀ (c : Instr) (s : State), s.start.condition ≠ .none →
    (∀ high, c ≠ .resetAsserted high) → c ≠ .holdFalls → (∀ k1 k2 k3, c ≠ .coldStart k1 k2 k3) → c ≠ .warmRestart →
    ∃ t, exec c s = .next t ∧ t = { s with pins := t.pins }

/-- RESET_ASSERTED with HOLD low answers the state after reset, whatever the state was, but for the free-running time sources,
the input lines, the free order and the queue. HOLD_FALLS does the same while a held reset holds or waits for the end of a
frame; at any other moment it changes the HOLD line alone. -/
def Obligations.ColdResetIsTheInitialState : Prop :=
  (∀ (s : State),
      ∃ t, exec (.resetAsserted false) s = .next t
        ∧ t = { State.reset with clock := s.clock, pins := { s.pins with reset := true, holdHigh := false },
                                 order := s.order, pending := s.pending })
  ∧ (∀ (s : State),
      (s.start.condition = .held ∨ s.start.request = .hold) →
      ∃ t, exec (.holdFalls) s = .next t
        ∧ t = { State.reset with clock := s.clock, pins := { s.pins with reset := true, holdHigh := false },
                                 order := s.order, pending := s.pending })
  ∧ (∀ (s : State),
      s.start.condition ≠ .held →
      s.start.request ≠ .hold →
      ∃ t, exec (.holdFalls) s = .next t
        ∧ t = { s with pins := { s.pins with holdHigh := false } })

/-- State.reset is a cold reset with no configuration image and no freeze; the epoch is 0 and the settled flag clear; every
loop and watch input stands NORMAL without candidate; no fire, verification, evacuation, latch or round; every door output
FREE and DROPPED with position and phase absent; every call point IDLE, the call list and the fire roster empty, no neighbour
entry; the egress unit uncomputed; the forced lighting; every transmit mark and link count clear; every channel halted at
reload 1, count 0; no trouble, no silencing, no buzzer pattern, every key released. The mode and the key position at reset are
the model's choice (assumption 2) and are not stated. -/
def Obligations.ResetGivesTheColdStartValues : Prop :=
  State.reset.start.condition = .cold ∧ State.reset.start.image = none ∧ State.reset.start.freeze = false
    ∧ State.reset.modes.epoch = 0 ∧ State.reset.modes.settled = false
    ∧ (∀ l : Fin 6, State.reset.fire.loops[l].band = .normal ∧ State.reset.fire.loops[l].filter = Filter.clear)
    ∧ State.reset.fire.state = .clear ∧ State.reset.fire.phase = .none ∧ State.reset.fire.firstLoop = none
    ∧ State.reset.fire.evac = false ∧ State.reset.fire.silenced = false
    ∧ (∀ i : Fin 8, State.reset.watch.inputs[i].band = .normal ∧ State.reset.watch.inputs[i].filter = Filter.clear)
    ∧ State.reset.watch.guard = .opened ∧ State.reset.watch.round = false ∧ State.reset.watch.localLatch = false
    ∧ State.reset.watch.intrusion = false ∧ (∀ p : Fin 4, State.reset.watch.buttons[p] = .released)
    ∧ (∀ d : Fin 4, (State.reset.door d).lock = .free ∧ (State.reset.door d).hold = .dropped
        ∧ (State.reset.door d).deferred = false ∧ (State.reset.door d).position = none ∧ (State.reset.door d).phase = none)
    ∧ State.reset.doors.passage = false
    ∧ (∀ p : Fin 4, State.reset.point p = .idle) ∧ State.reset.calls.list = []
    ∧ (∀ k : Fin 4, State.reset.table.entries[k] = none) ∧ State.reset.table.roster = []
    ∧ State.reset.egress = .uncomputed
    ∧ State.reset.light.out = { lights := true, lamp := .on, sounder := .off, signs := #v[.dark, .dark, .dark, .dark] }
    ∧ State.reset.light.above = []
    ∧ State.reset.link.status = false ∧ (∀ p : Fin 4, State.reset.link.calls[p] = false) ∧ State.reset.link.offer = none
    ∧ State.reset.link.sending = none ∧ State.reset.link.faults = 0 ∧ State.reset.link.quiet = false
    ∧ State.reset.link.discards = 0
    ∧ (∀ c ∈ Chan.all, State.reset.channel c =
        { reload := 1, count := 0, rate := .s1, kind := .oneShot, compare := 0, running := false, waiting := [] })
    ∧ State.reset.troubles.record = [] ∧ State.reset.troubles.silenced = false ∧ State.reset.buzzer = .silent
    ∧ State.reset.keys = .released ∧ State.reset.pending = []

/-- RESET_ASSERTED with HOLD high, in no reset condition: with no own frame under way the held reset takes hold at once, every
channel stopped at its count with its events withdrawn and all else kept, while an event of the sampling that no unit has
taken yet is dropped (assumption 38); with one under way only the request is noted (assumption 21), also in place of a warm
restart noted before (assumption 45), and the held reset takes hold at the frame's end, sent, lost or at fault. A release
before that end is noted, and the warm restart begins at the frame's end, sent, lost or at fault. During a reset condition the
command changes nothing. -/
def Obligations.HeldResetKeepsTheStation : Prop :=
  (∀ (s : State),
      s.live = true →
      s.link.sending = none →
      ∃ t, exec (.resetAsserted true) s = .next t
        ∧ t = { s with pins := { s.pins with reset := true, holdHigh := true }, timers := t.timers, raised := [],
                       start := { s.start with condition := .held, request := .none } }
        ∧ (∀ c ∈ Chan.all, (t.channel c).running = false ∧ (t.channel c).waiting = []
          ∧ (t.channel c).count = (s.channel c).count))
  ∧ (∀ (s : State),
      s.live = true →
      s.link.sending.isSome = true →
      ∃ t, exec (.resetAsserted true) s = .next t
        ∧ t = { s with pins := { s.pins with reset := true, holdHigh := true },
                       start := { s.start with request := .hold } })
  ∧ (∀ (s : State),
      s.start.condition ≠ .none →
      ∃ t, exec (.resetAsserted true) s = .next t
        ∧ t = s)
  ∧ (∀ (s : State),
      s.live = true →
      s.start.request = .hold →
      s.link.sending.isSome = true →
      ∃ t, exec (.frameSent) s = .next t
        ∧ t.start = { s.start with condition := .held, request := .none }
        ∧ t.link.sending = none
        ∧ t.link.faults = 0
        ∧ (∀ c ∈ Chan.all, (t.channel c).running = false ∧ (t.channel c).waiting = [])
        ∧ t = { s with start := t.start, link := t.link, timers := t.timers, raised := [] })
  ∧ (∀ (s : State) (f : Sending) (b : Fin 8),
      s.live = true →
      s.start.request = .hold →
      s.link.sending = some f →
      f.mayLose b = true →
      ∃ t, exec (.lostArbitration b) s = .next t
        ∧ t.start = { s.start with condition := .held, request := .none }
        ∧ t.link.sending = none
        ∧ (∀ c ∈ Chan.all, (t.channel c).running = false ∧ (t.channel c).waiting = [])
        ∧ t = { s with start := t.start, link := t.link, calls := t.calls, timers := t.timers, raised := [] })
  ∧ (∀ (s : State) (f : Sending) (b : Nat),
      s.live = true →
      s.start.request = .hold →
      s.link.sending = some f →
      f.mayFault b = true →
      ∃ t, exec (.transmitFault b) s = .next t
        ∧ t.start = { s.start with condition := .held, request := .none }
        ∧ t.link.sending = none
        ∧ (∀ c ∈ Chan.all, (t.channel c).running = false ∧ (t.channel c).waiting = [])
        ∧ t = { s with start := t.start, link := t.link, calls := t.calls, timers := t.timers, troubles := t.troubles,
                       buzzer := t.buzzer, raised := [] })
  ∧ (∀ (s : State),
      s.start.condition = .none →
      s.start.request = .hold →
      ∃ t, exec (.warmRestart) s = .next t
        ∧ t = { s with start := { s.start with request := .warm }, pins := { s.pins with reset := false } })
  ∧ (∀ (s : State),
      s.live = true →
      s.start.request = .warm →
      s.link.sending.isSome = true →
      ∃ t, exec (.frameSent) s = .next t
        ∧ t.start.condition = .none
        ∧ t.start.request = .none
        ∧ t.start.phase = .configRead
        ∧ t.start.kind = .warm
        ∧ t.link.sending = none
        ∧ t.modes.mode = s.modes.mode
        ∧ t.fire.state = s.fire.state
        ∧ t.table.roster = [])
  ∧ (∀ (s : State) (f : Sending) (b : Fin 8),
      s.live = true →
      s.start.request = .warm →
      s.link.sending = some f →
      f.mayLose b = true →
      ∃ t, exec (.lostArbitration b) s = .next t
        ∧ t.start.condition = .none
        ∧ t.start.request = .none
        ∧ t.start.phase = .configRead
        ∧ t.start.kind = .warm
        ∧ t.link.sending = none
        ∧ t.link.quiet = false
        ∧ t.link.faults = 0
        ∧ t.modes.mode = s.modes.mode
        ∧ t.fire.state = s.fire.state
        ∧ t.table.roster = [])
  ∧ (∀ (s : State) (f : Sending) (b : Nat),
      s.live = true →
      s.start.request = .warm →
      s.link.sending = some f →
      f.mayFault b = true →
      ∃ t, exec (.transmitFault b) s = .next t
        ∧ t.start.condition = .none
        ∧ t.start.request = .none
        ∧ t.start.phase = .configRead
        ∧ t.start.kind = .warm
        ∧ t.link.sending = none
        ∧ t.link.quiet = false
        ∧ t.link.faults = 0
        ∧ t.modes.mode = s.modes.mode
        ∧ t.fire.state = s.fire.state
        ∧ t.table.roster = [])

/-- COLD_START, from a cold reset or from a held reset of a cold start's CONFIG-READ: the mode and the key position are the
position all three samples give, or NIGHT where they differ or give no position; epoch 0, unsettled; the start phase is
CONFIG-READ with no image, no freeze and no reset condition; the base scene is the mode's and the outputs are forced; every
other unit is as after reset. That the release from a held reset of such a CONFIG-READ is this command is the model's naming
(assumption 22); at any other moment the command changes nothing, which is the model's choice (assumption 9). -/
def Obligations.ColdStartReadsTheModeKey : Prop :=
  (∀ (s : State) (k1 k2 k3 : ModeReading),
      (s.start.condition = .cold ∨ (s.start.condition = .held ∧ s.heldIsCold = true)) →
      ∃ t, exec (.coldStart k1 k2 k3) s = .next t
        ∧ t.modes = { mode := if k1 = k2 ∧ k2 = k3 then (keyPositionOf k1).getD .night else .night, epoch := 0,
                      settled := false, keyPosition := t.modes.mode, keyReading := readingOf t.modes.mode,
                      keyFilter := Filter.clear }
        ∧ t.start = { phase := .configRead, kind := .cold, image := none, condition := .none, freeze := false,
                      attempts := 0, request := .none }
        ∧ t.light = { base := baseScene t.modes.mode, above := [], out := Outputs.forced }
        ∧ t = { State.reset with clock := s.clock, pins := t.pins, modes := t.modes, light := t.light, start := t.start,
                                 order := s.order, pending := s.pending })
  ∧ (∀ (s : State) (k1 k2 k3 : ModeReading),
      (s.start.condition = .none ∨ (s.start.condition = .held ∧ s.heldIsCold = false)) →
      ∃ t, exec (.coldStart k1 k2 k3) s = .next t
        ∧ t = s)

/-- WARM_RESTART from a held reset that is not one of a cold start's CONFIG-READ: mode, epoch, settled flag and key position,
fire state and verification record, loop and watch bands, guard state and latches, door positions, phases, outputs and
deferral (no door being resolved for the claims withdrawn, assumption 44), call point states, late flags and answerers are
held, the hurry flag equal to the late flag in WAITING; the evacuation flag is the own FIRE alone and the freeze flag its
opposite; the sounder-silenced flag, round, PASSAGE slot, roster, egress result, offers, counts, QUIET, troubles and every
filter, of loops, inputs, doors, buttons and keys, are cleared; the entries keep their stations, in the unheard values, until
the read (assumption 37); the scene stack is base, INTRUSION if latched, EVACUATE if the flag is set; while frozen the
lighting outputs are kept; every channel is stopped. With no reset condition and no held reset awaited it changes nothing,
which is the model's choice (assumption 9). -/
def Obligations.WarmRestartHoldsTheGalleryAndForgetsTheBuilding : Prop :=
  (∀ (s : State),
      s.start.condition = .held →
      s.heldIsCold = false →
      ∃ t, exec (.warmRestart) s = .next t
        ∧ t.start = { s.start with phase := .configRead, kind := .warm, condition := .none, freeze := !t.fire.evac,
                                   attempts := 0, request := .none }
        ∧ t.modes = { s.modes with keyReading := readingOf s.modes.keyPosition, keyFilter := Filter.clear }
        ∧ t.fire.state = s.fire.state
        ∧ t.fire.phase = s.fire.phase
        ∧ t.fire.firstLoop = s.fire.firstLoop
        ∧ t.fire.silenced = false
        ∧ t.fire.evac = (s.fire.state == .fire)
        ∧ (∀ l : Fin 6, t.fire.loops[l] = { s.fire.loops[l] with filter := Filter.clear })
        ∧ (∀ i : Fin 8, t.watch.inputs[i] = { s.watch.inputs[i] with filter := Filter.clear })
        ∧ (∀ p : Fin 4, t.watch.buttons[p] = .released)
        ∧ t.watch.guard = s.watch.guard
        ∧ t.watch.round = false
        ∧ t.watch.localLatch = s.watch.localLatch
        ∧ t.watch.intrusion = s.watch.intrusion
        ∧ (∀ d : Fin 4, t.door d = { s.door d with filter := Filter.clear, ajar := false, keep := true })
        ∧ t.doors.passage = false
        ∧ (∀ p : Fin 4, (t.point p).state = (s.point p).state ∧ (t.point p).late = (s.point p).late
          ∧ (t.point p).answerer = (s.point p).answerer
          ∧ (t.point p).hurry = ((s.point p).state == .waiting && (s.point p).late) ∧ (s.point p).level ≤ (t.point p).level)
        ∧ (∀ e ∈ t.calls.list, e.isLocal = true)
        ∧ t.table.roster = []
        ∧ (∀ k : Fin 4, t.table.entries[k] = s.table.entries[k].map fun e => NbEntry.unheard e.station)
        ∧ t.egress = .uncomputed
        ∧ t.link.status = false
        ∧ t.link.offer = none
        ∧ t.link.sending = none
        ∧ t.link.faults = 0
        ∧ t.link.quiet = false
        ∧ t.link.discards = 0
        ∧ t.light.stack = baseScene s.modes.mode :: ((if s.watch.intrusion then [Scene.intrusion]
          else []) ++ (if t.fire.evac then [Scene.evacuate] else []))
        ∧ (t.start.freeze = true → t.forced = false → t.light.out = s.light.out)
        ∧ t.troubles = { record := [], silenced := false }
        ∧ t.keys = .released
        ∧ t.raised = []
        ∧ (∀ c ∈ Chan.all, (t.channel c).running = false ∧ (t.channel c).waiting = [])
        ∧ t.clock = s.clock
        ∧ t.pending = s.pending)
  ∧ (∀ (s : State),
      s.start.condition = .none →
      s.start.request ≠ .hold →
      ∃ t, exec (.warmRestart) s = .next t
        ∧ t = s)

/-- For 41 bytes, each numeric field of the image is the stored value where it lies in its range, and otherwise the nearer end
(ACK window, investigation time, travel limit, refresh period, levels), or the lower end (ajar limit, passage, escalation,
attend, exit delay and round times), 4 for the call points, the larger of 3.0 s and three clamped refresh periods for the
silence limit, 3 or 5 for the depth; and the silence limit fits its 8-bit reload. A loop or watch input has the kind of its
code, UNUSED for any other code. A door is EXIT for kind 2; INTERIOR for kind 1 with a neighbour that is not 0, 63 or this
station; else BLANK. An EXIT door is owned; a shadow door has no magnet; a weight of 0 is 1. Each distinct neighbour of an
INTERIOR door has one entry, in the unheard values, numbered by the lowest door that names it. -/
def Obligations.ConfigurationValuesAreClamped : Prop :=
  (∀ l : List Byte, l.length = 41 →
    (imageOf l).points = min 4 (byteAt l 23)
    ∧ (imageOf l).ackWindow = max 5 (min 60 (byteAt l 24))
    ∧ (imageOf l).investigation = max 30 (min 600 (256 * byteAt l 25 + byteAt l 26))
    ∧ (imageOf l).travel = max 5 (min 60 (byteAt l 27))
    ∧ (imageOf l).ajar = max 10 (byteAt l 28) ∧ (imageOf l).passage = max 30 (byteAt l 29)
    ∧ (imageOf l).escalation = max 20 (byteAt l 30) ∧ (imageOf l).attend = max 30 (byteAt l 31)
    ∧ (imageOf l).exitDelay = max 10 (byteAt l 32) ∧ (imageOf l).roundTime = max 30 (byteAt l 33)
    ∧ (imageOf l).refresh = max 1 (min 8 (byteAt l 35))
    ∧ (imageOf l).silence = max (byteAt l 34) (max 30 (30 * (imageOf l).refresh))
    ∧ (imageOf l).silence ≤ 255
    ∧ (imageOf l).lockdownLevel = max 3 (min 15 (byteAt l 36))
    ∧ (imageOf l).passageLevel = max 3 (min 15 (byteAt l 37))
    ∧ ((imageOf l).depth = 3 ↔ byteAt l 38 < 4) ∧ ((imageOf l).depth = 5 ↔ 4 ≤ byteAt l 38)
    ∧ ((imageOf l).strict = true ↔ byteAt l 39 ≠ 0)
    ∧ (imageOf l).station = BitVec.ofNat 6 (bitsAt l 0 0 6)
    ∧ (∀ i : Fin 6, ((imageOf l).loops[i] = .smoke ↔ byteAt l (9 + i.val) = 1)
      ∧ ((imageOf l).loops[i] = .heat ↔ byteAt l (9 + i.val) = 2)
        ∧ ((imageOf l).loops[i] = .manual ↔ byteAt l (9 + i.val) = 3))
    ∧ (∀ i : Fin 8, ((imageOf l).watch[i] = .showcase ↔ byteAt l (15 + i.val) = 1)
        ∧ ((imageOf l).watch[i] = .motion ↔ byteAt l (15 + i.val) = 2)
          ∧ ((imageOf l).watch[i] = .beam ↔ byteAt l (15 + i.val) = 3)
        ∧ ((imageOf l).watch[i] = .tamper ↔ byteAt l (15 + i.val) = 4))
    ∧ (∀ d : Fin 4,
        ((imageOf l).doors[d].kind = .exit ↔ bitsAt l (1 + 2 * d.val) 6 2 = 2)
        ∧ ((imageOf l).doors[d].kind = .interior ↔ bitsAt l (1 + 2 * d.val) 6 2 = 1 ∧ bitsAt l (2 + 2 * d.val) 0 6 ≠ 0
            ∧ bitsAt l (2 + 2 * d.val) 0 6 ≠ 63 ∧ bitsAt l (2 + 2 * d.val) 0 6 ≠ bitsAt l 0 0 6)
        ∧ ((imageOf l).doors[d].kind = .exit → (imageOf l).doors[d].owned = true
            ∧ ((imageOf l).doors[d].magnet = true ↔ bitsAt l (1 + 2 * d.val) 4 1 = 1))
        ∧ ((imageOf l).doors[d].kind = .interior → (imageOf l).doors[d].neighbour.toNat = bitsAt l (2 + 2 * d.val) 0 6
            ∧ (imageOf l).doors[d].nbDoor.val = bitsAt l (2 + 2 * d.val) 6 2
            ∧ ((imageOf l).doors[d].owned = true ↔ bitsAt l (1 + 2 * d.val) 5 1 = 1)
            ∧ ((imageOf l).doors[d].magnet = true ↔ bitsAt l (1 + 2 * d.val) 5 1 = 1 ∧ bitsAt l (1 + 2 * d.val) 4 1 = 1))
        ∧ ((imageOf l).doors[d].kind ≠ .blank →
            (imageOf l).doors[d].weight = max 1 (bitsAt l (1 + 2 * d.val) 0 4))))
  ∧ (∀ doors : Vector DoorDesc 4,
    (∀ (k : Fin 4) (e : NbEntry), (entriesOf doors)[k] = some e → e = NbEntry.unheard e.station
      ∧ ∃ d : Fin 4, doors[d].kind = .interior ∧ doors[d].neighbour = e.station)
    ∧ (∀ d : Fin 4, doors[d].kind = .interior → ∃ k : Fin 4,
      (entriesOf doors)[k] = some (NbEntry.unheard doors[d].neighbour))
    ∧ (∀ (j k : Fin 4) (e f : NbEntry), (entriesOf doors)[j] = some e → (entriesOf doors)[k] = some f →
        e.station = f.station → j = k)
    ∧ (∀ j k : Fin 4, j < k → (entriesOf doors)[j] = none → (entriesOf doors)[k] = none)
    ∧ (∀ (j k : Fin 4) (e f : NbEntry), j < k → (entriesOf doors)[j] = some e → (entriesOf doors)[k] = some f →
        ∀ d : Fin 4, doors[d].kind = .interior → doors[d].neighbour = f.station →
          ∃ c : Fin 4, c < d ∧ doors[c].kind = .interior ∧ doors[c].neighbour = e.station))

/-- An attempt fails without acknowledgement or with a wrong sum; a right sum with number 0 or 63 is a bad number. In
CONFIG-READ a first or second failure only counts the attempt. A third failure or a bad number gives UNCONFIGURED: no image,
no freeze, CONFIG in the record, forced lighting, unsettled, every loop and input UNUSED, every door BLANK, FREE and DROPPED,
no entries, roster, calls or offer, a held VERIFY become FIRE and a held PREALARM CLEAR, the evacuation flag following the own
fire state, the latches kept, and after a cold start in NIGHT the guard state SETTING for 10 s. Outside CONFIG-READ the
command changes nothing, which is the model's choice (assumption 9). -/
def Obligations.FailedReadsEndUnconfigured : Prop :=
  (judgeRead .noAck = .failed
    ∧ (∀ l : List Byte, l.length = 41 →
        (byteSum l ≠ 0 → judgeRead (.bytes l) = .failed)
        ∧ (byteSum l = 0 → bitsAt l 0 0 6 = 0 ∨ bitsAt l 0 0 6 = 63 → judgeRead (.bytes l) = .badNumber)
        ∧ (byteSum l = 0 → bitsAt l 0 0 6 ≠ 0 → bitsAt l 0 0 6 ≠ 63 → judgeRead (.bytes l) = .good (imageOf l))))
  ∧ (∀ (s : State) (r : ConfigTransfer),
      s.live = true →
      s.start.phase = .configRead →
      judgeRead r = .failed →
      s.start.attempts < 2 →
      ∃ t, exec (.configReadAttempt r) s = .next t
        ∧ t = { s with start := { s.start with attempts := s.start.attempts + 1 } })
  ∧ (∀ (s : State) (r : ConfigTransfer),
      s.live = true →
      s.start.phase = .configRead →
      ((judgeRead r = .failed ∧ 2 ≤ s.start.attempts) ∨ judgeRead r = .badNumber) →
      ∃ t, exec (.configReadAttempt r) s = .next t
        ∧ t.start = { s.start with phase := .unconfigured, image := none, freeze := false, attempts := 0 }
        ∧ Trouble.config ∈ t.troubles.record
        ∧ t.light.out = Outputs.forced
        ∧ t.modes.settled = false
        ∧ t.table.roster = []
        ∧ (∀ k : Fin 4, t.table.entries[k] = none)
        ∧ (∀ d : Fin 4, (t.door d).desc.kind = .blank ∧ (t.door d).lock = .free ∧ (t.door d).hold = .dropped
          ∧ (t.door d).phase = none)
        ∧ (∀ l : Fin 6, t.fire.loops[l].kind = .unused ∧ t.fire.loops[l].band = .normal)
        ∧ (∀ i : Fin 8, t.watch.inputs[i].kind = .unused ∧ t.watch.inputs[i].band = .normal)
        ∧ (∀ p : Fin 4, t.point p = .idle)
        ∧ t.calls.list = []
        ∧ t.egress = .uncomputed
        ∧ t.link.offer = none
        ∧ (t.fire.state = if s.fire.state = .verify ∨ s.fire.state = .fire then .fire else .clear)
        ∧ t.fire.evac = (t.fire.state == .fire)
        ∧ t.watch.intrusion = s.watch.intrusion
        ∧ t.watch.localLatch = s.watch.localLatch
        ∧ (s.start.kind = .cold → s.modes.mode = .night → t.watch.guard = .setting
          ∧ t.channel .t18 = Channel.fresh 10 .s1 .oneShot 0))
  ∧ (∀ (s : State) (r : ConfigTransfer),
      (s.live = false ∨ s.start.phase ≠ .configRead) →
      ∃ t, exec (.configReadAttempt r) s = .next t
        ∧ t = s)

/-- In CONFIG-READ an attempt judged good takes the image. Loops and watch inputs take their kinds and keep a band of the same
kind; a door of the same kind, ownership and magnet keeps its state with the new descriptor, and another starts afresh; the
neighbour entries are made in the unheard values. T19 counts 3.0 s and T17 the sweep period. After a cold start LISTEN begins;
in NIGHT the guard state is SETTING with T18 on the exit delay, elsewhere it stays; with no freeze, which no cold start sets,
the outputs follow the scene on top, and frozen lighting outputs are kept whole, the sign of a BLANK position too (assumption
26). After a warm restart RELEARN begins: T0 runs the full ACK window in ACK-WINDOW, the pair the full investigation time in
INVESTIGATION; a door in CLOSING runs the travel limit, a door due for ajar timing the ajar limit with its compare value; a
WAITING point the escalation time with its compare value, an ANSWERED one the attend limit, a point no longer configured is
IDLE; T18 the exit delay in SETTING; a loop out of service, an input in FAULT, a door in UNSENSED or BLOCKED enters its
trouble; a door that starts afresh with another lock or position marks STATUS, and where no lock and position changes the link
unit is unchanged, but for a changed guard state after a cold start and a first trouble after a warm restart: a change of the
fitted-and-owned mark alone marks nothing (assumption 17). Modes, fire state, verification record, evacuation flag, guard
state but as said, round, both latches, egress result, lines and queue are held. -/
def Obligations.GoodReadBeginsListenOrRelearn : Prop :=
  (∀ (s : State) (r : ConfigTransfer) (img : Image),
      s.live = true →
      s.start.phase = .configRead →
      s.start.kind = .cold →
      judgeRead r = .good img →
      ∃ t, exec (.configReadAttempt r) s = .next t
        ∧ t.start = { s.start with phase := .listen, image := some img }
        ∧ t.channel .t19 = Channel.fresh 30 .ms100 .oneShot 0
        ∧ t.channel .t17 = Channel.fresh img.silence .ms100 .periodic 0
        ∧ (∀ l : Fin 6, t.fire.loops[l].kind = img.loops[l] ∧ t.fire.loops[l].band = if s.fire.loops[l].kind = img.loops[l]
          ∧ img.loops[l] ≠ .unused then readByKind img.loops[l] s.fire.loops[l].band else .normal)
        ∧ (∀ i : Fin 8, t.watch.inputs[i].kind = img.watch[i]
          ∧ t.watch.inputs[i].band = if s.watch.inputs[i].kind = img.watch[i] ∧ img.watch[i] ≠ .unused
          then s.watch.inputs[i].band else .normal)
        ∧ t.table = { s.table with entries := entriesOf img.doors }
        ∧ (∀ d : Fin 4, t.door d = if (s.door d).desc.kind = img.doors[d].kind ∧ (s.door d).desc.owned = img.doors[d].owned
          ∧ (s.door d).desc.magnet = img.doors[d].magnet then { s.door d with desc := img.doors[d] }
          else DoorRec.afresh img.doors[d])
        ∧ (s.modes.mode = .night → t.watch.guard = .setting ∧ t.channel .t18 = Channel.fresh img.exitDelay .s1 .oneShot 0)
        ∧ (s.modes.mode ≠ .night → t.watch.guard = s.watch.guard ∧ t.channel .t18 = s.channel .t18)
        ∧ (∀ c ∈ Chan.all, c ≠ .t17 → c ≠ .t18 → c ≠ .t19 → t.channel c = s.channel c)
        ∧ (s.start.freeze = false → t.light = { s.light with out := t.sceneOutputs })
        ∧ (s.start.freeze = true → t.light = s.light)
        ∧ (t.watch.guard = s.watch.guard → (∀ d : Fin 4, (t.door d).lock = (s.door d).lock
          ∧ (t.door d).position = (s.door d).position) → t.link = s.link)
        ∧ t.modes = s.modes
        ∧ t.fire = { s.fire with loops := t.fire.loops }
        ∧ t.watch = { s.watch with guard := t.watch.guard, inputs := t.watch.inputs }
        ∧ t.egress = s.egress
        ∧ t.troubles = s.troubles
        ∧ t.buzzer = s.buzzer
        ∧ t.keys = s.keys
        ∧ t.clock = s.clock
        ∧ t.pins = s.pins
        ∧ t.pending = s.pending)
  ∧ (∀ (s : State) (r : ConfigTransfer) (img : Image),
      s.live = true →
      s.start.phase = .configRead →
      s.start.kind = .warm →
      judgeRead r = .good img →
      ∃ t, exec (.configReadAttempt r) s = .next t
        ∧ t.start = { s.start with phase := .relearn, image := some img }
        ∧ t.channel .t19 = Channel.fresh 30 .ms100 .oneShot 0
        ∧ t.channel .t17 = Channel.fresh img.silence .ms100 .periodic 0
        ∧ (∀ l : Fin 6, t.fire.loops[l].kind = img.loops[l] ∧ t.fire.loops[l].band = if s.fire.loops[l].kind = img.loops[l]
          ∧ img.loops[l] ≠ .unused then readByKind img.loops[l] s.fire.loops[l].band else .normal)
        ∧ (∀ i : Fin 8, t.watch.inputs[i].kind = img.watch[i]
          ∧ t.watch.inputs[i].band = if s.watch.inputs[i].kind = img.watch[i] ∧ img.watch[i] ≠ .unused
          then s.watch.inputs[i].band else .normal)
        ∧ t.table = { s.table with entries := entriesOf img.doors }
        ∧ (∀ d : Fin 4, t.door d = if (s.door d).desc.kind = img.doors[d].kind ∧ (s.door d).desc.owned = img.doors[d].owned
          ∧ (s.door d).desc.magnet = img.doors[d].magnet then { s.door d with desc := img.doors[d],
                                                                              ajar := (t.door d).ajar }
          else DoorRec.afresh img.doors[d])
        ∧ (s.fire.phase = .ackWindow → t.channel .t0 = Channel.fresh img.ackWindow .s1 .oneShot 0)
        ∧ (s.fire.phase = .investigation → t.channel .pair = Channel.fresh img.investigation .s1 .oneShot 0)
        ∧ (∀ d : Fin 4, (t.door d).phase = some .closing → t.channel (.door d) = Channel.fresh img.travel .s1 .oneShot 0)
        ∧ (∀ d : Fin 4, (t.door d).desc.isOwned = true → t.ajarDue d = true → (t.door d).ajar = true
          ∧ t.channel (.door d) = Channel.fresh img.ajar .s1 .oneShot (img.ajar / 2))
        ∧ (∀ p : Fin 4, (t.point p).state = .waiting →
          t.channel (.point p) = Channel.fresh img.escalation .s1 .oneShot (img.escalation / 2))
        ∧ (∀ p : Fin 4, (t.point p).state = .answered → t.channel (.point p) = Channel.fresh img.attend .s1 .oneShot 0)
        ∧ (∀ p : Fin 4, t.point p = if p.val < img.points then s.point p else .idle)
        ∧ (s.watch.guard = .setting → t.channel .t18 = Channel.fresh img.exitDelay .s1 .oneShot 0)
        ∧ (∀ l : Fin 6, t.fire.loops[l].band = .openLoop ∨ t.fire.loops[l].band = .short →
          Trouble.loop l ∈ t.troubles.record)
        ∧ (∀ i : Fin 8, t.watch.inputs[i].band = .fault → Trouble.watchLine i ∈ t.troubles.record)
        ∧ (∀ d : Fin 4, ((t.door d).phase = some .unsensed → Trouble.doorPosition d ∈ t.troubles.record)
          ∧ ((t.door d).phase = some .blocked → Trouble.doorBlocked d ∈ t.troubles.record))
        ∧ ((∃ d : Fin 4, (t.door d).lock ≠ (s.door d).lock ∨ (t.door d).position ≠ (s.door d).position) →
          t.link.status = true)
        ∧ (t.troubles.record = s.troubles.record → (∀ d : Fin 4, (t.door d).lock = (s.door d).lock
          ∧ (t.door d).position = (s.door d).position) → t.link = s.link)
        ∧ t.modes = s.modes
        ∧ t.fire = { s.fire with loops := t.fire.loops }
        ∧ t.watch = { s.watch with inputs := t.watch.inputs }
        ∧ t.egress = s.egress
        ∧ t.light.stack = s.light.stack
        ∧ (s.start.freeze = true → t.light = s.light)
        ∧ t.keys = s.keys
        ∧ t.clock = s.clock
        ∧ t.pins = s.pins
        ∧ t.pending = s.pending)

/-- Where T19 runs or its expiry waits in LISTEN or RELEARN, START_OF_RUN answers RUN: an unsettled station holds its key
position at epoch 0, a settled one its pair; the computed flag is set; STATUS is pending; T15 runs with 1.0 s during an
evacuation and with the refresh period otherwise; every UNHEARD entry's silence timer runs; after a warm restart every open
call point's slot is pending; the freeze flag is clear. -/
def Obligations.StartOfRunSettlesComputesAndReleases : Prop :=
  (∀ (s : State),
      s.live = true →
      s.listening = true →
      (s.channel .t19).mayExpire = true →
      ∃ t, exec (.startOfRun) s = .next t
        ∧ t.start = { s.start with phase := .run, freeze := false }
        ∧ t.modes.settled = true
        ∧ (s.modes.settled = false → t.modes = { s.modes with mode := s.modes.keyPosition, epoch := 0, settled := true })
        ∧ (s.modes.settled = true → t.modes = s.modes)
        ∧ t.egress.computed = true
        ∧ t.link.status = true
        ∧ t.channel .t15 = Channel.fresh (if t.fire.evac then 10 else 10 * s.cfg.refresh) .ms100 .periodic 0
        ∧ (∀ k : Fin 4, s.table.entries[k].map NbEntry.state = some .unheard →
          t.channel (.silence k) = Channel.fresh s.cfg.silence .ms100 .oneShot 0)
        ∧ (s.start.kind = .warm → ∀ p : Fin 4, (s.point p).isOpen = true → t.link.calls[p] = true)
        ∧ t.table = s.table
        ∧ t.keys = s.keys
        ∧ t.pins = s.pins
        ∧ t.clock = s.clock
        ∧ t.pending = s.pending)
  ∧ (∀ (s : State),
      (s.listening = false ∨ (s.channel .t19).mayExpire = false) →
      ∃ t, exec (.startOfRun) s = .next t
        ∧ t = s)

/-- In every phase without a reset condition, KEY_CHANGE to a position other than the one kept sets key position and mode;
settled, the epoch advances by 1 modulo 256 and STATUS is pending; unsettled, the epoch stays, a mode value that stays changes
nothing else, and STATUS is marked only where guard state, round, fire state, evacuation flag, egress result or a lock
changes. Where the mode value changes the base scene is replaced, a VERIFY goes to FIRE out of PUBLIC, NIGHT sets SETTING (but
for the CONFIG-READ of a cold start) and leaving NIGHT sets OPEN and ends the round. Loops, watch inputs, latches, neighbour
table, troubles, keys and the start unit but for a released freeze are unchanged. The kept position changes nothing but the
lines. -/
def Obligations.KeyTurnChangesTheMode : Prop :=
  (∀ (s : State) (m : Mode),
      s.live = true →
      s.modes.keyPosition ≠ m →
      ∃ t, exec (.keyChange m) s = .next t
        ∧ t.modes = { mode := m, epoch := if s.modes.settled then s.modes.epoch + 1 else s.modes.epoch,
                      settled := s.modes.settled, keyPosition := m, keyReading := readingOf m, keyFilter := Filter.clear }
        ∧ (s.modes.settled = true → t.link.status = true)
        ∧ (s.modes.settled = false → s.modes.mode = m → t = { s with modes := t.modes, pins := t.pins })
        ∧ (s.modes.settled = false → t.link.status = s.link.status ∨ t.watch.guard ≠ s.watch.guard
          ∨ t.watch.round ≠ s.watch.round ∨ t.fire.state ≠ s.fire.state ∨ t.fire.evac ≠ s.fire.evac ∨ t.egress ≠ s.egress
          ∨ ∃ d : Fin 4, (t.door d).lock ≠ (s.door d).lock)
        ∧ (t.light.base = if s.modes.mode = m then s.light.base else baseScene m)
        ∧ (s.modes.mode ≠ m → s.fire.state = .verify → m ≠ .pub → t.fire.state = .fire)
        ∧ (s.fire.state ≠ .verify → t.fire.state = s.fire.state)
        ∧ (s.modes.mode ≠ .night → m = .night → ¬(s.start.phase = .configRead ∧ s.start.kind = .cold) →
          t.watch.guard = .setting)
        ∧ (s.modes.mode = .night → m ≠ .night → ¬(s.start.phase = .configRead ∧ s.start.kind = .cold) →
          t.watch.guard = .opened ∧ t.watch.round = false)
        ∧ t.watch = { s.watch with guard := t.watch.guard, round := t.watch.round }
        ∧ t.fire.loops = s.fire.loops
        ∧ t.start = { s.start with freeze := t.start.freeze }
        ∧ t.table = s.table
        ∧ t.troubles = s.troubles
        ∧ t.keys = s.keys
        ∧ t.raised = s.raised
        ∧ t.clock = s.clock
        ∧ t.pins = { s.pins with mode := readingOf m }
        ∧ t.pending = s.pending)
  ∧ (∀ (s : State) (m : Mode),
      (s.live = false ∨ s.modes.keyPosition = m) →
      ∃ t, exec (.keyChange m) s = .next t
        ∧ t = { s with pins := { s.pins with mode := readingOf m } })

/-- RECEIVED_STATUS of a good frame followed to its end on the bus in LISTEN, RELEARN or RUN, with d the heard epoch minus the
own epoch modulo 256: unsettled, or d from 1 to 127, or d = 0 with a heard mode above the own in the order NIGHT, CLOSED,
PUBLIC, the pair is adopted, the flag settled, STATUS pending if mode or epoch changed, and the base scene that of the heard
mode; in every other case the mode unit is unchanged. The key position stays. -/
def Obligations.HeardPairIsAdoptedOrIgnored : Prop :=
  (∀ (s : State) (f : StatusFrame),
      s.hearing = true →
      s.link.receives = true →
      (Frame.status f).isBad s.own = false →
      (s.modes.settled = false ∨ (1 ≤ (f.epoch - s.modes.epoch).toNat ∧ (f.epoch - s.modes.epoch).toNat ≤ 127)
        ∨ (f.epoch = s.modes.epoch ∧ ((s.modes.mode = .pub ∧ modeOfCode f.mode ≠ .pub) ∨ (s.modes.mode = .closed
        ∧ modeOfCode f.mode = .night)))) →
      ∃ t, exec (.receivedStatus f) s = .next t
        ∧ t.modes = { s.modes with mode := modeOfCode f.mode, epoch := f.epoch, settled := true }
        ∧ (s.modes.mode ≠ modeOfCode f.mode ∨ s.modes.epoch ≠ f.epoch → t.link.status = true)
        ∧ (s.modes.mode ≠ modeOfCode f.mode → t.light.base = baseScene (modeOfCode f.mode))
        ∧ t.keys = s.keys
        ∧ t.pins = s.pins
        ∧ t.clock = s.clock)
  ∧ (∀ (s : State) (f : StatusFrame),
      s.hearing = true →
      s.link.receives = true →
      (Frame.status f).isBad s.own = false →
      s.modes.settled = true →
      (128 ≤ (f.epoch - s.modes.epoch).toNat ∨ (f.epoch = s.modes.epoch ∧ (modeOfCode f.mode = s.modes.mode
        ∨ s.modes.mode = .night ∨ (s.modes.mode = .closed ∧ modeOfCode f.mode = .pub)))) →
      ∃ t, exec (.receivedStatus f) s = .next t
        ∧ t.modes = s.modes)

/-- For any two pairs (m, e) and (m', e'), a settled station holding the first adopts the second only if a settled station
holding the second does not adopt the first. -/
def Obligations.AdoptionIsNeverMutual : Prop :=
  ∀ (m m' : Mode) (e e' : Byte), adopts true m m' e e' = true → adopts true m' m e' e = false

/-- Formalises R13. The response to each watch-side event in each of the five columns is the one the table of R13 gives. -/
def Obligations.ResponseTableIsTheSpecs : Prop :=
  ∀ c : Column,
    responseTable (.active .showcase) c = .alert
    ∧ responseTable (.active .motion) c = (match c with
        | .pub => .nothing | .closed => .nothing | .setting => .nothing | .watching => .alert | .watchingRound => .nothing)
    ∧ responseTable (.active .beam) c = (match c with
        | .pub => .nothing | .closed => .local | .setting => .local | .watching => .alert | .watchingRound => .local)
    ∧ responseTable (.active .tamper) c = (match c with
        | .pub => .trouble | .closed => .trouble | .setting => .alert | .watching => .alert | .watchingRound => .alert)
    ∧ responseTable .fault c = (match c with
        | .pub => .trouble | .closed => .trouble | .setting => .trouble | .watching => .alert | .watchingRound => .trouble)
    ∧ responseTable .callButton c = (match c with
        | .pub => .call | .closed => .call | .setting => .local | .watching => .alert | .watchingRound => .call)
    ∧ responseTable .forced c = (match c with
        | .pub => .local | .closed => .alert | .setting => .local | .watching => .alert | .watchingRound => .local)
    ∧ responseTable .held c = (match c with
        | .pub => .local | .closed => .local | .setting => .local | .watching => .alert | .watchingRound => .local)

/-- A current is OPEN below 2 mA, NORMAL from 2, PREALARM from 12, ALARM from 20 and SHORT from 40 mA, a boundary belonging to
the higher band; on a HEAT or MANUAL loop PREALARM is read as NORMAL and every other band as it is. Through the filter, a
sample in the record's band clears it; three samples in a row of one other band, the filter not holding that band as its
candidate before, take it at the third and not sooner. -/
def Obligations.LoopSamplesPassTheThreeSampleFilter : Prop :=
  (∀ a : Nat, (loopBandOf a = .openLoop ↔ a < 2000) ∧ (loopBandOf a = .normal ↔ 2000 ≤ a ∧ a < 12000)
      ∧ (loopBandOf a = .prealarm ↔ 12000 ≤ a ∧ a < 20000) ∧ (loopBandOf a = .alarm ↔ 20000 ≤ a ∧ a < 40000)
      ∧ (loopBandOf a = .short ↔ 40000 ≤ a))
    ∧ (∀ b : LoopBand, readByKind .smoke b = b ∧ readByKind .heat b = (if b = .prealarm then .normal else b)
        ∧ readByKind .manual b = (if b = .prealarm then .normal else b))
    ∧ (∀ (f : Machine.Filter LoopBand) (r : LoopBand), f.sample (some r) r = (Filter.clear, none))
    ∧ (∀ (f : Machine.Filter LoopBand) (r x : LoopBand), x ≠ r → f.candidate ≠ some x →
        (f.sample (some r) x).2 = none
        ∧ ((f.sample (some r) x).1.sample (some r) x).2 = none
        ∧ ((f.sample (some r) x).1.sample (some r) x).1.sample (some r) x = (Filter.clear, some x))

/-- BAND_CHANGE into another band than ALARM: the record takes it, LOOP is in the record exactly for a band out of service if
it followed the band before, and in CLEAR and PREALARM a SMOKE loop makes the fire state PREALARM with a SMOKE loop in
PREALARM and CLEAR without; otherwise the fire state stays. The band kept clears the filter alone, and an UNUSED loop, or one
not sampled, changes the line alone. BAND_CHANGE of a SMOKE loop into ALARM, in CLEAR or PREALARM, in PUBLIC, with no other
loop in ALARM and no corroborating entry: VERIFY, phase ACK-WINDOW, this loop as first loop, T0 running the ACK window, the
VERIFY pattern present, STATUS pending; the evacuation flag, the doors, calls, watch unit, table, egress result and lighting
are unchanged. -/
def Obligations.LoopBandsSetTheFireStateAndVerify : Prop :=
  (∀ (s : State) (l : Fin 6) (a : Nat),
      s.hearing = true →
      s.fire.loops[l].kind = .smoke →
      20000 ≤ a →
      a < 40000 →
      s.fire.loops[l].band ≠ .alarm →
      (s.fire.state = .clear ∨ s.fire.state = .prealarm) →
      s.modes.mode = .pub →
      (∀ k : Fin 6, k ≠ l → s.fire.loops[k].band ≠ .alarm) →
      s.corroborated = false →
      ∃ t, exec (.bandChange l a) s = .next t
        ∧ t.fire = { s.fire with loops := t.fire.loops, state := .verify, phase := .ackWindow, firstLoop := some l }
        ∧ t.fire.loops[l] = { s.fire.loops[l] with band := .alarm, filter := Filter.clear }
        ∧ (∀ k : Fin 6, k ≠ l → t.fire.loops[k] = s.fire.loops[k])
        ∧ t.channel .t0 = Channel.fresh s.cfg.ackWindow .s1 .oneShot 0
        ∧ (∀ c ∈ Chan.all, c ≠ .t0 → t.channel c = s.channel c)
        ∧ t.buzzer.verify.isSome = true
        ∧ t.link = { s.link with status := true }
        ∧ t = { s with pins := t.pins, fire := t.fire, timers := t.timers, buzzer := t.buzzer, link := t.link,
                       troubles := t.troubles })
  ∧ (∀ (s : State) (l : Fin 6) (a : Nat),
      s.hearing = true →
      s.fire.loops[l].kind ≠ .unused →
      loopBandOf a ≠ .alarm →
      readByKind s.fire.loops[l].kind (loopBandOf a) ≠ s.fire.loops[l].band →
      ∃ t, exec (.bandChange l a) s = .next t
        ∧ t.fire = { s.fire with loops := s.fire.loops.set l { s.fire.loops[l] with band := readByKind s.fire.loops[l].kind (loopBandOf a), filter := Filter.clear }, state := t.fire.state }
        ∧ (t.fire.state = if s.fire.loops[l].kind = .smoke ∧ (s.fire.state = .clear ∨ s.fire.state = .prealarm)
          then (if (∃ k : Fin 6, t.fire.loops[k].kind = .smoke ∧ t.fire.loops[k].band = .prealarm) then .prealarm
          else .clear) else s.fire.state)
        ∧ (t.fire.state ≠ s.fire.state → t.link.status = true)
        ∧ ((Trouble.loop l ∈ s.troubles.record ↔ s.fire.loops[l].band = .openLoop ∨ s.fire.loops[l].band = .short) →
          (Trouble.loop l ∈ t.troubles.record ↔ t.fire.loops[l].band = .openLoop ∨ t.fire.loops[l].band = .short))
        ∧ (∀ k : Fin 6, k ≠ l → (Trouble.loop k ∈ t.troubles.record ↔ Trouble.loop k ∈ s.troubles.record))
        ∧ t = { s with pins := t.pins, fire := t.fire, buzzer := t.buzzer, link := t.link, troubles := t.troubles })
  ∧ (∀ (s : State) (l : Fin 6) (a : Nat),
      s.hearing = true →
      s.fire.loops[l].kind ≠ .unused →
      readByKind s.fire.loops[l].kind (loopBandOf a) = s.fire.loops[l].band →
      ∃ t, exec (.bandChange l a) s = .next t
        ∧ t.fire = { s.fire with loops := s.fire.loops.set l { s.fire.loops[l] with filter := Filter.clear } }
        ∧ t = { s with pins := t.pins, fire := t.fire })
  ∧ (∀ (s : State) (l : Fin 6) (a : Nat),
      (s.hearing = false ∨ s.fire.loops[l].kind = .unused) →
      ∃ t, exec (.bandChange l a) s = .next t
        ∧ t = { s with pins := { s.pins with loops := s.pins.loops.set l a } })

/-- In CLEAR or PREALARM a loop into ALARM that is HEAT or MANUAL, or SMOKE with another loop in ALARM, a corroborating entry
or a mode outside PUBLIC; in VERIFY a loop other than the first into ALARM; in VERIFY the expiry of T0 in ACK-WINDOW or of the
pair in INVESTIGATION: the fire state is FIRE, the verification ended with T0 and the pair stopped and the VERIFY pattern
withdrawn, the evacuation flag set, the sounder-silenced flag clear, STATUS pending; a flag that was clear before leaves
nothing frozen and EVACUATE in the stack. Modes, watch unit, table, keys and the rest of the start unit are unchanged. The
first loop's return into ALARM, and a loop's ALARM in FIRE, change its line and its record alone, and where it was OPEN or
SHORT its LOOP trouble leaves the record, the TROUBLE pattern following, and STATUS pending if it was the last. -/
def Obligations.FireIsDeclared : Prop :=
  (∀ (s : State) (l : Fin 6) (a : Nat),
      s.hearing = true →
      s.fire.loops[l].kind ≠ .unused →
      20000 ≤ a →
      a < 40000 →
      s.fire.loops[l].band ≠ .alarm →
      (s.fire.state = .clear ∨ s.fire.state = .prealarm) →
      (s.fire.loops[l].kind ≠ .smoke ∨ (∃ k : Fin 6, k ≠ l ∧ s.fire.loops[k].band = .alarm) ∨ s.corroborated = true
        ∨ s.modes.mode ≠ .pub) →
      ∃ t, exec (.bandChange l a) s = .next t
        ∧ EntersFire s t
        ∧ t = { s with pins := t.pins, fire := t.fire, timers := t.timers, doors := t.doors, calls := t.calls,
                       egress := t.egress, light := t.light, link := t.link,
                       start := { s.start with freeze := t.start.freeze }, troubles := t.troubles, buzzer := t.buzzer,
                       order := t.order }
        ∧ t.fire.loops[l].band = .alarm)
  ∧ (∀ (s : State) (l : Fin 6) (a : Nat),
      s.hearing = true →
      s.fire.loops[l].kind ≠ .unused →
      20000 ≤ a →
      a < 40000 →
      s.fire.loops[l].band ≠ .alarm →
      s.fire.state = .verify →
      s.fire.firstLoop ≠ some l →
      ∃ t, exec (.bandChange l a) s = .next t
        ∧ EntersFire s t
        ∧ t = { s with pins := t.pins, fire := t.fire, timers := t.timers, doors := t.doors, calls := t.calls,
                       egress := t.egress, light := t.light, link := t.link,
                       start := { s.start with freeze := t.start.freeze }, troubles := t.troubles, buzzer := t.buzzer,
                       order := t.order })
  ∧ (∀ (s : State) (l : Fin 6) (a : Nat),
      s.hearing = true →
      s.fire.loops[l].kind ≠ .unused →
      20000 ≤ a →
      a < 40000 →
      s.fire.loops[l].band ≠ .alarm →
      ((s.fire.state = .verify ∧ s.fire.firstLoop = some l) ∨ s.fire.state = .fire) →
      ∃ t, exec (.bandChange l a) s = .next t
        ∧ t.fire = { s.fire with loops := s.fire.loops.set l { s.fire.loops[l] with band := .alarm,
                                                                                    filter := Filter.clear } }
        ∧ (s.fire.loops[l].band ≠ .openLoop → s.fire.loops[l].band ≠ .short → t = { s with pins := t.pins, fire := t.fire })
        ∧ t.troubles = { s.troubles with record := if s.fire.loops[l].band = .openLoop ∨ s.fire.loops[l].band = .short then s.troubles.record.filter (fun x => x ≠ .loop l) else s.troubles.record }
        ∧ t.link = { s.link with status := s.link.status || (!s.troubles.record.isEmpty && t.troubles.record.isEmpty) }
        ∧ t.buzzer = { s.buzzer with verify := t.buzzer.verify, trouble := t.buzzer.trouble }
        ∧ (s.BuzzerSound → t.BuzzerSound)
        ∧ t.pins = { s.pins with loops := s.pins.loops.set l a }
        ∧ t = { s with pins := t.pins, fire := t.fire, troubles := t.troubles, buzzer := t.buzzer, link := t.link })
  ∧ (∀ (s : State),
      s.live = true →
      s.fire.state = .verify →
      s.fire.phase = .ackWindow →
      (s.channel .t0).mayExpire = true →
      ∃ t, exec (.ackWindowExpiry) s = .next t
        ∧ EntersFire s t
        ∧ t = { s with pins := t.pins, fire := t.fire, timers := t.timers, doors := t.doors, calls := t.calls,
                       egress := t.egress, light := t.light, link := t.link,
                       start := { s.start with freeze := t.start.freeze }, troubles := t.troubles, buzzer := t.buzzer,
                       order := t.order })
  ∧ (∀ (s : State),
      s.live = true →
      s.fire.state = .verify →
      s.fire.phase = .investigation →
      (s.channel .pair).mayExpire = true →
      ∃ t, exec (.investigationExpiry) s = .next t
        ∧ EntersFire s t
        ∧ t = { s with pins := t.pins, fire := t.fire, timers := t.timers, doors := t.doors, calls := t.calls,
                       egress := t.egress, light := t.light, link := t.link,
                       start := { s.start with freeze := t.start.freeze }, troubles := t.troubles, buzzer := t.buzzer,
                       order := t.order })

/-- ACK closes its line, and in the phases that take it makes its filter pressed. From a released filter it is a press: in
VERIFY with phase ACK-WINDOW it stops T0, starts the pair with the investigation time and sets INVESTIGATION; otherwise the
verification is unchanged. The sounder-silenced flag is set if the evacuation flag is set and otherwise unchanged; the
buzzer-silenced flag is set and the TROUBLE pattern withdrawn. The fire state, evacuation flag, loops and every unit but fire,
timers, buzzer, troubles, lighting outputs and the key are unchanged. From a filter that holds pressed, and outside these
phases, nothing else changes; that the command leaves the line closed is the model's choice (assumption 10). -/
def Obligations.AckAnswersVerificationSounderAndBuzzer : Prop :=
  (∀ (s : State),
      s.keyed = true →
      s.keys.ack.pressed = false →
      ∃ t, exec (.ack) s = .next t
        ∧ t.fire = { s.fire with phase := if s.fire.state = .verify ∧ s.fire.phase = .ackWindow then .investigation else s.fire.phase, silenced := s.fire.evac || s.fire.silenced }
        ∧ (s.fire.state = .verify → s.fire.phase = .ackWindow → (t.channel .t0).running = false
          ∧ t.channel .pair = Channel.fresh s.cfg.investigation .s1 .oneShot 0 ∧ t.buzzer.verify = none)
        ∧ (¬(s.fire.state = .verify ∧ s.fire.phase = .ackWindow) → t.timers = s.timers)
        ∧ (∀ c ∈ Chan.all, c ≠ .t0 → c ≠ .pair → t.channel c = s.channel c)
        ∧ t.troubles = { s.troubles with silenced := true }
        ∧ t.buzzer.trouble = none
        ∧ t = { s with pins := { s.pins with ack := true }, keys := { s.keys with ack := .held }, fire := t.fire,
                       timers := t.timers, buzzer := t.buzzer, troubles := t.troubles,
                       light := { s.light with out := t.light.out } })
  ∧ (∀ (s : State),
      s.keyed = true →
      s.keys.ack.pressed = true →
      ∃ t, exec (.ack) s = .next t
        ∧ t = { s with pins := { s.pins with ack := true }, keys := { s.keys with ack := .held } })
  ∧ (∀ (s : State),
      s.keyed = false →
      ∃ t, exec (.ack) s = .next t
        ∧ t = { s with pins := { s.pins with ack := true } })

/-- RESTORE closes its line, and in the phases that take it makes its filter pressed. From a released filter it is a press:
with VERIFY or FIRE and a loop in ALARM the fire state and verification record stay; with no loop in ALARM they become
PREALARM or CLEAR by the SMOKE loops, with no verification, T0 and the pair stopped; CLEAR stays, and PREALARM stays while a
SMOKE loop's band is PREALARM and else becomes CLEAR (assumption 35). The local watch latch is clear; the intrusion latch
stays exactly while an input is ACTIVE. Every latched trouble is gone and every self-restoring one stays. The REFUSE pattern
is presented once if the fire part or the intrusion piece is refused, and not otherwise. Modes, table, watch bands, guard
state and round, loops, the other keys and the start unit but for a released freeze are unchanged. From a filter that holds
pressed, and outside these phases, nothing else changes; that the command leaves the line closed is the model's choice
(assumption 10). -/
def Obligations.RestoreTakesItsThreeParts : Prop :=
  (∀ (s : State),
      s.keyed = true →
      s.keys.restore.pressed = false →
      ∃ t, exec (.restore) s = .next t
        ∧ ((s.fire.state = .verify ∨ s.fire.state = .fire) ∧ s.loopInAlarm = true → t.fire.state = s.fire.state
          ∧ t.fire.phase = s.fire.phase ∧ t.fire.firstLoop = s.fire.firstLoop)
        ∧ ((s.fire.state = .verify ∨ s.fire.state = .fire) ∧ s.loopInAlarm = false → t.fire.state = (if s.smokePrealarm
          then .prealarm else .clear) ∧ t.fire.phase = .none ∧ t.fire.firstLoop = none ∧ (t.channel .t0).running = false
          ∧ (t.channel .pair).running = false)
        ∧ (s.fire.state = .clear ∨ s.fire.state = .prealarm → t.fire.phase = s.fire.phase
          ∧ t.fire.firstLoop = s.fire.firstLoop ∧ t.fire.state = if s.fire.state = .prealarm ∧ s.smokePrealarm = true
          then .prealarm else .clear)
        ∧ t.fire.loops = s.fire.loops
        ∧ t.watch = { s.watch with localLatch := false, intrusion := s.watch.intrusion && s.inputActive }
        ∧ (t.troubles.record = s.troubles.record.filter fun u => !u.latched)
        ∧ t.troubles.silenced = s.troubles.silenced
        ∧ (t.buzzer.refuse = if s.fireRefuses || s.watchRefuses then s.buzzer.refuse.presented else s.buzzer.refuse)
        ∧ t.modes = s.modes
        ∧ t.table = s.table
        ∧ t.keys = { s.keys with restore := .held }
        ∧ t.clock = s.clock
        ∧ t.pins = { s.pins with restore := true }
        ∧ t.start = { s.start with freeze := t.start.freeze }
        ∧ t.pending = s.pending)
  ∧ (∀ (s : State),
      s.keyed = true →
      s.keys.restore.pressed = true →
      ∃ t, exec (.restore) s = .next t
        ∧ t = { s with pins := { s.pins with restore := true }, keys := { s.keys with restore := .held } })
  ∧ (∀ (s : State),
      s.keyed = false →
      ∃ t, exec (.restore) s = .next t
        ∧ t = { s with pins := { s.pins with restore := true } })

/-- For every command and every state in FIRE: if the command answers a next state that is not in FIRE, it is RESTORE taken
while no loop's band is ALARM, or RESET_ASSERTED with HOLD low, HOLD_FALLS, or COLD_START. -/
def Obligations.FireIsLatched : Prop :=
  ∀ (c : Instr) (s t : State), s.fire.state = .fire → exec c s = .next t → t.fire.state ≠ .fire →
    (c = .restore ∧ s.loopInAlarm = false) ∨ c = .resetAsserted false ∨ c = .holdFalls
      ∨ ∃ k1 k2 k3, c = .coldStart k1 k2 k3

/-- WATCH_BAND_CHANGE of an input in use into another band: the record takes the band; FAULT enters the WATCH-LINE trouble of
the input, NORMAL removes it, ACTIVE answered TROUBLE enters it. ALERT sets the intrusion latch, and if it was clear, pushes
INTRUSION and marks STATUS. LOCAL sets the local watch latch and presents one CALL chirp. Without ALERT the intrusion latch
and the doors stay; without LOCAL the local latch stays. Modes, fire unit, table, start unit, keys, guard state and round are
unchanged. -/
def Obligations.WatchInputIsAnswered : Prop :=
  (∀ (s : State) (i : Fin 8) (r : WatchReading),
      s.hearing = true →
      s.watch.inputs[i].kind ≠ .unused →
      s.watch.inputs[i].band ≠ watchBandOf r →
      ∃ t, exec (.watchBandChange i r) s = .next t
        ∧ t.watch.inputs[i] = { s.watch.inputs[i] with band := watchBandOf r, filter := Filter.clear }
        ∧ (∀ j : Fin 8, j ≠ i → t.watch.inputs[j] = s.watch.inputs[j])
        ∧ (watchBandOf r = .fault → Trouble.watchLine i ∈ t.troubles.record)
        ∧ (watchBandOf r = .normal → Trouble.watchLine i ∉ t.troubles.record)
        ∧ (watchAnswer s.watch.inputs[i].kind (watchBandOf r) s.column = .trouble → Trouble.watchLine i ∈ t.troubles.record)
        ∧ t.watch.intrusion = (s.watch.intrusion || watchAnswer s.watch.inputs[i].kind (watchBandOf r) s.column == .alert)
        ∧ (s.watch.intrusion = false → t.watch.intrusion = true → Scene.intrusion ∈ t.light.above ∧ t.link.status = true)
        ∧ (t.watch.intrusion = s.watch.intrusion → t.doors = s.doors ∧ t.light = s.light)
        ∧ t.watch.localLatch = (s.watch.localLatch || watchAnswer s.watch.inputs[i].kind (watchBandOf r) s.column == .local)
        ∧ (t.buzzer.callChirp = if watchAnswer s.watch.inputs[i].kind (watchBandOf r) s.column = .local
          then s.buzzer.callChirp.presented else s.buzzer.callChirp)
        ∧ t.watch.guard = s.watch.guard
        ∧ t.watch.round = s.watch.round
        ∧ t.modes = s.modes
        ∧ t.fire = s.fire
        ∧ t.table = s.table
        ∧ t.start = s.start
        ∧ t.keys = s.keys
        ∧ t.clock = s.clock
        ∧ t.pending = s.pending)
  ∧ (∀ (s : State) (i : Fin 8) (r : WatchReading),
      s.hearing = true →
      s.watch.inputs[i].kind ≠ .unused →
      s.watch.inputs[i].band = watchBandOf r →
      ∃ t, exec (.watchBandChange i r) s = .next t
        ∧ t = { s with pins := t.pins,
                       watch := { s.watch with inputs := s.watch.inputs.set i { s.watch.inputs[i] with filter := Filter.clear } } })
  ∧ (∀ (s : State) (i : Fin 8) (r : WatchReading),
      (s.hearing = false ∨ s.watch.inputs[i].kind = .unused) →
      ∃ t, exec (.watchBandChange i r) s = .next t
        ∧ t = { s with pins := { s.pins with watch := s.pins.watch.set i r } })

/-- CALL_BUTTON_PRESSED closes the button's line and, at a configured point while it is sampled, makes its filter pressed with
no candidate. From a released filter: answered CALL at an IDLE point, the point is WAITING at the base level, not late,
without answerer or hurry, its channel runs the escalation time with half of it as compare value, its slot is pending and its
local entry is in the list, behind every entry of equal or higher level; answered CALL at an open point, nothing else changes;
answered LOCAL, the local watch latch and one CALL chirp, the points unchanged; answered ALERT, the intrusion latch, the
points' states unchanged. From a filter that holds pressed nothing else changes. At an unconfigured point, or while no button
is sampled, the line alone changes. That the command leaves the line closed is the model's choice (assumption 10). -/
def Obligations.CallButtonIsAnsweredByTheHour : Prop :=
  (∀ (s : State) (p : Fin 4),
      s.hearing = true →
      s.pointFitted p = true →
      s.watch.buttons[p].pressed = false →
      responseTable .callButton s.column = .call →
      (s.point p).state = .idle →
      ∃ t, exec (.callButtonPressed p) s = .next t
        ∧ t.point p = { state := .waiting, level := s.baseLevel, late := false, answerer := 0, hurry := false }
        ∧ (∀ q : Fin 4, q ≠ p → t.point q = s.point q)
        ∧ t.channel (.point p) = Channel.fresh s.cfg.escalation .s1 .oneShot (s.cfg.escalation / 2)
        ∧ (∀ c ∈ Chan.all, c ≠ .point p → t.channel c = s.channel c)
        ∧ t.link.calls[p] = true
        ∧ (∃ e ∈ t.calls.list, e.standsFor (s.ownCall p) (t.point p) = true)
        ∧ (s.calls.list.length < 16 → falling s.calls.list → t.calls.list = behindEquals { id := s.ownCall p,
                                                                                           level := s.baseLevel,
                                                                                           answered := false, answerer := 0,
                                                                                           isLocal := true, offered := false, heard := false } s.calls.list)
        ∧ t.buzzer.callChirp = s.buzzer.callChirp.presented
        ∧ t = { s with pins := { s.pins with buttons := s.pins.buttons.set p true },
                       watch := { s.watch with buttons := s.watch.buttons.set p { pressed := true,
                                                                                  filter := Filter.clear } },
                       calls := t.calls, timers := t.timers, link := t.link, troubles := t.troubles, buzzer := t.buzzer })
  ∧ (∀ (s : State) (p : Fin 4),
      s.hearing = true →
      s.pointFitted p = true →
      s.watch.buttons[p].pressed = false →
      responseTable .callButton s.column = .call →
      (s.point p).state ≠ .idle →
      ∃ t, exec (.callButtonPressed p) s = .next t
        ∧ t = { s with pins := { s.pins with buttons := s.pins.buttons.set p true },
                       watch := { s.watch with buttons := s.watch.buttons.set p { pressed := true,
                                                                                  filter := Filter.clear } } })
  ∧ (∀ (s : State) (p : Fin 4),
      s.hearing = true →
      s.pointFitted p = true →
      s.watch.buttons[p].pressed = false →
      responseTable .callButton s.column = .local →
      ∃ t, exec (.callButtonPressed p) s = .next t
        ∧ t = { s with pins := { s.pins with buttons := s.pins.buttons.set p true },
                       watch := { s.watch with localLatch := true,
                                               buttons := s.watch.buttons.set p { pressed := true,
                                                                                  filter := Filter.clear } },
                       buzzer := { s.buzzer with callChirp := s.buzzer.callChirp.presented } })
  ∧ (∀ (s : State) (p : Fin 4),
      s.hearing = true →
      s.pointFitted p = true →
      s.watch.buttons[p].pressed = false →
      responseTable .callButton s.column = .alert →
      ∃ t, exec (.callButtonPressed p) s = .next t
        ∧ t.watch = { s.watch with intrusion := true, buttons := s.watch.buttons.set p { pressed := true,
                                                                                         filter := Filter.clear } }
        ∧ (∀ q : Fin 4, (t.point q).state = (s.point q).state)
        ∧ (s.watch.intrusion = true → t = { s with pins := { s.pins with buttons := s.pins.buttons.set p true },
                                                   watch := t.watch })
        ∧ (s.watch.intrusion = false → t.link.status = true ∧ Scene.intrusion ∈ t.light.above)
        ∧ t.pins = { s.pins with buttons := s.pins.buttons.set p true }
        ∧ t.fire = s.fire
        ∧ t.modes = s.modes
        ∧ t.table = s.table
        ∧ t.start = s.start)
  ∧ (∀ (s : State) (p : Fin 4),
      s.hearing = true →
      s.pointFitted p = true →
      s.watch.buttons[p].pressed = true →
      ∃ t, exec (.callButtonPressed p) s = .next t
        ∧ t = { s with pins := { s.pins with buttons := s.pins.buttons.set p true },
                       watch := { s.watch with buttons := s.watch.buttons.set p { pressed := true,
                                                                                  filter := Filter.clear } } })
  ∧ (∀ (s : State) (p : Fin 4),
      (s.hearing = false ∨ s.pointFitted p = false) →
      ∃ t, exec (.callButtonPressed p) s = .next t
        ∧ t = { s with pins := { s.pins with buttons := s.pins.buttons.set p true } })

/-- GUARD closes its line, and in the phases that take it makes its filter pressed. From a released filter it is a press: it
makes every open point IDLE, stops its channel, marks its slot and removes its entry; every other point, slot, channel and
entry is unchanged. In OPEN the watch unit is unchanged; in SETTING T18 restarts with the exit delay; in WATCHING the round
flag is set, a new round marks STATUS, T18 runs the round time, and ROUND is pushed by the stack's rule, a renewal too: at the
top or directly below EVACUATE. In SETTING the expiry of T18 sets the guard state to WATCHING and marks STATUS; in WATCHING
with a round it clears the round flag, removes ROUND and marks STATUS; nothing else changes but that channel. Outputs neither
forced nor frozen follow the scene on top. In any other guard state each expiry changes nothing, which is the model's choice
(assumption 9). GUARD from a filter that holds pressed, and outside its phases, changes nothing else; that it leaves the line
closed is the model's choice (assumption 10). -/
def Obligations.GuardKeyAndItsTimerWalkTheRoundAndAttendTheCalls : Prop :=
  (∀ (s : State),
      s.keyed = true →
      s.keys.guard.pressed = false →
      ∃ t, exec (.guard) s = .next t
        ∧ (∀ p : Fin 4, t.point p = if (s.point p).isOpen then PointRec.idle else s.point p)
        ∧ (∀ p : Fin 4, t.link.calls[p] = (s.link.calls[p] || (s.point p).isOpen))
        ∧ (∀ p : Fin 4, (s.point p).isOpen = true → (t.channel (.point p)).running = false
          ∧ (t.channel (.point p)).waiting = [])
        ∧ (t.calls.list = s.calls.list.filter fun e => !(e.id.origin == s.own && (s.point e.id.point).isOpen))
        ∧ (∀ c ∈ Chan.all, c ≠ .t18 → (∀ p : Fin 4, (s.point p).isOpen = true → c ≠ .point p) → t.channel c = s.channel c)
        ∧ t.link = { s.link with calls := t.link.calls,
                                 status := s.link.status || (s.watch.guard == .watching && !s.watch.round),
                                 offer := t.link.offer }
        ∧ (∀ id, s.link.offer = some id → id.origin ≠ s.own → t.link.offer = some id)
        ∧ (s.watch.guard = .opened → t.watch = s.watch ∧ t.channel .t18 = s.channel .t18 ∧ t.light = s.light)
        ∧ (s.watch.guard = .setting → t.watch = s.watch ∧ t.channel .t18 = Channel.fresh s.cfg.exitDelay .s1 .oneShot 0
          ∧ t.light = s.light)
        ∧ (s.watch.guard = .watching → t.watch = { s.watch with round := true }
          ∧ t.channel .t18 = Channel.fresh s.cfg.roundTime .s1 .oneShot 0
          ∧ t.light.above = pushed s.cfg.depth .round s.light.above ∧ (Scene.evacuate ∉ s.light.above →
          t.light.top = .round) ∧ (s.forced = false → s.start.freeze = false → t.light.out = t.sceneOutputs))
        ∧ t = { s with pins := { s.pins with guard := true }, keys := { s.keys with guard := .held }, calls := t.calls,
                       watch := t.watch, timers := t.timers, link := t.link,
                       light := { s.light with above := t.light.above, out := t.light.out } })
  ∧ (∀ (s : State),
      s.keyed = true →
      s.keys.guard.pressed = true →
      ∃ t, exec (.guard) s = .next t
        ∧ t = { s with pins := { s.pins with guard := true }, keys := { s.keys with guard := .held } })
  ∧ (∀ (s : State),
      s.keyed = false →
      ∃ t, exec (.guard) s = .next t
        ∧ t = { s with pins := { s.pins with guard := true } })
  ∧ (∀ (s : State),
      s.live = true →
      s.watch.guard = .setting →
      (s.channel .t18).mayExpire = true →
      ∃ t, exec (.exitDelayExpiry) s = .next t
        ∧ t = { s with timers := t.timers, watch := { s.watch with guard := .watching },
                       link := { s.link with status := true } }
        ∧ (∀ c ∈ Chan.all, c ≠ .t18 → t.channel c = s.channel c))
  ∧ (∀ (s : State),
      s.live = true →
      s.watch.guard = .watching →
      s.watch.round = true →
      (s.channel .t18).mayExpire = true →
      ∃ t, exec (.roundExpiry) s = .next t
        ∧ t.light.above = s.light.above.erase .round
        ∧ (s.forced = false → s.start.freeze = false → t.light.out = t.sceneOutputs)
        ∧ t = { s with timers := t.timers, watch := { s.watch with round := false }, link := { s.link with status := true },
                       light := { s.light with above := t.light.above, out := t.light.out } }
        ∧ (∀ c ∈ Chan.all, c ≠ .t18 → t.channel c = s.channel c))
  ∧ (∀ (s : State),
      s.watch.guard ≠ .setting →
      ∃ t, exec (.exitDelayExpiry) s = .next t
        ∧ t = s)
  ∧ (∀ (s : State),
      (s.watch.guard ≠ .watching ∨ s.watch.round = false) →
      ∃ t, exec (.roundExpiry) s = .next t
        ∧ t = s)

/-- POSITION_CHANGE of an owned door with a position, to another one. CLOSED: phase SHUT, hold-deferred clear, channel
stopped, DOOR-BLOCKED and DOOR-POSITION removed, the lock the resolved one and the hold HOLDING exactly for a resolved HOLD
with a magnet (both kept while frozen). OPEN: a resolved FREE frees the lock and anything else leaves it; the hold-deferred
flag stays only with a resolved HOLD, here and at UNKNOWN, frozen or not (assumption 18); the phase is FORCED, HELD or OPEN by
the outputs; ajar timing runs exactly while due; FORCED is looked up in the column in effect, and nothing else raises a latch.
UNKNOWN: phase UNSENSED, channel stopped, DOOR-POSITION entered and DOOR-BLOCKED removed, the lock the resolved one, no
FORCED. Each marks STATUS and leaves the other doors (but for an ALERT), modes, fire unit, table, keys and start unit
unchanged. The same position clears the filter alone (assumption 10); a door not owned or not read yet changes nothing but the
line (assumptions 9, 10). -/
def Obligations.PositionChangeMovesTheDoor : Prop :=
  (∀ (s : State) (d : Fin 4) (r : ContactReading),
      s.hearing = true →
      (s.door d).desc.isOwned = true →
      ((s.door d).position = some .opened ∨ (s.door d).position = some .unknown) →
      positionOf r = .closed →
      ∃ t, exec (.positionChange d r) s = .next t
        ∧ ((t.door d).position = some .closed ∧ (t.door d).phase = some .shut ∧ (t.door d).deferred = false
          ∧ (t.door d).ajar = false ∧ (t.door d).desc = (s.door d).desc)
        ∧ ((t.door d).lock = if s.frozen d then (s.door d).lock else s.resolvedLock d)
        ∧ ((t.door d).hold = if s.frozen d then (s.door d).hold else if s.resolvedHold d = .holding
          ∧ (s.door d).desc.magnet = true then .holding else .dropped)
        ∧ ((t.channel (.door d)).running = false ∧ (t.channel (.door d)).waiting = [])
        ∧ (∀ c ∈ Chan.all, c ≠ .door d → t.channel c = s.channel c)
        ∧ (Trouble.doorBlocked d ∉ t.troubles.record ∧ Trouble.doorPosition d ∉ t.troubles.record)
        ∧ t.link.status = true
        ∧ (∀ e : Fin 4, e ≠ d → t.door e = s.door e)
        ∧ t.doors.passage = s.doors.passage
        ∧ t = { s with pins := t.pins, doors := t.doors, timers := t.timers, troubles := t.troubles, buzzer := t.buzzer,
                       link := t.link, egress := t.egress, calls := t.calls, light := t.light, order := t.order })
  ∧ (∀ (s : State) (d : Fin 4) (r : ContactReading),
      s.hearing = true →
      (s.door d).desc.isOwned = true →
      ((s.door d).position = some .closed ∨ (s.door d).position = some .unknown) →
      phaseFits (s.door d).position (s.door d).phase = true →
      positionOf r = .opened →
      ∃ t, exec (.positionChange d r) s = .next t
        ∧ (t.door d).position = some .opened
        ∧ ((t.door d).lock = if s.frozen d = false ∧ s.resolvedLock d = .free then .free else (s.door d).lock)
        ∧ ((t.door d).hold = if s.frozen d then (s.door d).hold else if s.resolvedHold d = .holding
          ∧ (s.door d).desc.magnet = true ∧ (s.door d).deferred = false then .holding else .dropped)
        ∧ (t.door d).deferred = ((s.door d).deferred && s.resolvedHold d == .holding)
        ∧ ((t.door d).phase = if (t.door d).lock = .locked then some .forced else if (t.door d).hold = .holding
          then some .held else some .opened)
        ∧ (t.door d).ajar = t.ajarDue d
        ∧ ((s.door d).ajar = false → t.ajarDue d = true →
          t.channel (.door d) = Channel.fresh s.cfg.ajar .s1 .oneShot (s.cfg.ajar / 2))
        ∧ Trouble.doorPosition d ∉ t.troubles.record
        ∧ t.link.status = true
        ∧ t.watch = { s.watch with localLatch := s.watch.localLatch || ((t.door d).lock == .locked && responseTable .forced s.column == .local), intrusion := s.watch.intrusion || ((t.door d).lock == .locked && responseTable .forced s.column == .alert) }
        ∧ ((t.door d).lock = .free ∨ responseTable .forced s.column ≠ .alert → (∀ e : Fin 4, e ≠ d → t.door e = s.door e)
          ∧ ∀ c ∈ Chan.all, c ≠ .door d → t.channel c = s.channel c)
        ∧ t.doors.passage = s.doors.passage
        ∧ t = { s with pins := t.pins, doors := t.doors, timers := t.timers, troubles := t.troubles, buzzer := t.buzzer,
                       link := t.link, egress := t.egress, calls := t.calls, light := t.light, order := t.order,
                       watch := t.watch })
  ∧ (∀ (s : State) (d : Fin 4) (r : ContactReading),
      s.hearing = true →
      (s.door d).desc.isOwned = true →
      ((s.door d).position = some .closed ∨ (s.door d).position = some .opened) →
      positionOf r = .unknown →
      ∃ t, exec (.positionChange d r) s = .next t
        ∧ ((t.door d).position = some .unknown ∧ (t.door d).phase = some .unsensed ∧ (t.door d).ajar = false)
        ∧ ((t.door d).lock = if s.frozen d then (s.door d).lock else s.resolvedLock d)
        ∧ ((t.door d).hold = if s.frozen d then (s.door d).hold else if s.resolvedHold d = .holding
          ∧ (s.door d).desc.magnet = true ∧ (s.door d).deferred = false then .holding else .dropped)
        ∧ (t.door d).deferred = ((s.door d).deferred && s.resolvedHold d == .holding)
        ∧ ((t.channel (.door d)).running = false ∧ (t.channel (.door d)).waiting = [])
        ∧ (∀ c ∈ Chan.all, c ≠ .door d → t.channel c = s.channel c)
        ∧ (Trouble.doorBlocked d ∉ t.troubles.record ∧ Trouble.doorPosition d ∈ t.troubles.record)
        ∧ t.link.status = true
        ∧ (∀ e : Fin 4, e ≠ d → t.door e = s.door e)
        ∧ t = { s with pins := t.pins, doors := t.doors, timers := t.timers, troubles := t.troubles, buzzer := t.buzzer,
                       link := t.link, egress := t.egress, calls := t.calls, light := t.light, order := t.order })
  ∧ (∀ (s : State) (d : Fin 4) (r : ContactReading),
      s.hearing = true →
      (s.door d).desc.isOwned = true →
      (s.door d).position = some (positionOf r) →
      ∃ t, exec (.positionChange d r) s = .next t
        ∧ t.doors = { s.doors with records := s.doors.records.set d { s.door d with filter := Filter.clear } }
        ∧ t = { s with pins := t.pins, doors := t.doors })
  ∧ (∀ (s : State) (d : Fin 4) (r : ContactReading),
      (s.hearing = false ∨ (s.door d).desc.isOwned = false ∨ (s.door d).position = none) →
      ∃ t, exec (.positionChange d r) s = .next t
        ∧ t = { s with pins := t.pins })

/-- FIRST_READING of an owned door without a position, its outputs FREE and DROPPED: the position is the reading's; the lock
is LOCKED exactly for a resolved LOCK at CLOSED or UNKNOWN outside a freeze; the hold is HOLDING exactly for a resolved HOLD
with a magnet, the deferred flag clear, outside a freeze; the phase is SHUT, UNSENSED, or HELD or OPEN by the hold output;
ajar timing runs exactly while due; UNKNOWN enters DOOR-POSITION; STATUS, which carries the position, is marked (assumption
17). The watch unit is unchanged, no FORCED being looked up. A door not owned, or read already, changes nothing but the line,
which is the model's choice (assumptions 9, 10). -/
def Obligations.FirstReadingDrivesTheDoor : Prop :=
  (∀ (s : State) (d : Fin 4) (r : ContactReading),
      s.hearing = true →
      (s.door d).desc.isOwned = true →
      (s.door d).position = none →
      s.DoorSound d →
      ∃ t, exec (.firstReading d r) s = .next t
        ∧ (t.door d).position = some (positionOf r)
        ∧ ((t.door d).lock = if s.frozen d = false ∧ s.resolvedLock d = .locked ∧ positionOf r ≠ .opened then .locked
          else .free)
        ∧ ((t.door d).hold = if s.frozen d = false ∧ s.resolvedHold d = .holding ∧ (s.door d).desc.magnet = true
          ∧ (s.door d).deferred = false then .holding else .dropped)
        ∧ (positionOf r = .closed → (t.door d).phase = some .shut)
        ∧ (positionOf r = .unknown → (t.door d).phase = some .unsensed ∧ Trouble.doorPosition d ∈ t.troubles.record)
        ∧ (positionOf r = .opened → (t.door d).phase = if (t.door d).hold = .holding then some .held else some .opened)
        ∧ (t.door d).ajar = t.ajarDue d
        ∧ ((s.door d).ajar = false → t.ajarDue d = true →
          t.channel (.door d) = Channel.fresh s.cfg.ajar .s1 .oneShot (s.cfg.ajar / 2))
        ∧ t.link.status = true
        ∧ (t.door d).deferred = ((s.door d).deferred && s.resolvedHold d == .holding)
        ∧ (positionOf r ≠ .unknown → t.troubles = s.troubles)
        ∧ (∀ e : Fin 4, e ≠ d → t.door e = s.door e)
        ∧ (∀ c ∈ Chan.all, c ≠ .door d → t.channel c = s.channel c)
        ∧ t = { s with pins := t.pins, doors := t.doors, timers := t.timers, troubles := t.troubles, buzzer := t.buzzer,
                       link := t.link, egress := t.egress, calls := t.calls, light := t.light, order := t.order })
  ∧ (∀ (s : State) (d : Fin 4) (r : ContactReading),
      (s.hearing = false ∨ (s.door d).desc.isOwned = false ∨ (s.door d).position.isSome = true) →
      ∃ t, exec (.firstReading d r) s = .next t
        ∧ t = { s with pins := t.pins })

/-- In CLOSING the expiry of the door's channel gives phase BLOCKED with DOOR-BLOCKED in the record, outside a freeze a
DROPPED hold, frozen or not the deferred flag by the resolution (assumption 18), and ajar timing exactly while due; in another
phase it changes nothing. Under ajar timing the compare event presents one WARNING and changes nothing else but the channel;
the expiry looks HELD up in the column in effect: LOCAL sets the local latch, ALERT the intrusion latch with INTRUSION in the
stack; the modes, fire unit, table, start unit and troubles are unchanged, and without a newly set intrusion latch the doors
and every other channel too; the warning comes before it if the compare event was still due (assumption 6). Where ajar timing
does not stand they change nothing, which is the model's choice (assumption 9). -/
def Obligations.DoorTimersBlockAndReportTheDoor : Prop :=
  (∀ (s : State) (d : Fin 4),
      s.hearing = true →
      (s.door d).desc.isOwned = true →
      (s.door d).position = some .opened →
      (s.door d).phase = some .closing →
      (s.channel (.door d)).mayExpire = true →
      ∃ t, exec (.travelLimitExpiry d) s = .next t
        ∧ ((t.door d).phase = some .blocked ∧ (t.door d).position = some .opened ∧ (t.door d).lock = (s.door d).lock)
        ∧ Trouble.doorBlocked d ∈ t.troubles.record
        ∧ (s.frozen d = false → (t.door d).hold = .dropped)
        ∧ (s.resolvedHold d = .holding → (s.door d).desc.magnet = true → (t.door d).deferred = true)
        ∧ (s.resolvedHold d = .dropped → (t.door d).deferred = false)
        ∧ (t.door d).ajar = t.ajarDue d
        ∧ ((s.door d).ajar = false → t.ajarDue d = true →
          t.channel (.door d) = Channel.fresh s.cfg.ajar .s1 .oneShot (s.cfg.ajar / 2))
        ∧ (∀ e : Fin 4, e ≠ d → t.door e = s.door e)
        ∧ (∀ c ∈ Chan.all, c ≠ .door d → t.channel c = s.channel c)
        ∧ t = { s with doors := t.doors, timers := t.timers, troubles := t.troubles, buzzer := t.buzzer, link := t.link })
  ∧ (∀ (s : State) (d : Fin 4),
      ((s.door d).phase ≠ some .closing ∨ (s.channel (.door d)).mayExpire = false) →
      ∃ t, exec (.travelLimitExpiry d) s = .next t
        ∧ t = s)
  ∧ (∀ (s : State) (d : Fin 4),
      s.live = true →
      (s.door d).ajar = true →
      (s.door d).phase ≠ some .closing →
      (s.channel (.door d)).compareDue = true →
      ∃ t, exec (.ajarCompare d) s = .next t
        ∧ t = { s with timers := t.timers, buzzer := { s.buzzer with warning := s.buzzer.warning.presented } }
        ∧ (∀ c ∈ Chan.all, c ≠ .door d → t.channel c = s.channel c))
  ∧ (∀ (s : State) (d : Fin 4),
      ((s.door d).ajar = false ∨ (s.door d).phase = some .closing ∨ (s.channel (.door d)).compareDue = false) →
      ∃ t, exec (.ajarCompare d) s = .next t
        ∧ t = s)
  ∧ (∀ (s : State) (d : Fin 4),
      s.live = true →
      (s.door d).ajar = true →
      (s.door d).phase ≠ some .closing →
      (s.channel (.door d)).mayExpire = true →
      ∃ t, exec (.heldEvent d) s = .next t
        ∧ t.watch = { s.watch with localLatch := s.watch.localLatch || responseTable .held s.column == .local,
                                   intrusion := s.watch.intrusion || responseTable .held s.column == .alert }
        ∧ (t.buzzer.warning = if (s.channel (.door d)).compareDue then s.buzzer.warning.presented else s.buzzer.warning)
        ∧ (t.buzzer.callChirp = if responseTable .held s.column = .local then s.buzzer.callChirp.presented
          else s.buzzer.callChirp)
        ∧ (t.watch.intrusion = true → s.watch.intrusion = false → Scene.intrusion ∈ t.light.above ∧ t.link.status = true)
        ∧ (t.watch.intrusion = s.watch.intrusion → t.doors = s.doors ∧ t.light = s.light ∧ t.egress = s.egress
          ∧ t.calls = s.calls ∧ t.link = s.link ∧ ∀ c ∈ Chan.all, c ≠ .door d → t.channel c = s.channel c)
        ∧ t = { s with watch := t.watch, buzzer := t.buzzer, doors := t.doors, timers := t.timers, link := t.link,
                       egress := t.egress, calls := t.calls, light := t.light, order := t.order })
  ∧ (∀ (s : State) (d : Fin 4),
      ((s.door d).ajar = false ∨ (s.door d).phase = some .closing ∨ (s.channel (.door d)).mayExpire = false) →
      ∃ t, exec (.heldEvent d) s = .next t
        ∧ t = s)

/-- PASSAGE closes its line, and in LISTEN, RELEARN and RUN makes its filter pressed. From a released filter it is a press: it
makes the PASSAGE slot stand and T21 run the full passage time; if the slot stood already no door changes; otherwise, and at
the expiry of T21 with the slot withdrawn, every owned door that has been read and is not frozen has its lock by the new
resolution: FREE frees it, LOCK locks it unless the door stands open. Positions, channels but the doors' and T21, modes, fire
and watch unit, table, start unit, troubles and buzzer are unchanged. PASSAGE from a filter that holds pressed, and outside
these phases, changes nothing else; that it leaves the line closed is the model's choice (assumption 10). Without a running
T21 its expiry changes nothing. -/
def Obligations.PassageKeyOpensTheDoorsForItsTime : Prop :=
  (∀ (s : State),
      s.hearing = true →
      s.keys.passage.pressed = false →
      s.doors.passage = false →
      ∃ t, exec (.passage) s = .next t
        ∧ t.doors.passage = true
        ∧ t.channel .t21 = Channel.fresh s.cfg.passage .ms100 .oneShot 0
        ∧ (∀ d : Fin 4, (t.door d).lock = if s.drivable d
          then (match t.resolvedLock d with | .free => .free | .locked => if (s.door d).position = some .opened
          then (s.door d).lock else .locked) else (s.door d).lock)
        ∧ (∀ d : Fin 4, (t.door d).desc = (s.door d).desc ∧ (t.door d).position = (s.door d).position
          ∧ (t.door d).filter = (s.door d).filter ∧ (t.door d).keep = (s.door d).keep)
        ∧ (∀ c ∈ Chan.all, c ≠ .t21 → (∀ d : Fin 4, c ≠ .door d) → t.channel c = s.channel c)
        ∧ t = { s with pins := { s.pins with passage := true }, keys := { s.keys with passage := .held }, doors := t.doors,
                       timers := t.timers, link := t.link, egress := t.egress, calls := t.calls, light := t.light,
                       order := t.order })
  ∧ (∀ (s : State),
      s.hearing = true →
      s.keys.passage.pressed = false →
      s.doors.passage = true →
      ∃ t, exec (.passage) s = .next t
        ∧ t.channel .t21 = Channel.fresh s.cfg.passage .ms100 .oneShot 0
        ∧ (∀ c ∈ Chan.all, c ≠ .t21 → t.channel c = s.channel c)
        ∧ t = { s with pins := { s.pins with passage := true }, keys := { s.keys with passage := .held },
                       timers := t.timers })
  ∧ (∀ (s : State),
      s.hearing = true →
      s.keys.passage.pressed = true →
      ∃ t, exec (.passage) s = .next t
        ∧ t = { s with pins := { s.pins with passage := true }, keys := { s.keys with passage := .held } })
  ∧ (∀ (s : State),
      s.hearing = false →
      ∃ t, exec (.passage) s = .next t
        ∧ t = { s with pins := { s.pins with passage := true } })
  ∧ (∀ (s : State),
      s.live = true →
      (s.channel .t21).mayExpire = true →
      ∃ t, exec (.passageExpiry) s = .next t
        ∧ t.doors.passage = false
        ∧ (∀ d : Fin 4, (t.door d).lock = if s.drivable d
          then (match t.resolvedLock d with | .free => .free | .locked => if (s.door d).position = some .opened
          then (s.door d).lock else .locked) else (s.door d).lock)
        ∧ (∀ d : Fin 4, (t.door d).desc = (s.door d).desc ∧ (t.door d).position = (s.door d).position
          ∧ (t.door d).filter = (s.door d).filter ∧ (t.door d).keep = (s.door d).keep)
        ∧ (∀ c ∈ Chan.all, c ≠ .t21 → (∀ d : Fin 4, c ≠ .door d) → t.channel c = s.channel c)
        ∧ t = { s with doors := t.doors, timers := t.timers, link := t.link, egress := t.egress, calls := t.calls,
                       light := t.light, order := t.order })
  ∧ (∀ (s : State),
      (s.channel .t21).mayExpire = false →
      ∃ t, exec (.passageExpiry) s = .next t
        ∧ t = s)

/-- For every door, with lockdown and passage levels of 3 to 15: the resolved lock and hold are the preference of the standing
slot of highest level that has one, the first in the order FIRE, LOCKDOWN, PASSAGE, SCHEDULE among equals. So FIRE gives FREE
and DROP; otherwise LOCKDOWN, unless PASSAGE stands at a higher level, gives LOCK; otherwise PASSAGE gives FREE; otherwise
SCHEDULE gives LOCK in NIGHT and on an EXIT door in CLOSED and else FREE. For the hold, without FIRE and LOCKDOWN, SCHEDULE
gives HOLD for an INTERIOR door in PUBLIC and else DROP, PASSAGE having no preference. The strongest of a list of wishes is
none exactly for the empty list. -/
def Obligations.HighestClaimDecidesTheDoor : Prop :=
  (∀ (s : State) (d : Fin 4), 3 ≤ s.cfg.lockdownLevel → s.cfg.lockdownLevel ≤ 15 → 3 ≤ s.cfg.passageLevel →
      s.cfg.passageLevel ≤ 15 →
      s.resolvedLock d = (
        if s.fire.evac then .free
        else if s.slotStands d .lockdown ∧ (s.doors.passage = true → s.cfg.passageLevel ≤ s.cfg.lockdownLevel) then .locked
        else if s.doors.passage then .free
        else if s.modes.mode = .night ∨ (s.modes.mode = .closed ∧ (s.door d).desc.kind = .exit) then .locked
        else .free)
      ∧ s.resolvedHold d = (
        if s.fire.evac then .dropped
        else if s.slotStands d .lockdown then .dropped
        else if s.modes.mode = .pub ∧ (s.door d).desc.kind = .interior then .holding
        else .dropped))
    ∧ (∀ (s : State) (d : Fin 4), s.slotStands d .lockdown = true ↔
        s.watch.intrusion = true ∨ ((s.door d).desc.kind = .interior
          ∧ ∃ e, s.entryFor (s.door d).desc.neighbour = some e ∧ e.intrusion = true))
    ∧ (∀ (s : State) (d : Fin 4) (slot : ClaimSlot), s.slotStands d slot = true →
      (slotLock s.modes.mode (s.door d).desc.kind slot).isSome = true →
        (∀ other : ClaimSlot, other ≠ slot → s.slotStands d other = true → s.slotLevel other < s.slotLevel slot) →
        slotLock s.modes.mode (s.door d).desc.kind slot = some (s.resolvedLock d))
    ∧ (∀ l : List (Nat × LockOut), (strongest l).isNone = true ↔ l = [])

/-- For a WAITING point: the compare event sets the hurry flag and nothing else; the expiry sets the late flag, raises the
level to the candidate level if that is higher, marks the slot, restarts the escalation time, sets hurry too if the compare
event was still due (assumption 6), and its list entry takes the point's level, placed behind every entry of equal or higher
level if it rose. For an ANSWERED point the attend limit gives WAITING, late, hurry, no answerer, the level so raised, the
entry WAITING without answerer, the slot marked and the escalation time running. Every other point, entry, channel and unit is
unchanged. In any other state of the point nothing changes, which is the model's choice (assumption 9). -/
def Obligations.CallTimersHurryEscalateAndReturn : Prop :=
  (∀ (s : State) (p : Fin 4),
      s.live = true →
      (s.point p).state = .waiting →
      (s.channel (.point p)).compareDue = true →
      ∃ t, exec (.escalationCompare p) s = .next t
        ∧ t.point p = { s.point p with hurry := true }
        ∧ (∀ q : Fin 4, q ≠ p → t.point q = s.point q)
        ∧ (∀ c ∈ Chan.all, c ≠ .point p → t.channel c = s.channel c)
        ∧ t.calls.list = s.calls.list
        ∧ t = { s with timers := t.timers, calls := t.calls })
  ∧ (∀ (s : State) (p : Fin 4),
      ((s.point p).state ≠ .waiting ∨ (s.channel (.point p)).compareDue = false) →
      ∃ t, exec (.escalationCompare p) s = .next t
        ∧ t = s)
  ∧ (∀ (s : State) (p : Fin 4),
      s.hearing = true →
      (s.point p).state = .waiting →
      (s.channel (.point p)).mayExpire = true →
      (∀ e ∈ s.calls.list, e.id = s.ownCall p → e.level = (s.point p).level) →
      ∃ t, exec (.escalationExpiry p) s = .next t
        ∧ t.point p = { s.point p with late := true, level := max (s.point p).level (s.candidateLevel true),
                                       hurry := (s.point p).hurry || (s.channel (.point p)).compareDue }
        ∧ (∀ q : Fin 4, q ≠ p → t.point q = s.point q)
        ∧ (∀ c ∈ Chan.all, c ≠ .point p → t.channel c = s.channel c)
        ∧ t.channel (.point p) = Channel.fresh s.cfg.escalation .s1 .oneShot (s.cfg.escalation / 2)
        ∧ (t.link.calls[p] = true ∧ ∀ q : Fin 4, q ≠ p → t.link.calls[q] = s.link.calls[q])
        ∧ (∀ e ∈ s.calls.list, e.id ≠ s.ownCall p → e ∈ t.calls.list)
        ∧ (∀ e ∈ t.calls.list, e.id = s.ownCall p → e.level = (t.point p).level)
        ∧ (falling s.calls.list → (s.calls.list.map CallEntry.id).Nodup → (t.point p).level ≠ (s.point p).level →
          ∀ e ∈ s.calls.list, e.id = s.ownCall p →
          t.calls.list = behindEquals { e with level := (t.point p).level } (s.calls.list.filter fun x => x.id != s.ownCall p))
        ∧ t.calls.list.length ≤ s.calls.list.length
        ∧ t = { s with timers := t.timers, calls := t.calls, link := { s.link with calls := t.link.calls } })
  ∧ (∀ (s : State) (p : Fin 4),
      ((s.point p).state ≠ .waiting ∨ (s.channel (.point p)).mayExpire = false) →
      ∃ t, exec (.escalationExpiry p) s = .next t
        ∧ t = s)
  ∧ (∀ (s : State) (p : Fin 4),
      s.hearing = true →
      (s.point p).state = .answered →
      (s.channel (.point p)).mayExpire = true →
      (∀ e ∈ s.calls.list, e.id = s.ownCall p → e.level = (s.point p).level) →
      ∃ t, exec (.attendLimitExpiry p) s = .next t
        ∧ t.point p = { state := .waiting, level := max (s.point p).level (s.candidateLevel true), late := true,
                        answerer := 0, hurry := true }
        ∧ (∀ q : Fin 4, q ≠ p → t.point q = s.point q)
        ∧ (∀ c ∈ Chan.all, c ≠ .point p → t.channel c = s.channel c)
        ∧ t.channel (.point p) = Channel.fresh s.cfg.escalation .s1 .oneShot (s.cfg.escalation / 2)
        ∧ (t.link.calls[p] = true ∧ ∀ q : Fin 4, q ≠ p → t.link.calls[q] = s.link.calls[q])
        ∧ (∀ e ∈ s.calls.list, e.id ≠ s.ownCall p → e ∈ t.calls.list)
        ∧ (∀ e ∈ t.calls.list, e.id = s.ownCall p → e.level = (t.point p).level ∧ e.answered = false ∧ e.answerer = 0)
        ∧ (falling s.calls.list → (s.calls.list.map CallEntry.id).Nodup → (t.point p).level ≠ (s.point p).level →
          ∀ e ∈ s.calls.list, e.id = s.ownCall p → t.calls.list = behindEquals { e with level := (t.point p).level,
                                                                                        answered := false,
                                                                                        answerer := 0 } (s.calls.list.filter fun x => x.id != s.ownCall p))
        ∧ t.calls.list.length ≤ s.calls.list.length
        ∧ t = { s with timers := t.timers, calls := t.calls, link := { s.link with calls := t.link.calls } })
  ∧ (∀ (s : State) (p : Fin 4),
      ((s.point p).state ≠ .answered ∨ (s.channel (.point p)).mayExpire = false) →
      ∃ t, exec (.attendLimitExpiry p) s = .next t
        ∧ t = s)

/-- RECEIVED_NOTICE of a good frame followed to its end on the bus: CLEARED removes the entry of its identity and nothing
else, withdrawing an unsent offer for it; another state updates the entry of its identity (state, level, answerer, heard; the
offered flag stays only while the offer is unsent or this station is the answerer, and a clear one stays clear, assumption 40)
or, for an unknown identity, inserts a remote entry with one CALL chirp. An entry inserted, or of a changed level, is placed
behind every entry of equal or higher level; of an unchanged level it keeps its place. A list of 16 takes it only in place of
its last remote entry of a lower level; otherwise the list stays, and either way CALL-LIST-FULL is entered. The other entries
stay, the call points never change, and no other unit changes but for the counting of a good frame. -/
def Obligations.NoticesKeepTheCallList : Prop :=
  (∀ (s : State) (f : CallFrame),
      s.hearing = true →
      s.link.receives = true →
      (Frame.call f).isBad s.own = false →
      f.state = 2 →
      ∃ t, exec (.receivedNotice f) s = .next t
        ∧ (t.calls.list = s.calls.list.filter fun e => e.id != { origin := f.source,
                                                                 point := pointOfCode f.point : CallId })
        ∧ (t.link.offer = if s.link.offer = some { origin := f.source, point := pointOfCode f.point : CallId }
          ∧ (∃ e ∈ s.calls.list, e.id = { origin := f.source, point := pointOfCode f.point : CallId }) then none
          else s.link.offer)
        ∧ t.calls.points = s.calls.points
        ∧ t = { s with calls := t.calls, troubles := t.troubles, buzzer := t.buzzer,
                       link := { s.link with bus := .waiting false, discards := 0, status := t.link.status,
                                             offer := t.link.offer } })
  ∧ (∀ (s : State) (f : CallFrame),
      s.hearing = true →
      s.link.receives = true →
      (Frame.call f).isBad s.own = false →
      f.state ≠ 2 →
      (∀ e ∈ s.calls.list, e.id ≠ { origin := f.source, point := pointOfCode f.point : CallId }) →
      s.calls.list.length < 16 →
      ∃ t, exec (.receivedNotice f) s = .next t
        ∧ (∀ x, x ∈ t.calls.list ↔ x ∈ s.calls.list
          ∨ x = { id := { origin := f.source, point := pointOfCode f.point : CallId }, level := levelOfCode f.level,
                  answered := (f.state == 1), answerer := answererOfCode (f.state == 1) f.answerer, isLocal := false,
                  offered := false, heard := true : CallEntry })
        ∧ t.calls.list.length = s.calls.list.length + 1
        ∧ (falling s.calls.list →
          t.calls.list = behindEquals { id := { origin := f.source, point := pointOfCode f.point : CallId },
                                        level := levelOfCode f.level, answered := (f.state == 1),
                                        answerer := answererOfCode (f.state == 1) f.answerer, isLocal := false,
                                        offered := false, heard := true : CallEntry } s.calls.list)
        ∧ t.buzzer.callChirp = s.buzzer.callChirp.presented
        ∧ t.link.offer = s.link.offer
        ∧ t.calls.points = s.calls.points
        ∧ t = { s with calls := t.calls, troubles := t.troubles, buzzer := t.buzzer,
                       link := { s.link with bus := .waiting false, discards := 0, status := t.link.status,
                                             offer := t.link.offer } })
  ∧ (∀ (s : State) (f : CallFrame) (e : CallEntry),
      s.hearing = true →
      s.link.receives = true →
      (Frame.call f).isBad s.own = false →
      f.state ≠ 2 →
      (s.calls.list.map CallEntry.id).Nodup →
      e ∈ s.calls.list →
      e.id = { origin := f.source, point := pointOfCode f.point : CallId } →
      ∃ t, exec (.receivedNotice f) s = .next t
        ∧ { e with level := levelOfCode f.level, answered := (f.state == 1),
                   answerer := answererOfCode (f.state == 1) f.answerer, heard := true,
                   offered := e.offered && (s.link.offer == some { origin := f.source,
                                                                   point := pointOfCode f.point : CallId } || ((f.state == 1) && answererOfCode (f.state == 1) f.answerer == s.own)) } ∈ t.calls.list
        ∧ (∀ x ∈ s.calls.list, x.id ≠ { origin := f.source, point := pointOfCode f.point : CallId } → x ∈ t.calls.list)
        ∧ (e.level = levelOfCode f.level → t.calls.list = s.calls.list.map fun x => if x.id = e.id
          then { e with level := levelOfCode f.level, answered := (f.state == 1),
                        answerer := answererOfCode (f.state == 1) f.answerer, heard := true,
                        offered := e.offered && (s.link.offer == some { origin := f.source,
                                                                        point := pointOfCode f.point : CallId } || ((f.state == 1) && answererOfCode (f.state == 1) f.answerer == s.own)) } else x)
        ∧ (falling s.calls.list → e.level ≠ levelOfCode f.level →
          t.calls.list = behindEquals { e with level := levelOfCode f.level, answered := (f.state == 1),
                                               answerer := answererOfCode (f.state == 1) f.answerer, heard := true,
                                               offered := e.offered && (s.link.offer == some { origin := f.source,
                                                                                               point := pointOfCode f.point : CallId } || ((f.state == 1) && answererOfCode (f.state == 1) f.answerer == s.own)) } (s.calls.list.filter fun x => x.id != e.id))
        ∧ t.calls.list.length = s.calls.list.length
        ∧ t.buzzer.callChirp = s.buzzer.callChirp
        ∧ t.link.offer = s.link.offer
        ∧ t.calls.points = s.calls.points
        ∧ t = { s with calls := t.calls, troubles := t.troubles, buzzer := t.buzzer,
                       link := { s.link with bus := .waiting false, discards := 0, status := t.link.status,
                                             offer := t.link.offer } })
  ∧ (∀ (s : State) (f : CallFrame),
      s.hearing = true →
      s.link.receives = true →
      (Frame.call f).isBad s.own = false →
      f.state ≠ 2 →
      (∀ e ∈ s.calls.list, e.id ≠ { origin := f.source, point := pointOfCode f.point : CallId }) →
      16 ≤ s.calls.list.length →
      (∀ v, lastRemote s.calls.list = some v → levelOfCode f.level ≤ v.level) →
      ∃ t, exec (.receivedNotice f) s = .next t
        ∧ t.calls = s.calls
        ∧ Trouble.callListFull ∈ t.troubles.record
        ∧ t.link.offer = s.link.offer
        ∧ t = { s with calls := t.calls, troubles := t.troubles, buzzer := t.buzzer,
                       link := { s.link with bus := .waiting false, discards := 0, status := t.link.status,
                                             offer := t.link.offer } })
  ∧ (∀ (s : State) (f : CallFrame) (v : CallEntry),
      s.hearing = true →
      s.link.receives = true →
      (Frame.call f).isBad s.own = false →
      f.state ≠ 2 →
      (∀ e ∈ s.calls.list, e.id ≠ { origin := f.source, point := pointOfCode f.point : CallId }) →
      16 ≤ s.calls.list.length →
      lastRemote s.calls.list = some v →
      v.level < levelOfCode f.level →
      ∃ t, exec (.receivedNotice f) s = .next t
        ∧ (∀ x, x ∈ t.calls.list ↔ (x ∈ s.calls.list ∧ x.id ≠ v.id)
          ∨ x = { id := { origin := f.source, point := pointOfCode f.point : CallId }, level := levelOfCode f.level,
                  answered := (f.state == 1), answerer := answererOfCode (f.state == 1) f.answerer, isLocal := false,
                  offered := false, heard := true : CallEntry })
        ∧ (falling s.calls.list →
          t.calls.list = behindEquals { id := { origin := f.source, point := pointOfCode f.point : CallId },
                                        level := levelOfCode f.level, answered := (f.state == 1),
                                        answerer := answererOfCode (f.state == 1) f.answerer, isLocal := false,
                                        offered := false,
                                        heard := true : CallEntry } (s.calls.list.filter fun x => x.id != v.id))
        ∧ Trouble.callListFull ∈ t.troubles.record
        ∧ t.buzzer.callChirp = s.buzzer.callChirp.presented
        ∧ (t.link.offer = if s.link.offer = some v.id then none else s.link.offer)
        ∧ t.calls.points = s.calls.points
        ∧ t = { s with calls := t.calls, troubles := t.troubles, buzzer := t.buzzer,
                       link := { s.link with bus := .waiting false, discards := 0, status := t.link.status,
                                             offer := t.link.offer } })

/-- RECEIVED_OFFER of a good frame followed to its end on the bus, for a configured point of this station: WAITING becomes
ANSWERED with the sender as answerer, hurry clear, the attend limit running and the entry ANSWERED by the sender; ANSWERED
takes a sender of lower number and keeps its channel; both, and a higher or equal sender, mark the slot; an IDLE point stays.
No other point, channel or unit changes but for the counting of a good frame. An offer for another station, or for a point not
configured, changes no call. ACCEPT closes its line, and in the phases that take it makes its filter pressed. From a released
filter it is a press: with no WAITING entry that is not offered, REFUSE is presented and nothing else changes. Otherwise for
the first such entry: a local one whose point is WAITING becomes ANSWERED by this station, hurry clear, the attend limit
running, the slot marked; a remote one has its offered flag set and its offer in the ANSWER slot, a replaced unsent offer's
entry losing the flag, and an offer's frame under way noting that a newer one was loaded. Nothing else changes, and from a
filter that holds pressed, or outside these phases, nothing but that; that the command leaves the line closed is the model's
choice (assumption 10). -/
def Obligations.CallsAreAnsweredByOffersAndByAccept : Prop :=
  (∀ (s : State) (f : AnswerFrame),
      s.hearing = true →
      s.link.receives = true →
      (Frame.answer f).isBad s.own = false →
      f.origin = s.own →
      s.pointFitted (pointOfCode f.point) = true →
      (s.point (pointOfCode f.point)).state = .waiting →
      ∃ t, exec (.receivedOffer f) s = .next t
        ∧ t.point (pointOfCode f.point) = { s.point (pointOfCode f.point) with state := .answered, answerer := f.source,
                                                                               hurry := false }
        ∧ (∀ q : Fin 4, q ≠ pointOfCode f.point → t.point q = s.point q)
        ∧ t.channel (.point (pointOfCode f.point)) = Channel.fresh s.cfg.attend .s1 .oneShot 0
        ∧ (∀ c ∈ Chan.all, c ≠ .point (pointOfCode f.point) → t.channel c = s.channel c)
        ∧ t.link.calls = s.link.calls.set (pointOfCode f.point) true
        ∧ (t.calls.list = s.calls.list.map fun e => if e.id = s.ownCall (pointOfCode f.point)
          then { e with answered := true, answerer := f.source } else e)
        ∧ t = { s with calls := t.calls, timers := t.timers, troubles := t.troubles, buzzer := t.buzzer,
                       link := { s.link with bus := .waiting false, discards := 0, status := t.link.status,
                                             calls := t.link.calls } })
  ∧ (∀ (s : State) (f : AnswerFrame),
      s.hearing = true →
      s.link.receives = true →
      (Frame.answer f).isBad s.own = false →
      f.origin = s.own →
      s.pointFitted (pointOfCode f.point) = true →
      (s.point (pointOfCode f.point)).state = .answered →
      f.source.toNat < (s.point (pointOfCode f.point)).answerer.toNat →
      ∃ t, exec (.receivedOffer f) s = .next t
        ∧ t.point (pointOfCode f.point) = { s.point (pointOfCode f.point) with answerer := f.source }
        ∧ (∀ q : Fin 4, q ≠ pointOfCode f.point → t.point q = s.point q)
        ∧ t.timers = s.timers
        ∧ t.link.calls = s.link.calls.set (pointOfCode f.point) true
        ∧ (t.calls.list = s.calls.list.map fun e => if e.id = s.ownCall (pointOfCode f.point)
          then { e with answered := true, answerer := f.source } else e)
        ∧ t = { s with calls := t.calls, timers := t.timers, troubles := t.troubles, buzzer := t.buzzer,
                       link := { s.link with bus := .waiting false, discards := 0, status := t.link.status,
                                             calls := t.link.calls } })
  ∧ (∀ (s : State) (f : AnswerFrame),
      s.hearing = true →
      s.link.receives = true →
      (Frame.answer f).isBad s.own = false →
      f.origin = s.own →
      s.pointFitted (pointOfCode f.point) = true →
      (s.point (pointOfCode f.point)).state = .answered →
      (s.point (pointOfCode f.point)).answerer.toNat ≤ f.source.toNat →
      ∃ t, exec (.receivedOffer f) s = .next t
        ∧ t.calls = s.calls
        ∧ t.timers = s.timers
        ∧ t.link.calls = s.link.calls.set (pointOfCode f.point) true
        ∧ t = { s with calls := t.calls, timers := t.timers, troubles := t.troubles, buzzer := t.buzzer,
                       link := { s.link with bus := .waiting false, discards := 0, status := t.link.status,
                                             calls := t.link.calls } })
  ∧ (∀ (s : State) (f : AnswerFrame),
      s.hearing = true →
      s.link.receives = true →
      (Frame.answer f).isBad s.own = false →
      (f.origin ≠ s.own ∨ s.pointFitted (pointOfCode f.point) = false ∨ (s.point (pointOfCode f.point)).state = .idle) →
      ∃ t, exec (.receivedOffer f) s = .next t
        ∧ t.calls = s.calls
        ∧ t.timers = s.timers
        ∧ t.link.calls = s.link.calls
        ∧ t = { s with calls := t.calls, timers := t.timers, troubles := t.troubles, buzzer := t.buzzer,
                       link := { s.link with bus := .waiting false, discards := 0, status := t.link.status,
                                             calls := t.link.calls } })
  ∧ (∀ (s : State),
      s.keyed = true →
      s.keys.accept.pressed = false →
      s.calls.list.find? (fun x => !x.answered && !x.offered) = none →
      ∃ t, exec (.accept) s = .next t
        ∧ t = { s with pins := { s.pins with accept := true }, keys := { s.keys with accept := .held },
                       buzzer := { s.buzzer with refuse := s.buzzer.refuse.presented } })
  ∧ (∀ (s : State) (e : CallEntry),
      s.keyed = true →
      s.keys.accept.pressed = false →
      s.calls.list.find? (fun x => !x.answered && !x.offered) = some e →
      e.isLocal = true →
      (s.point e.id.point).state = .waiting →
      ∃ t, exec (.accept) s = .next t
        ∧ t.point e.id.point = { s.point e.id.point with state := .answered, answerer := s.own, hurry := false }
        ∧ (∀ q : Fin 4, q ≠ e.id.point → t.point q = s.point q)
        ∧ t.channel (.point e.id.point) = Channel.fresh s.cfg.attend .s1 .oneShot 0
        ∧ (∀ c ∈ Chan.all, c ≠ .point e.id.point → t.channel c = s.channel c)
        ∧ (t.calls.list = s.calls.list.map fun x => if x.id = s.ownCall e.id.point
          then { x with answered := true, answerer := s.own } else x)
        ∧ t = { s with pins := { s.pins with accept := true }, keys := { s.keys with accept := .held }, calls := t.calls,
                       timers := t.timers, link := { s.link with calls := s.link.calls.set e.id.point true } })
  ∧ (∀ (s : State) (e : CallEntry),
      s.keyed = true →
      s.keys.accept.pressed = false →
      s.calls.list.find? (fun x => !x.answered && !x.offered) = some e →
      e.isLocal = false →
      ∃ t, exec (.accept) s = .next t
        ∧ (t.calls.list = s.calls.list.map fun x => { x with offered := if x.id = e.id then true else if s.link.offer = some x.id then false else x.offered })
        ∧ t.calls.points = s.calls.points
        ∧ t = { s with pins := { s.pins with accept := true }, keys := { s.keys with accept := .held }, calls := t.calls,
                       link := { s.link with offer := some e.id, sending := s.link.sending.map Sending.overtaken } })
  ∧ (∀ (s : State),
      s.keyed = true →
      s.keys.accept.pressed = true →
      ∃ t, exec (.accept) s = .next t
        ∧ t = { s with pins := { s.pins with accept := true }, keys := { s.keys with accept := .held } })
  ∧ (∀ (s : State),
      s.keyed = false →
      ∃ t, exec (.accept) s = .next t
        ∧ t = { s with pins := { s.pins with accept := true } })

/-- For every command, state and call point: if the point is open before and after the command, its level is not lower after
it, and a late point is still late. -/
def Obligations.AnOpenCallsLevelNeverFalls : Prop :=
  ∀ (c : Instr) (s t : State) (p : Fin 4), exec c s = .next t → (s.point p).isOpen = true → (t.point p).isOpen = true →
    (s.point p).level ≤ (t.point p).level ∧ ((s.point p).late = true → (t.point p).late = true)

/-- At the expiry of T17 the fire roster keeps exactly its marked members, their marks cleared; a remote call entry stays
exactly if it was heard since the last sweep, its mark cleared; the local entries' identities stay; the evacuation flag is the
own FIRE or a non-empty roster. The neighbour entries, the points' states, the fire state, modes, watch unit, start unit but
for a released freeze, keys and troubles are unchanged. Without a running T17 nothing changes. -/
def Obligations.SweepForgetsTheUnconfirmed : Prop :=
  (∀ (s : State),
      s.live = true →
      (s.channel .t17).mayExpire = true →
      s.EvacuationSound →
      s.CallsSound →
      ∃ t, exec (.sweep) s = .next t
        ∧ t.table = { s.table with roster := (s.table.roster.filter Member.mark).map fun m => { m with mark := false } }
        ∧ (∀ x : CallEntry, x.isLocal = false → (x ∈ t.calls.list ↔ ∃ e ∈ s.calls.list, e.isLocal = false ∧ e.heard = true
          ∧ x = { e with heard := false }))
        ∧ (∀ e ∈ s.calls.list, e.isLocal = true → ∃ x ∈ t.calls.list, x.id = e.id ∧ x.isLocal = true)
        ∧ t.fire.evac = (s.fire.state == .fire || s.table.roster.any Member.mark)
        ∧ t.fire.state = s.fire.state
        ∧ (∀ p : Fin 4, (t.point p).state = (s.point p).state)
        ∧ t.modes = s.modes
        ∧ t.watch = s.watch
        ∧ t.keys = s.keys
        ∧ t.pins = s.pins
        ∧ t.start = { s.start with freeze := t.start.freeze }
        ∧ t.troubles = s.troubles
        ∧ t.clock = s.clock
        ∧ t.pending = s.pending)
  ∧ (∀ (s : State),
      (s.channel .t17).mayExpire = false →
      ∃ t, exec (.sweep) s = .next t
        ∧ t = s)

/-- RECEIVED_STATUS of a good frame followed to its end on the bus: an entry for the source takes every field as the frame
carries it (cost 0 or above 200 read as 255, via 63 as 0), is FRESH, has its silence timer restarted and is no longer a mute
trouble; other entries stay. Source FIRE is in the roster and marked, source not in FIRE is not in it, the other members stay;
the evacuation flag is the own FIRE or a non-empty roster. In VERIFY a report of PREALARM, VERIFY or FIRE for an entry that
was not corroborating gives FIRE. The loops, latches, keys, key position, lines and image are unchanged. The silence expiry of
an entry makes it MUTE with its last fields, enters its trouble, and leaves modes, fire and watch unit and doors unchanged. -/
def Obligations.StatusUpdatesEntryRosterAndFire : Prop :=
  (∀ (s : State) (f : StatusFrame) (k : Fin 4) (e : NbEntry),
      s.hearing = true →
      s.link.receives = true →
      (Frame.status f).isBad s.own = false →
      s.table.entries[k] = some e →
      e.station = f.source →
      ∃ t, exec (.receivedStatus f) s = .next t
        ∧ t.table.entries[k] = some { station := f.source, state := .fresh, fire := fireOfCode f.fire,
                                      intrusion := f.intrusion,
                                      cost := if f.cost = 0 ∨ 200 < f.cost.toNat then 255 else f.cost.toNat,
                                      via := if f.via = 63 then 0 else f.via,
                                      fields := Vector.ofFn fun i => { fitted := f.doors[i].getLsbD 3,
                                                                       passable := f.doors[i].getLsbD 2 } }
        ∧ t.channel (.silence k) = Channel.fresh s.cfg.silence .ms100 .oneShot 0
        ∧ (e.state = .mute → Trouble.neighbourMute f.source ∉ t.troubles.record)
        ∧ (s.fire.state = .verify → e.corroborating = false → f.fire ≠ 0 → t.fire.state = .fire))
  ∧ (∀ (s : State) (f : StatusFrame),
      s.hearing = true →
      s.link.receives = true →
      (Frame.status f).isBad s.own = false →
      ∃ t, exec (.receivedStatus f) s = .next t
        ∧ (∀ k : Fin 4, (∀ e, s.table.entries[k] = some e → e.station ≠ f.source) → t.table.entries[k] = s.table.entries[k]
          ∧ t.channel (.silence k) = s.channel (.silence k))
        ∧ (f.fire = 3 → (∃ m ∈ t.table.roster, m.station = f.source) ∧ ∀ m ∈ t.table.roster, m.station = f.source →
          m.mark = true)
        ∧ (f.fire ≠ 3 → ∀ m ∈ t.table.roster, m.station ≠ f.source)
        ∧ (∀ m : Member, m.station ≠ f.source → (m ∈ t.table.roster ↔ m ∈ s.table.roster))
        ∧ (s.EvacuationSound → t.fire.evac = (t.fire.state == .fire || !t.table.roster.isEmpty))
        ∧ t.fire.loops = s.fire.loops
        ∧ t.watch.localLatch = s.watch.localLatch
        ∧ t.watch.intrusion = s.watch.intrusion
        ∧ t.watch.inputs = s.watch.inputs
        ∧ t.keys = s.keys
        ∧ t.modes.keyPosition = s.modes.keyPosition
        ∧ t.pins = s.pins
        ∧ t.start = { s.start with freeze := t.start.freeze }
        ∧ t.link.discards = 0
        ∧ t.link.bus = .waiting false
        ∧ t.link.offer = s.link.offer
        ∧ (∀ d : Fin 4, (t.door d).position = (s.door d).position ∧ (t.door d).desc = (s.door d).desc)
        ∧ t.doors.passage = s.doors.passage
        ∧ t.clock = s.clock
        ∧ t.pending = s.pending)
  ∧ (∀ (s : State) (k : Fin 4) (e : NbEntry),
      s.live = true →
      s.table.entries[k] = some e →
      e.state ≠ .mute →
      (s.channel (.silence k)).mayExpire = true →
      ∃ t, exec (.silenceExpiry k) s = .next t
        ∧ t.table = { s.table with entries := s.table.entries.set k (some { e with state := .mute }) }
        ∧ Trouble.neighbourMute e.station ∈ t.troubles.record
        ∧ (∀ c ∈ Chan.all, c ≠ .silence k → t.channel c = s.channel c)
        ∧ t = { s with timers := t.timers, table := t.table, troubles := t.troubles, buzzer := t.buzzer, link := t.link,
                       egress := t.egress, calls := t.calls, light := t.light, order := t.order })
  ∧ (∀ (s : State) (k : Fin 4),
      (∀ e, s.table.entries[k] = some e → e.state = .mute) →
      ∃ t, exec (.silenceExpiry k) s = .next t
        ∧ t = { s with timers := t.timers }
        ∧ (∀ c ∈ Chan.all, c ≠ .silence k → t.channel c = s.channel c))
  ∧ (∀ (s : State) (k : Fin 4),
      (s.table.entries[k] = none ∨ (s.channel (.silence k)).mayExpire = false) →
      ∃ t, exec (.silenceExpiry k) s = .next t
        ∧ t = s)

/-- Formalises R126, R127. The hazard is 0, 16, 48 for CLEAR, PREALARM, VERIFY, excluded for FIRE and, with the strict option,
for VERIFY. A BLANK position gives no candidate; a passable EXIT door gives its weight and another none; an INTERIOR door
gives weight, neighbour's cost and hazard together, exactly if it is passable, its entry is FRESH with a cost other than 255,
a via other than this station and a fire state not excluded. With weights up to 15 and costs up to 200 or 255 no candidate
exceeds 263. -/
def Obligations.CandidatesFollowTheExclusions : Prop :=
  (∀ strict : Bool, hazard strict .clear = some 0 ∧ hazard strict .prealarm = some 16
      ∧ hazard strict .verify = (if strict then none else some 48) ∧ hazard strict .fire = none)
    ∧ (∀ (s : State) (d : Fin 4), (s.door d).desc.kind = .blank → s.candidate d = none)
    ∧ (∀ (s : State) (d : Fin 4), (s.door d).desc.kind = .exit →
        s.candidate d = if s.passable d then some (s.door d).desc.weight else none)
    ∧ (∀ (s : State) (d : Fin 4) (c : Nat), (s.door d).desc.kind = .interior →
        (s.candidate d = some c ↔
          s.passable d = true ∧ ∃ e h, s.entryFor (s.door d).desc.neighbour = some e ∧ e.state = .fresh ∧ e.cost ≠ 255
            ∧ e.via ≠ s.own ∧ e.fire ≠ .fire ∧ (e.fire = .verify → s.cfg.strict = false)
            ∧ hazard s.cfg.strict e.fire = some h ∧ c = (s.door d).desc.weight + e.cost + h))
    ∧ (∀ (s : State) (d : Fin 4) (c : Nat), (s.door d).desc.weight ≤ 15 →
        (∀ e, s.entryFor (s.door d).desc.neighbour = some e → e.cost ≤ 200 ∨ e.cost = 255) → s.candidate d = some c →
          c ≤ 263)

/-- Formalises R128, R129. For every computation: the own cost is at most every candidate of 200 or less, and is one of these,
or 255 where there is none; a chosen door gives the own cost and there is none exactly at 255; the chosen door is kept while
it gives the own cost, and otherwise is the lowest that does. The via is the neighbour of a chosen INTERIOR door, and 0 for an
EXIT door or none. With weights of at least 1 the own cost is 1 to 200 or 255, and a chosen door is passable, an INTERIOR one
with an entry that is FRESH, not in FIRE and not led by way of this station. The verdict of a BLANK position is NEUTRAL; of
any other door BAR at own cost 255; else GO for the chosen door; else BAR for an INTERIOR door whose entry holds FIRE; else
NEUTRAL. -/
def Obligations.CostDoorAndVerdictsFollowTheCandidates : Prop :=
  (∀ (s : State) (d : Fin 4), s.computeEgress.verdicts[d] = (
        if (s.door d).desc.kind = .blank then .neutral
        else if s.computeEgress.cost = 255 then .bar
        else if s.computeEgress.chosen = some d then .go
        else if (s.door d).desc.kind = .interior ∧ (∃ e, s.entryFor (s.door d).desc.neighbour = some e ∧ e.fire = .fire)
          then .bar
        else .neutral))
    ∧ (∀ (s : State) (d : Fin 4) (c : Nat), s.candidate d = some c → c ≤ 200 → s.computeEgress.cost ≤ c)
    ∧ (∀ s : State, s.computeEgress.cost ≠ 255 →
        ∃ d c, s.computeEgress.chosen = some d ∧ s.candidate d = some c ∧ c ≤ 200 ∧ s.computeEgress.cost = c)
    ∧ (∀ s : State, s.computeEgress.cost = 255 → s.computeEgress.chosen = none)
    ∧ (∀ (s : State) (d : Fin 4) (c : Nat), s.egress.chosen = some d → s.candidate d = some c → c ≤ 200 →
      c = s.computeEgress.cost →
        s.computeEgress.chosen = some d)
    ∧ (∀ (s : State) (d e : Fin 4), s.computeEgress.chosen = some d → s.egress.chosen ≠ some d → e < d →
        s.candidate e ≠ some s.computeEgress.cost)
    ∧ (∀ s : State, s.computeEgress.via = match s.computeEgress.chosen with
        | none => 0
        | some d => if (s.door d).desc.kind = .interior then (s.door d).desc.neighbour else 0)
    ∧ (∀ s : State, (∀ d : Fin 4, 1 ≤ (s.door d).desc.weight) →
        s.computeEgress.cost = 255 ∨ (1 ≤ s.computeEgress.cost ∧ s.computeEgress.cost ≤ 200))
    ∧ (∀ (s : State) (d : Fin 4), s.computeEgress.chosen = some d → s.passable d = true
        ∧ ((s.door d).desc.kind = .interior → ∃ e, s.entryFor (s.door d).desc.neighbour = some e ∧ e.state = .fresh
            ∧ e.fire ≠ .fire ∧ e.via ≠ s.own))

/-- TEST closes its line, and in the phases that take it makes its filter pressed. From a released filter it is a press: it
starts T20 with 10 s and puts TEST on top of the stack, or directly below an EVACUATE that stays on top, within the depth
limit or the old length, with no other scene added and none removed but, at the limit, the lowest removable one; the expiry of
T20 removes TEST alone. Where outputs are neither forced nor frozen they follow the scene on top. Nothing else changes. TEST
from a filter that holds pressed, and outside these phases, changes nothing else; that it leaves the line closed is the
model's choice (assumption 10). Without a running T20 its expiry changes nothing. -/
def Obligations.TestPushesItsSceneForTenSeconds : Prop :=
  (∀ (s : State),
      s.keyed = true →
      s.keys.test.pressed = false →
      s.StackSound →
      ∃ t, exec (.test) s = .next t
        ∧ t.channel .t20 = Channel.fresh 10 .s1 .oneShot 0
        ∧ t.light.base = s.light.base
        ∧ (Scene.evacuate ∉ s.light.above → t.light.above.getLast? = some .test)
        ∧ (Scene.evacuate ∈ s.light.above → t.light.above.getLast? = some .evacuate
          ∧ t.light.above.dropLast.getLast? = some .test)
        ∧ (∀ sc ∈ t.light.above, sc ∈ s.light.above ∨ sc = .test)
        ∧ (s.light.above.length + 1 < s.cfg.depth ∨ Scene.test ∈ s.light.above → ∀ sc ∈ s.light.above, sc ∈ t.light.above)
        ∧ (s.cfg.depth ≤ s.light.above.length + 1 → t.light.above.length ≤ s.light.above.length)
        ∧ (∀ sc, s.light.above.find? (fun x => x != .evacuate) ≠ some sc → sc ∈ s.light.above → sc ∈ t.light.above)
        ∧ (s.forced = false → s.start.freeze = false → t.light.out = t.sceneOutputs)
        ∧ (∀ c ∈ Chan.all, c ≠ .t20 → t.channel c = s.channel c)
        ∧ t = { s with pins := { s.pins with test := true }, keys := { s.keys with test := .held }, light := t.light,
                       timers := t.timers })
  ∧ (∀ (s : State),
      s.keyed = true →
      s.keys.test.pressed = true →
      ∃ t, exec (.test) s = .next t
        ∧ t = { s with pins := { s.pins with test := true }, keys := { s.keys with test := .held } })
  ∧ (∀ (s : State),
      s.keyed = false →
      ∃ t, exec (.test) s = .next t
        ∧ t = { s with pins := { s.pins with test := true } })
  ∧ (∀ (s : State),
      s.live = true →
      (s.channel .t20).mayExpire = true →
      ∃ t, exec (.lampTestExpiry) s = .next t
        ∧ t.light.above = s.light.above.erase .test
        ∧ t.light.base = s.light.base
        ∧ (s.forced = false → s.start.freeze = false → t.light.out = t.sceneOutputs)
        ∧ (∀ c ∈ Chan.all, c ≠ .t20 → t.channel c = s.channel c)
        ∧ t = { s with light := t.light, timers := t.timers })
  ∧ (∀ (s : State),
      (s.channel .t20).mayExpire = false →
      ∃ t, exec (.lampTestExpiry) s = .next t
        ∧ t = s)

/-- Formalises R137. For every state, the outputs that its top scene sets are those of the table: lights OFF in DARK and DIM
and ON elsewhere; lamp ON in TEST, FLASH in EVACUATE with the way out lost and ON in EVACUATE otherwise, OFF elsewhere;
sounder PULSE in INTRUSION, ON in EVACUATE unless silenced, OFF elsewhere; signs dark on a BLANK position; on the others DARK
in DARK and INTRUSION, ARROW in TEST, by the verdict in EVACUATE, and ARROW for GO alone in OPEN, DIM and ROUND. -/
def Obligations.ScenesSetTheOutputsOfTheTable : Prop :=
  ∀ s : State,
    (s.sceneOutputs.lights = false ↔ s.light.top = .dark ∨ s.light.top = .dim)
    ∧ s.sceneOutputs.lamp = (
        if s.light.top = .test then .on
        else if s.light.top = .evacuate then (if s.egress.computed = true ∧ s.egress.cost = 255 then .flash else .on)
        else .off)
    ∧ s.sceneOutputs.sounder = (
        if s.light.top = .intrusion then .pulse
        else if s.light.top = .evacuate ∧ s.fire.silenced = false then .on
        else .off)
    ∧ (∀ d : Fin 4, (s.door d).desc.kind = .blank → s.sceneOutputs.signs[d] = .dark)
    ∧ (∀ d : Fin 4, (s.door d).desc.kind ≠ .blank →
        (s.light.top = .dark ∨ s.light.top = .intrusion → s.sceneOutputs.signs[d] = .dark)
        ∧ (s.light.top = .test → s.sceneOutputs.signs[d] = .arrow)
        ∧ (s.light.top = .opened ∨ s.light.top = .dim ∨ s.light.top = .round →
            s.sceneOutputs.signs[d] = if s.egress.verdicts[d] = .go then .arrow else .dark)
        ∧ (s.light.top = .evacuate → s.sceneOutputs.signs[d] = match s.egress.verdicts[d] with
            | .go => .arrow
            | .bar => .cross
            | .neutral => .dark))

/-- With nothing in flight, no QUIET and an idle bus in RUN, BEGIN_FRAME takes the STATUS slot if pending, not paced by T16
and urgent (a fire state other than CLEAR, the intrusion latch or the evacuation flag); else the pending CALL slot of lowest
index; else the ANSWER slot; else the pending STATUS slot that is not paced. The frame is captured from the state as it
stands, with its check byte; the pending mark moves in flight; nothing else changes. With no eligible slot, or with any
condition missing, as while another station's frame is followed, nothing changes. A STATUS carries fire and guard state,
latch, round and evacuation flag, whether a trouble stands, epoch, mode, cost, via, and for each owned door the marks
fitted-and-owned and, with a FREE lock, passable, and its position, all 0 for any other; a CALL the point's state, its level
and, if ANSWERED, its answerer; an ANSWER the call it offers to attend. -/
def Obligations.BeginFrameSendsTheMostUrgentSlot : Prop :=
  (∀ (s : State),
      s.live = true →
      s.start.phase = .run →
      s.link.quiet = false →
      s.link.bus = .idle →
      s.link.sending = none →
      s.link.status = true →
      s.timers.t16.running = false →
      ((s.fire.state ≠ .clear ∨ s.watch.intrusion = true ∨ s.fire.evac = true) ∨ (s.link.offer = none ∧ ∀ p : Fin 4,
        s.link.calls[p] = false)) →
      ∃ t, exec (.beginFrame) s = .next t
        ∧ t = { s with link := { s.link with status := false, sending := some { slot := .status,
                                                                                frame := (Frame.status s.statusFrame).sealed, offer := none, newer := false }, bus := .waiting false } }
        ∧ t.link.sending.map (fun f => f.frame.kindCode) = some (if s.urgent then 0 else 3))
  ∧ (∀ (s : State) (p : Fin 4),
      s.live = true →
      s.start.phase = .run →
      s.link.quiet = false →
      s.link.bus = .idle →
      s.link.sending = none →
      ¬(s.link.status = true ∧ s.timers.t16.running = false ∧ (s.fire.state ≠ .clear ∨ s.watch.intrusion = true
        ∨ s.fire.evac = true)) →
      s.link.calls[p] = true →
      (∀ q : Fin 4, q < p → s.link.calls[q] = false) →
      ∃ t, exec (.beginFrame) s = .next t
        ∧ t = { s with link := { s.link with calls := s.link.calls.set p false,
                                             sending := some { slot := .call p,
                                                               frame := (Frame.call (s.callFrame p)).sealed, offer := none,
                                                               newer := false }, bus := .waiting false } })
  ∧ (∀ (s : State) (id : CallId),
      s.live = true →
      s.start.phase = .run →
      s.link.quiet = false →
      s.link.bus = .idle →
      s.link.sending = none →
      ¬(s.link.status = true ∧ s.timers.t16.running = false ∧ (s.fire.state ≠ .clear ∨ s.watch.intrusion = true
        ∨ s.fire.evac = true)) →
      (∀ q : Fin 4, s.link.calls[q] = false) →
      s.link.offer = some id →
      ∃ t, exec (.beginFrame) s = .next t
        ∧ t = { s with link := { s.link with offer := none, sending := some { slot := .answer,
                                                                              frame := (Frame.answer (s.answerFrame id)).sealed, offer := some id, newer := false }, bus := .waiting false } })
  ∧ (∀ (s : State),
      (s.live = false ∨ s.start.phase ≠ .run ∨ s.link.quiet = true ∨ s.link.bus ≠ .idle ∨ s.link.sending.isSome = true
        ∨ ((∀ q : Fin 4, s.link.calls[q] = false) ∧ s.link.offer = none ∧ (s.link.status = false
        ∨ s.timers.t16.running = true))) →
      ∃ t, exec (.beginFrame) s = .next t
        ∧ t = s)
  ∧ (∀ s : State,
    (s.statusFrame.urgent = true ↔ s.fire.state ≠ .clear ∨ s.watch.intrusion = true ∨ s.fire.evac = true)
    ∧ s.statusFrame.source = s.own
    ∧ s.statusFrame.fire = (match s.fire.state with
        | .clear => 0
        | .prealarm => 1
        | .verify => 2
        | .fire => 3)
    ∧ s.statusFrame.guard = (match s.watch.guard with
        | .opened => 0
        | .setting => 1
        | .watching => 2)
    ∧ s.statusFrame.intrusion = s.watch.intrusion ∧ s.statusFrame.round = s.watch.round
      ∧ s.statusFrame.evacuation = s.fire.evac
    ∧ (s.statusFrame.trouble = true ↔ s.troubles.record ≠ []) ∧ s.statusFrame.epoch = s.modes.epoch
    ∧ (s.egress.cost ≤ 255 → s.statusFrame.cost.toNat = s.egress.cost) ∧ s.statusFrame.via = s.egress.via
    ∧ s.statusFrame.mode = (match s.modes.mode with
        | .pub => 0
        | .closed => 1
        | .night => 2)
    ∧ (∀ d : Fin 4, (s.door d).desc.kind ≠ .blank → (s.door d).desc.owned = true →
        s.statusFrame.doors[d].getLsbD 3 = true ∧ (s.statusFrame.doors[d].getLsbD 2 = true ↔ (s.door d).lock = .free)
        ∧ ((s.door d).position = some .closed → s.statusFrame.doors[d].extractLsb' 0 2 = 0)
        ∧ ((s.door d).position = some .opened → s.statusFrame.doors[d].extractLsb' 0 2 = 1)
        ∧ ((s.door d).position = some .unknown → s.statusFrame.doors[d].extractLsb' 0 2 = 2))
    ∧ (∀ d : Fin 4, (s.door d).desc.kind = .blank ∨ (s.door d).desc.owned = false → s.statusFrame.doors[d] = 0)
    ∧ (∀ p : Fin 4, (s.callFrame p).source = s.own ∧ (s.callFrame p).point.toNat = p.val ∧ (s.callFrame p).spare = 0
        ∧ ((s.point p).state = .idle → (s.callFrame p).state = 2 ∧ (s.callFrame p).level = 0 ∧ (s.callFrame p).answerer = 0)
        ∧ ((s.point p).state = .waiting → (s.callFrame p).state = 0 ∧ (s.callFrame p).answerer = 0)
        ∧ ((s.point p).state = .answered → (s.callFrame p).state = 1 ∧ (s.callFrame p).answerer = (s.point p).answerer)
        ∧ ((s.point p).state ≠ .idle → (s.point p).level ≤ 15 → (s.callFrame p).level.toNat = (s.point p).level))
    ∧ (∀ id : CallId, (s.answerFrame id).source = s.own ∧ (s.answerFrame id).origin = id.origin
        ∧ (s.answerFrame id).point.toNat = id.point.val ∧ (s.answerFrame id).spare1 = 0 ∧ (s.answerFrame id).spare2 = 0))

/-- FRAME_SENT ends the frame under way with the fault count 0, and a STATUS starts T16 with 0.1 s. LOST_ARBITRATION at a
header bit sent recessive, and TRANSMIT_FAULT at a bit whose read-back may differ (bits as assumption 28 counts them), end it,
and the station follows the rest as a receiver; at a fault of the start bit the bus has stayed recessive, there is nothing to
follow, and the next idle is waited for (assumption 46). Its STATUS or CALL slot is pending again; a failed offer is unsent in
the ANSWER slot again, but where a newer one was loaded during the frame it is lost: its entry's offered flag is cleared,
unless that newer offer is for the same entry (assumption 20), and the slot stays as it is. A lost frame leaves the fault
count; a fault raises it, and the third in a row gives QUIET for 10 s with count 0 and LINK-DRIVE in the record. With no frame
under way, or at a bit where the event cannot be, nothing changes, which is the model's choice (assumptions 9, 28). -/
def Obligations.FrameOutcomesKeepOrLoseTheMark : Prop :=
  (∀ (s : State) (f : Sending),
      s.live = true →
      s.start.request = .none →
      s.link.sending = some f →
      ∃ t, exec (.frameSent) s = .next t
        ∧ (f.slot = .status → s.start.phase = .run → t.channel .t16 = Channel.fresh 10 .ms10 .oneShot 0)
        ∧ (f.slot ≠ .status → t.timers = s.timers)
        ∧ (∀ c ∈ Chan.all, c ≠ .t16 → t.channel c = s.channel c)
        ∧ t = { s with timers := t.timers, link := { s.link with sending := none, faults := 0, bus := .waiting false } })
  ∧ (∀ (s : State),
      s.link.sending = none →
      ∃ t, exec (.frameSent) s = .next t
        ∧ t = s)
  ∧ (∀ (s : State) (f : Sending) (b : Fin 8),
      s.live = true →
      s.start.request = .none →
      s.link.sending = some f →
      f.slot ≠ .answer →
      (headerByte f.frame.kindCode f.frame.source).getLsbD b = true →
      ∃ t, exec (.lostArbitration b) s = .next t
        ∧ t = { s with link := { s.link with sending := none, bus := .following,
                                             status := s.link.status || f.slot == .status, calls := t.link.calls } }
        ∧ (∀ p : Fin 4, t.link.calls[p] = (s.link.calls[p] || f.slot == .call p)))
  ∧ (∀ (s : State) (f : Sending) (b : Fin 8) (id : CallId),
      s.live = true →
      s.start.request = .none →
      s.link.sending = some f →
      f.slot = .answer →
      f.offer = some id →
      (headerByte f.frame.kindCode f.frame.source).getLsbD b = true →
      ∃ t, exec (.lostArbitration b) s = .next t
        ∧ t = { s with link := { s.link with sending := none, bus := .following,
                                             offer := if f.newer then s.link.offer else some id },
                       calls := { s.calls with list := if f.newer = true ∧ s.link.offer ≠ some id then s.calls.list.map (fun e => if e.id = id then { e with offered := false } else e) else s.calls.list } })
  ∧ (∀ (s : State) (b : Fin 8),
      (s.live = false ∨ s.link.sending = none ∨ (∃ f, s.link.sending = some f
        ∧ (headerByte f.frame.kindCode f.frame.source).getLsbD b = false)) →
      ∃ t, exec (.lostArbitration b) s = .next t
        ∧ t = s)
  ∧ (∀ (s : State) (f : Sending) (b : Nat),
      s.live = true →
      s.start.request = .none →
      s.link.sending = some f →
      f.slot ≠ .answer →
      f.mayFault b = true →
      s.link.faults < 2 →
      ∃ t, exec (.transmitFault b) s = .next t
        ∧ t = { s with link := { s.link with sending := none, bus := if b = 0 then .recessive else .following,
                                             faults := s.link.faults + 1, status := s.link.status || f.slot == .status,
                                             calls := t.link.calls } }
        ∧ (∀ p : Fin 4, t.link.calls[p] = (s.link.calls[p] || f.slot == .call p)))
  ∧ (∀ (s : State) (f : Sending) (b : Nat) (id : CallId),
      s.live = true →
      s.start.request = .none →
      s.link.sending = some f →
      f.slot = .answer →
      f.offer = some id →
      f.mayFault b = true →
      s.link.faults < 2 →
      ∃ t, exec (.transmitFault b) s = .next t
        ∧ t = { s with link := { s.link with sending := none, bus := if b = 0 then .recessive else .following,
                                             faults := s.link.faults + 1,
                                             offer := if f.newer then s.link.offer else some id },
                       calls := { s.calls with list := if f.newer = true ∧ s.link.offer ≠ some id then s.calls.list.map (fun e => if e.id = id then { e with offered := false } else e) else s.calls.list } })
  ∧ (∀ (s : State) (f : Sending) (b : Nat),
      s.live = true →
      s.start.request = .none →
      s.link.sending = some f →
      f.mayFault b = true →
      2 ≤ s.link.faults →
      ∃ t, exec (.transmitFault b) s = .next t
        ∧ t.link = { s.link with sending := none, bus := if b = 0 then .recessive else .following, faults := 0,
                                 quiet := true, status := t.link.status, calls := t.link.calls, offer := t.link.offer }
        ∧ Trouble.linkDrive ∈ t.troubles.record
        ∧ (s.start.phase = .run → t.channel .t19 = Channel.fresh 100 .ms100 .oneShot 0)
        ∧ (∀ c ∈ Chan.all, c ≠ .t19 → t.channel c = s.channel c)
        ∧ (s.link.status = true ∨ f.slot = .status → t.link.status = true)
        ∧ (∀ p : Fin 4, t.link.calls[p] = (s.link.calls[p] || f.slot == .call p))
        ∧ (f.slot ≠ .answer → t.link.offer = s.link.offer ∧ t.calls = s.calls)
        ∧ (∀ id, f.slot = .answer → f.offer = some id → t.link.offer = (if f.newer then s.link.offer else some id)
          ∧ t.calls = { s.calls with list := if f.newer = true ∧ s.link.offer ≠ some id then s.calls.list.map (fun e => if e.id = id then { e with offered := false } else e) else s.calls.list })
        ∧ t = { s with timers := t.timers, link := t.link, troubles := t.troubles, buzzer := t.buzzer, calls := t.calls })
  ∧ (∀ (s : State) (b : Nat),
      (s.live = false ∨ s.link.sending = none ∨ (∃ f, s.link.sending = some f ∧ f.mayFault b = false)) →
      ∃ t, exec (.transmitFault b) s = .next t
        ∧ t = s)

/-- The expiry of T15 marks STATUS and the CALL slot of every open point and no other; that of T16, a one-shot channel, leaves
it halted and changes nothing else; that of T19 in QUIET ends QUIET. BUS_IDLE finds the bus idle, also after a fault at an own
start bit; while a frame of this station is under way or another's is followed, it changes nothing (assumptions 9, 11). The
end of a one-shot pattern takes it away, or begins the next queued presentation, and is itself an end that the station's own
tick has raised and nobody has taken yet (assumption 29). Each changes nothing else, and without its channel running, or its
pattern present, nothing (assumption 9). -/
def Obligations.LinkTimersBusAndBuzzerRunOn : Prop :=
  (∀ (s : State),
      s.live = true →
      (s.channel .t15).mayExpire = true →
      ∃ t, exec (.refreshExpiry) s = .next t
        ∧ t.link = { s.link with status := true, calls := t.link.calls }
        ∧ (∀ p : Fin 4, t.link.calls[p] = (s.link.calls[p] || (s.point p).isOpen))
        ∧ (∀ c ∈ Chan.all, c ≠ .t15 → t.channel c = s.channel c)
        ∧ t = { s with timers := t.timers, link := t.link })
  ∧ (∀ (s : State),
      (s.channel .t15).mayExpire = false →
      ∃ t, exec (.refreshExpiry) s = .next t
        ∧ t = s)
  ∧ (∀ (s : State),
      s.live = true →
      (s.channel .t16).mayExpire = true →
      ∃ t, exec (.statusPacingExpiry) s = .next t
        ∧ ((s.channel .t16).kind = .oneShot → (s.channel .t16).waiting = [] ∨ (s.channel .t16).running = false →
          (t.channel .t16).running = false)
        ∧ (∀ c ∈ Chan.all, c ≠ .t16 → t.channel c = s.channel c)
        ∧ t = { s with timers := t.timers })
  ∧ (∀ (s : State),
      (s.channel .t16).mayExpire = false →
      ∃ t, exec (.statusPacingExpiry) s = .next t
        ∧ t = s)
  ∧ (∀ (s : State),
      s.live = true →
      s.link.quiet = true →
      (s.channel .t19).mayExpire = true →
      ∃ t, exec (.quietPeriodExpiry) s = .next t
        ∧ (∀ c ∈ Chan.all, c ≠ .t19 → t.channel c = s.channel c)
        ∧ t = { s with timers := t.timers, link := { s.link with quiet := false } })
  ∧ (∀ (s : State),
      (s.link.quiet = false ∨ (s.channel .t19).mayExpire = false) →
      ∃ t, exec (.quietPeriodExpiry) s = .next t
        ∧ t = s)
  ∧ (∀ (s : State),
      s.live = true →
      s.link.sending = none →
      s.link.bus ≠ .following →
      ∃ t, exec (.busIdle) s = .next t
        ∧ t = { s with link := { s.link with bus := .idle } })
  ∧ (∀ (s : State),
      (s.live = false ∨ s.link.sending.isSome = true ∨ s.link.bus = .following) →
      ∃ t, exec (.busIdle) s = .next t
        ∧ t = s)
  ∧ (∀ (s : State) (o : OneShot),
      s.live = true →
      (s.buzzer.oneShot o).age.isSome = true →
      ∃ t, exec (.buzzerPatternEnd o) s = .next t
        ∧ (t.buzzer.oneShot o = if (s.buzzer.oneShot o).queued = 0 then { s.buzzer.oneShot o with age := none }
          else { age := some 0, queued := (s.buzzer.oneShot o).queued - 1 })
        ∧ (∀ q, q ≠ o → t.buzzer.oneShot q = s.buzzer.oneShot q)
        ∧ (t.buzzer.verify = s.buzzer.verify ∧ t.buzzer.trouble = s.buzzer.trouble)
        ∧ t = { s with buzzer := t.buzzer, raised := s.raised.erase (.buzzerPatternEnd o) })
  ∧ (∀ (s : State) (o : OneShot),
      s.live = true →
      (s.buzzer.oneShot o).age = none →
      ∃ t, exec (.buzzerPatternEnd o) s = .next t
        ∧ t = { s with raised := s.raised.erase (.buzzerPatternEnd o) })
  ∧ (∀ (s : State) (o : OneShot),
      s.live = false →
      ∃ t, exec (.buzzerPatternEnd o) s = .next t
        ∧ t = s)

/-- A frame is good exactly if its check byte is the one computed, its source is not 0, 63 or the own number, and it is not a
CALL of state 3. A frame can be received while one is followed, or the bus is idle or has stayed recessive under an own start
bit (assumption 46), and none of this station is under way; one received on the idle bus is begun and ended there (assumption
11). A frame that is not good, and bits that make no frame: the discard count rises by 1 up to 8, LINK-NOISE is in the record
at 8, DUPLICATE for an own source, even if the check fails too (assumption 19), and nothing else changes but STATUS, buzzer
and the wait for the idle bus. Where no frame can be received, frames and stray bits alike are dominant bits before the bus is
idle: the first since a frame ended are one discarded frame, and those behind them, or behind a broken frame, count no more
(assumption 42); while a frame is followed or sent, or on such a bus, strays change nothing. A start bit there, which
FRAME_DISCARDED carries (assumption 11), is followed, no frame of this station being under way, and BEGIN_FRAME then begins
nothing. Bits that make a frame are taken as that frame (assumption 24). Outside LISTEN, RELEARN and RUN a frame is only
followed (assumption 25); in a reset condition nothing changes. -/
def Obligations.DiscardedFramesAreCountedAndDeliverNothing : Prop :=
  (∀ (fr : Frame) (own : Station), fr.isBad own = false ↔
    fr.check = crc fr.body ∧ fr.source ≠ 0 ∧ fr.source ≠ 63 ∧ fr.source ≠ own ∧ (∀ f, fr = .call f → f.state ≠ 3))
  ∧ (∀ l : LinkUnit, l.receives = true ↔ l.sending = none ∧ (l.bus = .idle ∨ l.bus = .following ∨ l.bus = .recessive))
  ∧ (∀ (s : State) (l : List Bool),
      s.hearing = true →
      s.link.receives = true →
      Frame.ofBits l = none →
      ∃ t, exec (.frameDiscarded (.bits l)) s = .next t
        ∧ t.link = { s.link with bus := .waiting true, discards := min 8 (s.link.discards + 1), status := t.link.status }
        ∧ t = { s with link := t.link, troubles := t.troubles, buzzer := t.buzzer }
        ∧ (7 ≤ s.link.discards → Trouble.linkNoise ∈ t.troubles.record)
        ∧ (s.link.discards < 7 → t.troubles = s.troubles))
  ∧ (∀ (s : State) (l : List Bool),
    (∀ f, Frame.ofBits l = some (.status f) → exec (.frameDiscarded (.bits l)) s = exec (.receivedStatus f) s)
    ∧ (∀ f, Frame.ofBits l = some (.call f) → exec (.frameDiscarded (.bits l)) s = exec (.receivedNotice f) s)
    ∧ (∀ f, Frame.ofBits l = some (.answer f) → exec (.frameDiscarded (.bits l)) s = exec (.receivedOffer f) s))
  ∧ (∀ (s : State) (f : StatusFrame),
      s.hearing = true →
      s.link.receives = true →
      (Frame.status f).isBad s.own = true →
      ∃ t, exec (.receivedStatus f) s = .next t
        ∧ t.link = { s.link with bus := .waiting false, discards := min 8 (s.link.discards + 1), status := t.link.status }
        ∧ t = { s with link := t.link, troubles := t.troubles, buzzer := t.buzzer }
        ∧ (7 ≤ s.link.discards → Trouble.linkNoise ∈ t.troubles.record)
        ∧ (f.source = s.own → Trouble.duplicate ∈ t.troubles.record)
        ∧ (s.link.discards < 7 → f.source ≠ s.own → t.troubles = s.troubles))
  ∧ (∀ (s : State) (f : CallFrame),
      s.hearing = true →
      s.link.receives = true →
      (Frame.call f).isBad s.own = true →
      ∃ t, exec (.receivedNotice f) s = .next t
        ∧ t.link = { s.link with bus := .waiting false, discards := min 8 (s.link.discards + 1), status := t.link.status }
        ∧ t = { s with link := t.link, troubles := t.troubles, buzzer := t.buzzer }
        ∧ (7 ≤ s.link.discards → Trouble.linkNoise ∈ t.troubles.record)
        ∧ (f.source = s.own → Trouble.duplicate ∈ t.troubles.record)
        ∧ (s.link.discards < 7 → f.source ≠ s.own → t.troubles = s.troubles))
  ∧ (∀ (s : State) (f : AnswerFrame),
      s.hearing = true →
      s.link.receives = true →
      (Frame.answer f).isBad s.own = true →
      ∃ t, exec (.receivedOffer f) s = .next t
        ∧ t.link = { s.link with bus := .waiting false, discards := min 8 (s.link.discards + 1), status := t.link.status }
        ∧ t = { s with link := t.link, troubles := t.troubles, buzzer := t.buzzer }
        ∧ (7 ≤ s.link.discards → Trouble.linkNoise ∈ t.troubles.record)
        ∧ (f.source = s.own → Trouble.duplicate ∈ t.troubles.record)
        ∧ (s.link.discards < 7 → f.source ≠ s.own → t.troubles = s.troubles))
  ∧ (∀ (s : State) (c : Instr),
      s.hearing = true →
      s.link.sending = none →
      s.link.bus = .waiting false →
      ((∃ f, c = .receivedStatus f) ∨ (∃ f, c = .receivedNotice f) ∨ (∃ f, c = .receivedOffer f) ∨ ∃ a,
        c = .frameDiscarded a) →
      ∃ t, exec (c) s = .next t
        ∧ t.link = { s.link with bus := .waiting true, discards := min 8 (s.link.discards + 1), status := t.link.status }
        ∧ t = { s with link := t.link, troubles := t.troubles, buzzer := t.buzzer }
        ∧ (7 ≤ s.link.discards → Trouble.linkNoise ∈ t.troubles.record)
        ∧ (s.link.discards < 7 → t.troubles = s.troubles))
  ∧ (∀ (s : State) (c : Instr),
      (s.link.bus = .waiting true ∨ s.link.sending.isSome = true) →
      ((∃ f, c = .receivedStatus f) ∨ (∃ f, c = .receivedNotice f) ∨ (∃ f, c = .receivedOffer f) ∨ ∃ a,
        c = .frameDiscarded a) →
      ∃ t, exec (c) s = .next t
        ∧ t = s)
  ∧ (∀ (s : State),
      (s.link.bus = .idle ∨ s.link.bus = .following ∨ s.link.bus = .recessive) →
      ∃ t, exec (.frameDiscarded .stray) s = .next t
        ∧ t = s)
  ∧ (∀ (s : State),
      s.live = true →
      s.link.sending = none →
      (s.link.bus = .idle ∨ s.link.bus = .recessive) →
      ∃ t, exec (.frameDiscarded .startBit) s = .next t
        ∧ t = { s with link := { s.link with bus := .following } }
        ∧ exec .beginFrame t = .next t)
  ∧ (∀ (s : State),
      s.link.bus = .following →
      ∃ t, exec (.frameDiscarded .startBit) s = .next t
        ∧ t = s)
  ∧ (∀ (s : State) (c : Instr),
      s.hearing = false →
      s.link.receives = true →
      ((∃ f, c = .receivedStatus f) ∨ (∃ f, c = .receivedNotice f) ∨ (∃ f, c = .receivedOffer f) ∨ ∃ l,
        c = .frameDiscarded (.bits l)) →
      ∃ t, exec (c) s = .next t
        ∧ (s.live = true → t = { s with link := { s.link with bus := t.link.bus } } ∧ ∃ counted,
          t.link.bus = .waiting counted)
        ∧ (s.live = false → t = s))
  ∧ (∀ (s : State) (c : Instr),
      s.hearing = false →
      s.live = true →
      s.link.sending = none →
      s.link.bus = .waiting false →
      ((∃ f, c = .receivedStatus f) ∨ (∃ f, c = .receivedNotice f) ∨ (∃ f, c = .receivedOffer f) ∨ ∃ a,
        c = .frameDiscarded a) →
      ∃ t, exec (c) s = .next t
        ∧ t = { s with link := { s.link with bus := .waiting true } })

/-- For every frame: reading its bytes gives the frame; reading the bits that follow its start bit on the bus gives the frame,
and so does reading them with recessive bits of silence behind; and the frame as its sender completes it passes the check. -/
def Obligations.FramesSurviveTheWire : Prop :=
  ∀ fr : Frame, Frame.ofBytes fr.bytes = some fr ∧ Frame.ofBits (fr.wire.drop 1) = some fr
    ∧ (∀ n : Nat, Frame.ofBits (fr.wire.drop 1 ++ List.replicate n true) = some fr) ∧ fr.sealed.checkOk = true

/-- For all bytes before and after it, changing one byte of a message changes its check byte; and the ANSWER by which station
14 offers to attend point 0 of station 12 has the bytes 0x8E, 0x0C, 0x00, 0xDB. -/
def Obligations.CheckByteFindsEveryChangedByte : Prop :=
  (∀ (before after : List Byte) (b c : Byte), b ≠ c → crc (before ++ b :: after) ≠ crc (before ++ c :: after))
    ∧ (Frame.answer { source := 14, spare1 := 0, origin := 12, spare2 := 0, point := 0, check := 0 }).sealed.bytes = [0x8E,
      0x0C, 0x00, 0xDB]

/-- For a channel started with reload n of 1 or more: before the n-th tick of its rate its count is what is left and no expiry
waits; at the n-th tick the expiry waits; a ONE-SHOT channel is then halted at 0 and stays so, a PERIODIC one runs from its
reload. A compare value c from 1 to n-1 is met exactly once on the way, before the expiry; c = 0 and c of n or more raise
nothing. A load of 0 is taken as 1. A stop holds the count and withdraws what waits; a resume goes on from it. -/
def Obligations.ChannelsCountTheirReloadDown : Prop :=
  (∀ (n k c : Nat) (rate : TickRate) (kind : ChanKind), 1 ≤ n → k < n →
      (Channel.tick^[k] (Channel.fresh n rate kind c)) =
        { Channel.fresh n rate kind c with count := n - k,
                                           waiting := if 1 ≤ c ∧ c < n ∧ n - k ≤ c then [.compare] else [] })
    ∧ (∀ (n c : Nat) (rate : TickRate) (kind : ChanKind), 1 ≤ n →
      (Channel.tick^[n] (Channel.fresh n rate kind c)) =
        { Channel.fresh n rate kind c with
          count := if kind = .oneShot then 0 else n, running := (kind == .periodic)
          waiting := (if 1 ≤ c ∧ c < n then [.compare] else []) ++ [.expiry] })
    ∧ (∀ ch : Channel, ch.running = false → ch.tick = ch)
    ∧ (∀ (ch : Channel) (rate : TickRate) (kind : ChanKind) (c : Nat), ch.start 0 rate kind c = Channel.fresh 1 rate kind c)
    ∧ (∀ (ch : Channel) (n : Nat) (rate : TickRate) (kind : ChanKind) (c : Nat), 1 ≤ n →
      ch.start n rate kind c = Channel.fresh n rate kind c)
    ∧ (∀ ch : Channel, ch.stop = { ch with running := false, waiting := [] })
    ∧ (∀ ch : Channel, ch.running = false → ch.count ≠ 0 → ch.resume = { ch with running := true })

/-- One 10 ms tick in no reset condition: the free-running sources move by one; a channel with a 10 ms tick counts, one with
100 ms or 1 s counts exactly where that source comes round; the third agreeing sample of a loop, a watch input, a door
position, a call button or a key raises its event: BAND_CHANGE, WATCH_BAND_CHANGE, FIRST_READING of a door not read yet and
POSITION_CHANGE of another, CALL_BUTTON_PRESSED, the key, KEY_CHANGE for a position other than the one kept; a filter of a
button or key that holds pressed raises nothing, and its third open sample releases it; and a loop's band, the fire state,
doors' positions, phases and outputs, calls, table, egress result, scene stack, transmit marks, modes but for the key filter,
start unit, troubles, queue and lines are unchanged, but that the closed line of a sampled button or key may open, as the free
order draws it, which without a closed line is unchanged (assumption 10). In a reset condition only the sources move, which is
the model's choice (assumption 7), the buzzer's own rhythm standing there (assumption 41). -/
def Obligations.TickCountsAndSamplesAndDecidesNothing : Prop :=
  (∀ s : State, s.live = true →
      s.tick.clock = { hundred := s.clock.hundred + 1, second := s.clock.second + 1, sampling := s.clock.sampling + 1,
                       keySampling := s.clock.keySampling + 1, lighting := s.clock.lighting + 1, panel :=
                         s.clock.panel + 2 }
      ∧ (∀ c ∈ Chan.all, s.tick.channel c =
          if (s.channel c).rate = .ms10 ∨ ((s.channel c).rate = .ms100 ∧ s.clock.hundred = 9)
            ∨ ((s.channel c).rate = .s1 ∧ s.clock.second = 99) then (s.channel c).tick else s.channel c)
      ∧ s.tick.modes = { s.modes with keyReading := s.tick.modes.keyReading, keyFilter := s.tick.modes.keyFilter }
      ∧ s.tick.fire = { s.fire with loops := s.tick.fire.loops }
      ∧ (∀ l : Fin 6, s.tick.fire.loops[l] = { s.fire.loops[l] with filter := s.tick.fire.loops[l].filter })
      ∧ s.tick.watch = { s.watch with inputs := s.tick.watch.inputs, buttons := s.tick.watch.buttons }
      ∧ (∀ i : Fin 8, s.tick.watch.inputs[i] = { s.watch.inputs[i] with filter := s.tick.watch.inputs[i].filter })
      ∧ (∀ d : Fin 4, s.tick.door d = { s.door d with filter := (s.tick.door d).filter })
      ∧ s.tick = { s with clock := s.tick.clock, timers := s.tick.timers, modes := s.tick.modes, fire := s.tick.fire,
                          watch := s.tick.watch, doors := { s.doors with records := s.tick.doors.records },
                          buzzer := s.tick.buzzer, keys := s.tick.keys, raised := s.tick.raised,
                          pins := { s.tick.pins with loops := s.pins.loops, watch := s.pins.watch, doors := s.pins.doors,
                                                     mode := s.pins.mode, reset := s.pins.reset,
                                                     holdHigh := s.pins.holdHigh }, order := s.tick.order }
      ∧ (∀ p : Fin 4, s.tick.pins.buttons[p] ≠ s.pins.buttons[p] →
          s.pins.buttons[p] = true ∧ s.hearing = true ∧ s.clock.sampling = 9 ∧ s.pointFitted p = true)
      ∧ (∀ k : PanelKey, s.tick.pins.key k ≠ s.pins.key k →
          s.pins.key k = true ∧ (if k = .passage then s.hearing else s.keyed) = true ∧ s.clock.keySampling = 1)
      ∧ ((∀ p : Fin 4, s.pins.buttons[p] = false) → (∀ k : PanelKey, s.pins.key k = false) → s.tick.order = s.order)
      ∧ (∀ e ∈ s.raised, e ∈ s.tick.raised)
      ∧ (∀ l : Fin 6, s.hearing = true → s.clock.sampling = 9 → s.fire.loops[l].kind ≠ .unused →
          readByKind s.fire.loops[l].kind (loopBandOf s.pins.loops[l]) ≠ s.fire.loops[l].band →
          s.fire.loops[l].filter = { candidate := some (readByKind s.fire.loops[l].kind (loopBandOf s.pins.loops[l])),
                                     count := 2 } →
          Instr.bandChange l s.pins.loops[l] ∈ s.tick.raised)
      ∧ (∀ i : Fin 8, s.hearing = true → s.clock.sampling = 9 → s.watch.inputs[i].kind ≠ .unused →
          watchBandOf s.pins.watch[i] ≠ s.watch.inputs[i].band →
          s.watch.inputs[i].filter = { candidate := some (watchBandOf s.pins.watch[i]), count := 2 } →
          Instr.watchBandChange i s.pins.watch[i] ∈ s.tick.raised)
      ∧ (∀ d : Fin 4, s.hearing = true → s.clock.sampling = 9 → (s.door d).desc.isOwned = true →
          (s.door d).position ≠ some (positionOf s.pins.doors[d]) →
          (s.door d).filter = { candidate := some (positionOf s.pins.doors[d]), count := 2 } →
          (if (s.door d).position = none then Instr.firstReading d s.pins.doors[d] else .positionChange d s.pins.doors[d])
            ∈ s.tick.raised)
      ∧ (∀ p : Fin 4, s.hearing = true → s.clock.sampling = 9 → s.pointFitted p = true →
          s.tick.pins.buttons[p] = true → s.watch.buttons[p] = thirdPress →
          Instr.callButtonPressed p ∈ s.tick.raised)
      ∧ (∀ p : Fin 4, s.hearing = true → s.clock.sampling = 9 → s.pointFitted p = true →
          s.tick.pins.buttons[p] = false → s.watch.buttons[p] = thirdRelease → s.tick.watch.buttons[p] = .released)
      ∧ (∀ p : Fin 4, s.tick.watch.buttons[p].pressed = true → s.watch.buttons[p].pressed = true)
      ∧ (∀ p : Fin 4, s.watch.buttons[p].pressed = true → Instr.callButtonPressed p ∈ s.tick.raised →
          Instr.callButtonPressed p ∈ s.raised)
      ∧ (∀ k : PanelKey, (if k = .passage then s.hearing else s.keyed) = true → s.clock.keySampling = 1 →
          (s.tick.pins.key k = true → s.keys.get k = thirdPress → k.command ∈ s.tick.raised)
          ∧ (s.tick.pins.key k = false → s.keys.get k = thirdRelease → s.tick.keys.get k = .released))
      ∧ (∀ k : PanelKey, ((s.tick.keys.get k).pressed = true → (s.keys.get k).pressed = true)
          ∧ ((s.keys.get k).pressed = true → k.command ∈ s.tick.raised → k.command ∈ s.raised)
          ∧ ((if k = .passage then s.hearing else s.keyed) = false → s.tick.keys.get k = s.keys.get k))
      ∧ (∀ m : Mode, s.clock.keySampling = 1 → s.pins.mode ≠ s.modes.keyReading →
          s.modes.keyFilter = { candidate := some s.pins.mode, count := 2 } → keyPositionOf s.pins.mode = some m →
          m ≠ s.modes.keyPosition → Instr.keyChange m ∈ s.tick.raised))
    ∧ (∀ s : State, s.live = false → s.tick = { s with clock := s.tick.clock })

/-- From every state in which the evacuation flag is set exactly when the own fire state is FIRE or the fire roster is
non-empty, every step that answers a next state leaves it so. -/
def Obligations.EvacuationFlagFollowsFireAndRoster : Prop :=
  ∀ s t : State, s.EvacuationSound → step s = .next t → t.EvacuationSound

/-- From every state in which phase and first loop are present exactly in VERIFY and VERIFY stands only in PUBLIC, every step
that answers a next state leaves it so. -/
def Obligations.VerificationStandsInPublicAlone : Prop :=
  ∀ s t : State, s.VerificationSound → step s = .next t → t.VerificationSound

/-- From every state in which a frame of this station is under way in RUN alone, every step that answers a next state leaves
it so. From every such state in which moreover the guard state is OPEN outside NIGHT and SETTING or WATCHING in NIGHT (but
OPEN in the CONFIG-READ of a cold start, which has no image), and a round is walked in WATCHING alone, every step that answers
a next state leaves that so. -/
def Obligations.GuardStateFitsTheMode : Prop :=
  (∀ s t : State, s.SendingSound → step s = .next t → t.SendingSound)
  ∧ (∀ s t : State, s.SendingSound → s.GuardSound → step s = .next t → t.GuardSound)

/-- From every state in which the bottom scene is the base scene of the mode, no scene stands twice, the stack holds at most
the configured depth of at least 3, in CONFIG-READ nothing but INTRUSION and EVACUATE above the base, and EVACUATE is in the
stack exactly while the evacuation flag is set and is then on top, every step that answers a next state leaves it so. -/
def Obligations.SceneStackKeepsItsOrder : Prop :=
  ∀ s t : State, s.StackSound → step s = .next t → t.StackSound

/-- From every state in which the fire roster names no station twice, never this station, and nobody in CONFIG-READ and
UNCONFIGURED, every step that answers a next state leaves it so. -/
def Obligations.RosterNamesOtherStationsOnce : Prop :=
  ∀ s t : State, s.RosterSound → step s = .next t → t.RosterSound

/-- From every state in which the weights are at least 1, every EXIT door is owned, the own cost is 1 to 200 with a chosen
door or 255 without one, the result is computed only in RUN, and a computed chosen door gives that cost by the inputs as they
stand, every step that answers a next state leaves it so. -/
def Obligations.EgressResultStaysTrue : Prop :=
  ∀ s t : State, s.EgressSound → step s = .next t → t.EgressSound

/-- From every state in which the evacuation flag follows fire and roster and ends any freeze, the claim levels are at most
15, and each door has a phase that fits its position, a FREE lock during an evacuation, LOCKED only when closed, unsensed or
FORCED, HOLDING only with a magnet and outside a freeze only in PUBLIC without evacuation, and FREE and DROPPED while not
owned or not read, every step that answers a next state leaves it so. -/
def Obligations.DoorsStayFreeInAFire : Prop :=
  ∀ s t : State, s.DoorsSound → step s = .next t → t.DoorsSound

/-- From every state in which the call list has at most 16 entries, one per identity, in falling order of level, local exactly
when the origin is this station, and with the local entries exactly those of the open points with their level, state and
answerer, every step that answers a next state leaves it so. -/
def Obligations.CallListStandsForTheOpenPoints : Prop :=
  ∀ s t : State, s.CallsSound → step s = .next t → t.CallsSound

/-- From every state in which the fire roster is sound (as in RosterNamesOtherStationsOnce), the doors are sound (as in
DoorsStayFreeInAFire) and each owned door that has been read and is not frozen has the resolved lock unless it stands OPEN,
and the hold output that the resolved hold, its magnet, its deferred flag and its phase give, with every door held over in the
CONFIG-READ of a warm restart, frozen or in an evacuation, and none read in that of a cold start, every step that answers a
next state leaves it so: after an ALERT, a RESTORE, a mode change, a PASSAGE, a change of the evacuation flag or of a
neighbour's intrusion flag, and every other event. -/
def Obligations.DoorOutputsFollowTheResolution : Prop :=
  ∀ s t : State, s.RosterSound → s.DoorsSound → s.DoorsFollow → step s = .next t → t.DoorsFollow

/-- From every state in which the outputs of the lighting unit are the forced setting in a cold reset, in the CONFIG-READ of a
cold start and in UNCONFIGURED, and elsewhere, while not frozen, what the top scene of the stack sets from the verdicts, the
own cost and the sounder-silenced flag, every step that answers a next state leaves it so. -/
def Obligations.LightingFollowsTheSceneOnTop : Prop :=
  ∀ s t : State, s.LightsFollow → step s = .next t → t.LightsFollow

/-- A call point lamp is OFF in IDLE, FLASH or with hurry FAST in WAITING, STEADY in ANSWERED. FIRE shows steady in FIRE, else
flash with a non-empty roster, else slow flash in VERIFY, else off; WATCH steady with the intrusion latch, else slow flash
with the local latch, else off; CALL steady with an entry answered by this station, else flash with a WAITING entry, else off;
TROUBLE steady with a non-empty record, else off. Slow is 1 s, flash 0.5 s and fast 0.125 s lit and dark in turn, from one
phase counted in 5 ms; gallery lamp and cross flash 0.5 s and the sounder pulses 1 s from another, counted in 10 ms. The
buzzer sounds the highest pattern present: VERIFY 0.25 s on and off; REFUSE and CALL chirp throughout; WARNING in its first
and third 0.1 s; TROUBLE 0.1 s in each 2 s; none, silence. A presentation is present at once or queued, up to four, a fifth
dropped. Every step keeps VERIFY presented exactly in ACK-WINDOW, and TROUBLE exactly while the record is non-empty and not
silenced. -/
def Obligations.LampsAndBuzzerShowTheirConditions : Prop :=
  (∀ r : PointRec, r.lamp = (if r.state = .idle then .off else if r.state = .answered then .steady
      else if r.hurry = true then .fast else .flash))
    ∧ (∀ s : State,
      s.fireLamp = (if s.fire.state = .fire then .steady else if s.table.roster ≠ [] then .flash
        else if s.fire.state = .verify then .slow else .off)
      ∧ s.watchLamp = (if s.watch.intrusion = true then .steady else if s.watch.localLatch = true then .slow else .off)
      ∧ s.callLamp = (if ∃ e ∈ s.calls.list, e.answered = true ∧ e.answerer = s.own then .steady
        else if ∃ e ∈ s.calls.list, e.answered = false then .flash else .off)
      ∧ s.troubleLamp = (if s.troubles.record ≠ [] then .steady else .off)
      ∧ (s.lampLit = true ↔ s.light.out.lamp = .on ∨ (s.light.out.lamp = .flash ∧ s.clock.lighting.val % 100 < 50))
      ∧ (s.sounding = true ↔ s.light.out.sounder = .on ∨ (s.light.out.sounder = .pulse ∧ s.clock.lighting.val < 100))
      ∧ (∀ d : Fin 4, s.crossLit d = true ↔ s.light.out.signs[d] = .cross ∧ s.clock.lighting.val % 100 < 50))
    ∧ (∀ c : Clock, LampPattern.off.lit c = false ∧ LampPattern.steady.lit c = true
      ∧ (LampPattern.slow.lit c = true ↔ c.panel.val < 200)
      ∧ (LampPattern.flash.lit c = true ↔ c.panel.val % 200 < 100)
        ∧ (LampPattern.fast.lit c = true ↔ c.panel.val % 50 < 25))
    ∧ (∀ b : Buzzer,
      (∀ a, b.verify = some a → (b.on = true ↔ a % 50 < 25))
      ∧ (b.verify = none → b.refuse.age ≠ none → b.on = true)
      ∧ (b.verify = none → b.refuse.age = none → b.callChirp.age ≠ none → b.on = true)
      ∧ (∀ a, b.verify = none → b.refuse.age = none → b.callChirp.age = none → b.warning.age = some a → a < 30 →
          (b.on = true ↔ a < 10 ∨ 20 ≤ a))
      ∧ (∀ a, b.verify = none → b.refuse.age = none → b.callChirp.age = none → b.warning.age = none → b.trouble = some a →
          (b.on = true ↔ a % 200 < 10))
      ∧ (b.verify = none → b.refuse.age = none → b.callChirp.age = none → b.warning.age = none → b.trouble = none →
        b.on = false))
    ∧ (∀ r : OneShotRec, (r.age = none → r.presented = { r with age := some 0 })
      ∧ (r.age ≠ none → r.presented = { r with queued := if r.queued < 4 then r.queued + 1 else r.queued }))
    ∧ (∀ s t : State, s.BuzzerSound → step s = .next t → t.BuzzerSound)

/-- State.reset meets the invariants that every step keeps: evacuation flag, verification, own frames in RUN alone, guard
state, scene stack, fire roster, egress result, doors, call list, door outputs, lighting outputs and sustained buzzer
patterns. Its mode and base scene are the model's choice (assumption 2). -/
def Obligations.InvariantsHoldAtReset : Prop :=
  State.reset.EvacuationSound ∧ State.reset.VerificationSound ∧ State.reset.SendingSound ∧ State.reset.GuardSound
    ∧ State.reset.StackSound
    ∧ State.reset.RosterSound ∧ State.reset.EgressSound ∧ State.reset.DoorsSound ∧ State.reset.CallsSound
    ∧ State.reset.DoorsFollow ∧ State.reset.LightsFollow ∧ State.reset.BuzzerSound
end

