-- ==== Sys2Proof/Laws/State.lean ====
section
/-! SUPPORT. The lemmas of the plain updates of `State`: what each update leaves, once per update and what a read gives after a write of the
same or of another index. -/

namespace Sys2Proof.Machine

@[simp] theorem State.setChannel_keeps (s : State) (c : Chan) (ch : Channel) :
    (s.setChannel c ch).clock = s.clock ∧ (s.setChannel c ch).pins = s.pins ∧ (s.setChannel c ch).modes = s.modes
      ∧ (s.setChannel c ch).fire = s.fire ∧ (s.setChannel c ch).watch = s.watch ∧ (s.setChannel c ch).doors = s.doors
      ∧ (s.setChannel c ch).calls = s.calls ∧ (s.setChannel c ch).table = s.table ∧ (s.setChannel c ch).egress = s.egress
      ∧ (s.setChannel c ch).light = s.light ∧ (s.setChannel c ch).link = s.link ∧ (s.setChannel c ch).start = s.start
      ∧ (s.setChannel c ch).troubles = s.troubles ∧ (s.setChannel c ch).buzzer = s.buzzer
      ∧ (s.setChannel c ch).keys = s.keys ∧ (s.setChannel c ch).raised = s.raised ∧ (s.setChannel c ch).order = s.order
      ∧ (s.setChannel c ch).pending = s.pending :=
  ⟨rfl, rfl, rfl, rfl, rfl, rfl, rfl, rfl, rfl, rfl, rfl, rfl, rfl, rfl, rfl, rfl, rfl, rfl⟩

@[simp] theorem State.markStatus_keeps (s : State) :
    (s.markStatus).clock = s.clock ∧ (s.markStatus).pins = s.pins ∧ (s.markStatus).timers = s.timers
      ∧ (s.markStatus).modes = s.modes ∧ (s.markStatus).fire = s.fire ∧ (s.markStatus).watch = s.watch
      ∧ (s.markStatus).doors = s.doors ∧ (s.markStatus).calls = s.calls ∧ (s.markStatus).table = s.table
      ∧ (s.markStatus).egress = s.egress ∧ (s.markStatus).light = s.light ∧ (s.markStatus).start = s.start
      ∧ (s.markStatus).troubles = s.troubles ∧ (s.markStatus).buzzer = s.buzzer ∧ (s.markStatus).keys = s.keys
      ∧ (s.markStatus).raised = s.raised ∧ (s.markStatus).order = s.order ∧ (s.markStatus).pending = s.pending :=
  ⟨rfl, rfl, rfl, rfl, rfl, rfl, rfl, rfl, rfl, rfl, rfl, rfl, rfl, rfl, rfl, rfl, rfl, rfl⟩

@[simp] theorem State.markCall_keeps (s : State) (p : Fin 4) :
    (s.markCall p).clock = s.clock ∧ (s.markCall p).pins = s.pins ∧ (s.markCall p).timers = s.timers
      ∧ (s.markCall p).modes = s.modes ∧ (s.markCall p).fire = s.fire ∧ (s.markCall p).watch = s.watch
      ∧ (s.markCall p).doors = s.doors ∧ (s.markCall p).calls = s.calls ∧ (s.markCall p).table = s.table
      ∧ (s.markCall p).egress = s.egress ∧ (s.markCall p).light = s.light ∧ (s.markCall p).start = s.start
      ∧ (s.markCall p).troubles = s.troubles ∧ (s.markCall p).buzzer = s.buzzer ∧ (s.markCall p).keys = s.keys
      ∧ (s.markCall p).raised = s.raised ∧ (s.markCall p).order = s.order ∧ (s.markCall p).pending = s.pending :=
  ⟨rfl, rfl, rfl, rfl, rfl, rfl, rfl, rfl, rfl, rfl, rfl, rfl, rfl, rfl, rfl, rfl, rfl, rfl⟩

@[simp] theorem State.setPoint_keeps (s : State) (p : Fin 4) (r : PointRec) :
    (s.setPoint p r).clock = s.clock ∧ (s.setPoint p r).pins = s.pins ∧ (s.setPoint p r).timers = s.timers
      ∧ (s.setPoint p r).modes = s.modes ∧ (s.setPoint p r).fire = s.fire ∧ (s.setPoint p r).watch = s.watch
      ∧ (s.setPoint p r).doors = s.doors ∧ (s.setPoint p r).table = s.table ∧ (s.setPoint p r).egress = s.egress
      ∧ (s.setPoint p r).light = s.light ∧ (s.setPoint p r).link = s.link ∧ (s.setPoint p r).start = s.start
      ∧ (s.setPoint p r).troubles = s.troubles ∧ (s.setPoint p r).buzzer = s.buzzer ∧ (s.setPoint p r).keys = s.keys
      ∧ (s.setPoint p r).raised = s.raised ∧ (s.setPoint p r).order = s.order ∧ (s.setPoint p r).pending = s.pending :=
  ⟨rfl, rfl, rfl, rfl, rfl, rfl, rfl, rfl, rfl, rfl, rfl, rfl, rfl, rfl, rfl, rfl, rfl, rfl⟩

@[simp] theorem State.setList_keeps (s : State) (l : List CallEntry) :
    (s.setList l).clock = s.clock ∧ (s.setList l).pins = s.pins ∧ (s.setList l).timers = s.timers
      ∧ (s.setList l).modes = s.modes ∧ (s.setList l).fire = s.fire ∧ (s.setList l).watch = s.watch
      ∧ (s.setList l).doors = s.doors ∧ (s.setList l).table = s.table ∧ (s.setList l).egress = s.egress
      ∧ (s.setList l).light = s.light ∧ (s.setList l).link = s.link ∧ (s.setList l).start = s.start
      ∧ (s.setList l).troubles = s.troubles ∧ (s.setList l).buzzer = s.buzzer ∧ (s.setList l).keys = s.keys
      ∧ (s.setList l).raised = s.raised ∧ (s.setList l).order = s.order ∧ (s.setList l).pending = s.pending :=
  ⟨rfl, rfl, rfl, rfl, rfl, rfl, rfl, rfl, rfl, rfl, rfl, rfl, rfl, rfl, rfl, rfl, rfl, rfl⟩

@[simp] theorem State.setDoor_keeps (s : State) (d : Fin 4) (r : DoorRec) :
    (s.setDoor d r).clock = s.clock ∧ (s.setDoor d r).pins = s.pins ∧ (s.setDoor d r).timers = s.timers
      ∧ (s.setDoor d r).modes = s.modes ∧ (s.setDoor d r).fire = s.fire ∧ (s.setDoor d r).watch = s.watch
      ∧ (s.setDoor d r).calls = s.calls ∧ (s.setDoor d r).table = s.table ∧ (s.setDoor d r).egress = s.egress
      ∧ (s.setDoor d r).light = s.light ∧ (s.setDoor d r).link = s.link ∧ (s.setDoor d r).start = s.start
      ∧ (s.setDoor d r).troubles = s.troubles ∧ (s.setDoor d r).buzzer = s.buzzer ∧ (s.setDoor d r).keys = s.keys
      ∧ (s.setDoor d r).raised = s.raised ∧ (s.setDoor d r).order = s.order ∧ (s.setDoor d r).pending = s.pending :=
  ⟨rfl, rfl, rfl, rfl, rfl, rfl, rfl, rfl, rfl, rfl, rfl, rfl, rfl, rfl, rfl, rfl, rfl, rfl⟩

@[simp] theorem State.setLoop_keeps (s : State) (l : Fin 6) (r : LoopRec) :
    (s.setLoop l r).clock = s.clock ∧ (s.setLoop l r).pins = s.pins ∧ (s.setLoop l r).timers = s.timers
      ∧ (s.setLoop l r).modes = s.modes ∧ (s.setLoop l r).watch = s.watch ∧ (s.setLoop l r).doors = s.doors
      ∧ (s.setLoop l r).calls = s.calls ∧ (s.setLoop l r).table = s.table ∧ (s.setLoop l r).egress = s.egress
      ∧ (s.setLoop l r).light = s.light ∧ (s.setLoop l r).link = s.link ∧ (s.setLoop l r).start = s.start
      ∧ (s.setLoop l r).troubles = s.troubles ∧ (s.setLoop l r).buzzer = s.buzzer ∧ (s.setLoop l r).keys = s.keys
      ∧ (s.setLoop l r).raised = s.raised ∧ (s.setLoop l r).order = s.order ∧ (s.setLoop l r).pending = s.pending :=
  ⟨rfl, rfl, rfl, rfl, rfl, rfl, rfl, rfl, rfl, rfl, rfl, rfl, rfl, rfl, rfl, rfl, rfl, rfl⟩

@[simp] theorem State.setInput_keeps (s : State) (i : Fin 8) (r : WatchRec) :
    (s.setInput i r).clock = s.clock ∧ (s.setInput i r).pins = s.pins ∧ (s.setInput i r).timers = s.timers
      ∧ (s.setInput i r).modes = s.modes ∧ (s.setInput i r).fire = s.fire ∧ (s.setInput i r).doors = s.doors
      ∧ (s.setInput i r).calls = s.calls ∧ (s.setInput i r).table = s.table ∧ (s.setInput i r).egress = s.egress
      ∧ (s.setInput i r).light = s.light ∧ (s.setInput i r).link = s.link ∧ (s.setInput i r).start = s.start
      ∧ (s.setInput i r).troubles = s.troubles ∧ (s.setInput i r).buzzer = s.buzzer ∧ (s.setInput i r).keys = s.keys
      ∧ (s.setInput i r).raised = s.raised ∧ (s.setInput i r).order = s.order ∧ (s.setInput i r).pending = s.pending :=
  ⟨rfl, rfl, rfl, rfl, rfl, rfl, rfl, rfl, rfl, rfl, rfl, rfl, rfl, rfl, rfl, rfl, rfl, rfl⟩

@[simp] theorem State.setButton_keeps (s : State) (p : Fin 4) (r : ButtonRec) :
    (s.setButton p r).clock = s.clock ∧ (s.setButton p r).pins = s.pins ∧ (s.setButton p r).timers = s.timers
      ∧ (s.setButton p r).modes = s.modes ∧ (s.setButton p r).fire = s.fire ∧ (s.setButton p r).doors = s.doors
      ∧ (s.setButton p r).calls = s.calls ∧ (s.setButton p r).table = s.table ∧ (s.setButton p r).egress = s.egress
      ∧ (s.setButton p r).light = s.light ∧ (s.setButton p r).link = s.link ∧ (s.setButton p r).start = s.start
      ∧ (s.setButton p r).troubles = s.troubles ∧ (s.setButton p r).buzzer = s.buzzer ∧ (s.setButton p r).keys = s.keys
      ∧ (s.setButton p r).raised = s.raised ∧ (s.setButton p r).order = s.order ∧ (s.setButton p r).pending = s.pending :=
  ⟨rfl, rfl, rfl, rfl, rfl, rfl, rfl, rfl, rfl, rfl, rfl, rfl, rfl, rfl, rfl, rfl, rfl, rfl⟩

@[simp] theorem State.setButtonLine_keeps (s : State) (p : Fin 4) (closed : Bool) :
    (s.setButtonLine p closed).clock = s.clock ∧ (s.setButtonLine p closed).timers = s.timers
      ∧ (s.setButtonLine p closed).modes = s.modes ∧ (s.setButtonLine p closed).fire = s.fire
      ∧ (s.setButtonLine p closed).watch = s.watch ∧ (s.setButtonLine p closed).doors = s.doors
      ∧ (s.setButtonLine p closed).calls = s.calls ∧ (s.setButtonLine p closed).table = s.table
      ∧ (s.setButtonLine p closed).egress = s.egress ∧ (s.setButtonLine p closed).light = s.light
      ∧ (s.setButtonLine p closed).link = s.link ∧ (s.setButtonLine p closed).start = s.start
      ∧ (s.setButtonLine p closed).troubles = s.troubles ∧ (s.setButtonLine p closed).buzzer = s.buzzer
      ∧ (s.setButtonLine p closed).keys = s.keys ∧ (s.setButtonLine p closed).raised = s.raised
      ∧ (s.setButtonLine p closed).order = s.order ∧ (s.setButtonLine p closed).pending = s.pending :=
  ⟨rfl, rfl, rfl, rfl, rfl, rfl, rfl, rfl, rfl, rfl, rfl, rfl, rfl, rfl, rfl, rfl, rfl, rfl⟩

@[simp] theorem State.setKeyRec_keeps (s : State) (k : PanelKey) (r : ButtonRec) :
    (s.setKeyRec k r).clock = s.clock ∧ (s.setKeyRec k r).pins = s.pins ∧ (s.setKeyRec k r).timers = s.timers
      ∧ (s.setKeyRec k r).modes = s.modes ∧ (s.setKeyRec k r).fire = s.fire ∧ (s.setKeyRec k r).watch = s.watch
      ∧ (s.setKeyRec k r).doors = s.doors ∧ (s.setKeyRec k r).calls = s.calls ∧ (s.setKeyRec k r).table = s.table
      ∧ (s.setKeyRec k r).egress = s.egress ∧ (s.setKeyRec k r).light = s.light ∧ (s.setKeyRec k r).link = s.link
      ∧ (s.setKeyRec k r).start = s.start ∧ (s.setKeyRec k r).troubles = s.troubles ∧ (s.setKeyRec k r).buzzer = s.buzzer
      ∧ (s.setKeyRec k r).raised = s.raised ∧ (s.setKeyRec k r).order = s.order ∧ (s.setKeyRec k r).pending = s.pending :=
  ⟨rfl, rfl, rfl, rfl, rfl, rfl, rfl, rfl, rfl, rfl, rfl, rfl, rfl, rfl, rfl, rfl, rfl, rfl⟩

@[simp] theorem State.setKeyLine_keeps (s : State) (k : PanelKey) (closed : Bool) :
    (s.setKeyLine k closed).clock = s.clock ∧ (s.setKeyLine k closed).timers = s.timers
      ∧ (s.setKeyLine k closed).modes = s.modes ∧ (s.setKeyLine k closed).fire = s.fire
      ∧ (s.setKeyLine k closed).watch = s.watch ∧ (s.setKeyLine k closed).doors = s.doors
      ∧ (s.setKeyLine k closed).calls = s.calls ∧ (s.setKeyLine k closed).table = s.table
      ∧ (s.setKeyLine k closed).egress = s.egress ∧ (s.setKeyLine k closed).light = s.light
      ∧ (s.setKeyLine k closed).link = s.link ∧ (s.setKeyLine k closed).start = s.start
      ∧ (s.setKeyLine k closed).troubles = s.troubles ∧ (s.setKeyLine k closed).buzzer = s.buzzer
      ∧ (s.setKeyLine k closed).keys = s.keys ∧ (s.setKeyLine k closed).raised = s.raised
      ∧ (s.setKeyLine k closed).order = s.order ∧ (s.setKeyLine k closed).pending = s.pending :=
  ⟨rfl, rfl, rfl, rfl, rfl, rfl, rfl, rfl, rfl, rfl, rfl, rfl, rfl, rfl, rfl, rfl, rfl, rfl⟩

@[simp] theorem State.setEntry_keeps (s : State) (k : Fin 4) (e : NbEntry) :
    (s.setEntry k e).clock = s.clock ∧ (s.setEntry k e).pins = s.pins ∧ (s.setEntry k e).timers = s.timers
      ∧ (s.setEntry k e).modes = s.modes ∧ (s.setEntry k e).fire = s.fire ∧ (s.setEntry k e).watch = s.watch
      ∧ (s.setEntry k e).doors = s.doors ∧ (s.setEntry k e).calls = s.calls ∧ (s.setEntry k e).egress = s.egress
      ∧ (s.setEntry k e).light = s.light ∧ (s.setEntry k e).link = s.link ∧ (s.setEntry k e).start = s.start
      ∧ (s.setEntry k e).troubles = s.troubles ∧ (s.setEntry k e).buzzer = s.buzzer ∧ (s.setEntry k e).keys = s.keys
      ∧ (s.setEntry k e).raised = s.raised ∧ (s.setEntry k e).order = s.order ∧ (s.setEntry k e).pending = s.pending :=
  ⟨rfl, rfl, rfl, rfl, rfl, rfl, rfl, rfl, rfl, rfl, rfl, rfl, rfl, rfl, rfl, rfl, rfl, rfl⟩

@[simp] theorem State.setRoster_keeps (s : State) (l : List Member) :
    (s.setRoster l).clock = s.clock ∧ (s.setRoster l).pins = s.pins ∧ (s.setRoster l).timers = s.timers
      ∧ (s.setRoster l).modes = s.modes ∧ (s.setRoster l).fire = s.fire ∧ (s.setRoster l).watch = s.watch
      ∧ (s.setRoster l).doors = s.doors ∧ (s.setRoster l).calls = s.calls ∧ (s.setRoster l).egress = s.egress
      ∧ (s.setRoster l).light = s.light ∧ (s.setRoster l).link = s.link ∧ (s.setRoster l).start = s.start
      ∧ (s.setRoster l).troubles = s.troubles ∧ (s.setRoster l).buzzer = s.buzzer ∧ (s.setRoster l).keys = s.keys
      ∧ (s.setRoster l).raised = s.raised ∧ (s.setRoster l).order = s.order ∧ (s.setRoster l).pending = s.pending :=
  ⟨rfl, rfl, rfl, rfl, rfl, rfl, rfl, rfl, rfl, rfl, rfl, rfl, rfl, rfl, rfl, rfl, rfl, rfl⟩

@[simp] theorem State.setPhase_keeps (s : State) (p : StartPhase) :
    (s.setPhase p).clock = s.clock ∧ (s.setPhase p).pins = s.pins ∧ (s.setPhase p).timers = s.timers
      ∧ (s.setPhase p).modes = s.modes ∧ (s.setPhase p).fire = s.fire ∧ (s.setPhase p).watch = s.watch
      ∧ (s.setPhase p).doors = s.doors ∧ (s.setPhase p).calls = s.calls ∧ (s.setPhase p).table = s.table
      ∧ (s.setPhase p).egress = s.egress ∧ (s.setPhase p).light = s.light ∧ (s.setPhase p).link = s.link
      ∧ (s.setPhase p).troubles = s.troubles ∧ (s.setPhase p).buzzer = s.buzzer ∧ (s.setPhase p).keys = s.keys
      ∧ (s.setPhase p).raised = s.raised ∧ (s.setPhase p).order = s.order ∧ (s.setPhase p).pending = s.pending :=
  ⟨rfl, rfl, rfl, rfl, rfl, rfl, rfl, rfl, rfl, rfl, rfl, rfl, rfl, rfl, rfl, rfl, rfl, rfl⟩

@[simp] theorem State.raise_keeps (s : State) (e : Instr) :
    (s.raise e).clock = s.clock ∧ (s.raise e).pins = s.pins ∧ (s.raise e).timers = s.timers ∧ (s.raise e).modes = s.modes
      ∧ (s.raise e).fire = s.fire ∧ (s.raise e).watch = s.watch ∧ (s.raise e).doors = s.doors ∧ (s.raise e).calls = s.calls
      ∧ (s.raise e).table = s.table ∧ (s.raise e).egress = s.egress ∧ (s.raise e).light = s.light
      ∧ (s.raise e).link = s.link ∧ (s.raise e).start = s.start ∧ (s.raise e).troubles = s.troubles
      ∧ (s.raise e).buzzer = s.buzzer ∧ (s.raise e).keys = s.keys ∧ (s.raise e).order = s.order
      ∧ (s.raise e).pending = s.pending :=
  ⟨rfl, rfl, rfl, rfl, rfl, rfl, rfl, rfl, rfl, rfl, rfl, rfl, rfl, rfl, rfl, rfl, rfl, rfl⟩

@[simp] theorem State.withPins_keeps (s : State) (p : Pins) :
    (s.withPins p).clock = s.clock ∧ (s.withPins p).timers = s.timers ∧ (s.withPins p).modes = s.modes
      ∧ (s.withPins p).fire = s.fire ∧ (s.withPins p).watch = s.watch ∧ (s.withPins p).doors = s.doors
      ∧ (s.withPins p).calls = s.calls ∧ (s.withPins p).table = s.table ∧ (s.withPins p).egress = s.egress
      ∧ (s.withPins p).light = s.light ∧ (s.withPins p).link = s.link ∧ (s.withPins p).start = s.start
      ∧ (s.withPins p).troubles = s.troubles ∧ (s.withPins p).buzzer = s.buzzer ∧ (s.withPins p).keys = s.keys
      ∧ (s.withPins p).raised = s.raised ∧ (s.withPins p).order = s.order ∧ (s.withPins p).pending = s.pending :=
  ⟨rfl, rfl, rfl, rfl, rfl, rfl, rfl, rfl, rfl, rfl, rfl, rfl, rfl, rfl, rfl, rfl, rfl, rfl⟩

@[simp] theorem State.afterDraw_keeps (s : State) (n : Nat) :
    (s.afterDraw n).clock = s.clock ∧ (s.afterDraw n).pins = s.pins ∧ (s.afterDraw n).timers = s.timers
      ∧ (s.afterDraw n).modes = s.modes ∧ (s.afterDraw n).fire = s.fire ∧ (s.afterDraw n).watch = s.watch
      ∧ (s.afterDraw n).doors = s.doors ∧ (s.afterDraw n).calls = s.calls ∧ (s.afterDraw n).table = s.table
      ∧ (s.afterDraw n).egress = s.egress ∧ (s.afterDraw n).light = s.light ∧ (s.afterDraw n).link = s.link
      ∧ (s.afterDraw n).start = s.start ∧ (s.afterDraw n).troubles = s.troubles ∧ (s.afterDraw n).buzzer = s.buzzer
      ∧ (s.afterDraw n).keys = s.keys ∧ (s.afterDraw n).raised = s.raised ∧ (s.afterDraw n).pending = s.pending :=
  ⟨rfl, rfl, rfl, rfl, rfl, rfl, rfl, rfl, rfl, rfl, rfl, rfl, rfl, rfl, rfl, rfl, rfl, rfl⟩

@[simp] theorem State.present_keeps (s : State) (p : OneShot) :
    (s.present p).clock = s.clock ∧ (s.present p).pins = s.pins ∧ (s.present p).timers = s.timers
      ∧ (s.present p).modes = s.modes ∧ (s.present p).fire = s.fire ∧ (s.present p).watch = s.watch
      ∧ (s.present p).doors = s.doors ∧ (s.present p).calls = s.calls ∧ (s.present p).table = s.table
      ∧ (s.present p).egress = s.egress ∧ (s.present p).light = s.light ∧ (s.present p).link = s.link
      ∧ (s.present p).start = s.start ∧ (s.present p).troubles = s.troubles ∧ (s.present p).keys = s.keys
      ∧ (s.present p).raised = s.raised ∧ (s.present p).order = s.order ∧ (s.present p).pending = s.pending :=
  ⟨rfl, rfl, rfl, rfl, rfl, rfl, rfl, rfl, rfl, rfl, rfl, rfl, rfl, rfl, rfl, rfl, rfl, rfl⟩

@[simp] theorem State.syncBuzzer_keeps (s : State) :
    (s.syncBuzzer).clock = s.clock ∧ (s.syncBuzzer).pins = s.pins ∧ (s.syncBuzzer).timers = s.timers
      ∧ (s.syncBuzzer).modes = s.modes ∧ (s.syncBuzzer).fire = s.fire ∧ (s.syncBuzzer).watch = s.watch
      ∧ (s.syncBuzzer).doors = s.doors ∧ (s.syncBuzzer).calls = s.calls ∧ (s.syncBuzzer).table = s.table
      ∧ (s.syncBuzzer).egress = s.egress ∧ (s.syncBuzzer).light = s.light ∧ (s.syncBuzzer).link = s.link
      ∧ (s.syncBuzzer).start = s.start ∧ (s.syncBuzzer).troubles = s.troubles ∧ (s.syncBuzzer).keys = s.keys
      ∧ (s.syncBuzzer).raised = s.raised ∧ (s.syncBuzzer).order = s.order ∧ (s.syncBuzzer).pending = s.pending :=
  ⟨rfl, rfl, rfl, rfl, rfl, rfl, rfl, rfl, rfl, rfl, rfl, rfl, rfl, rfl, rfl, rfl, rfl, rfl⟩

@[simp] theorem State.awaitIdle_keeps (s : State) (counted : Bool) :
    (s.awaitIdle counted).clock = s.clock ∧ (s.awaitIdle counted).pins = s.pins ∧ (s.awaitIdle counted).timers = s.timers
      ∧ (s.awaitIdle counted).modes = s.modes ∧ (s.awaitIdle counted).fire = s.fire ∧ (s.awaitIdle counted).watch = s.watch
      ∧ (s.awaitIdle counted).doors = s.doors ∧ (s.awaitIdle counted).calls = s.calls
      ∧ (s.awaitIdle counted).table = s.table ∧ (s.awaitIdle counted).egress = s.egress
      ∧ (s.awaitIdle counted).light = s.light ∧ (s.awaitIdle counted).start = s.start
      ∧ (s.awaitIdle counted).troubles = s.troubles ∧ (s.awaitIdle counted).buzzer = s.buzzer
      ∧ (s.awaitIdle counted).keys = s.keys ∧ (s.awaitIdle counted).raised = s.raised
      ∧ (s.awaitIdle counted).order = s.order ∧ (s.awaitIdle counted).pending = s.pending :=
  ⟨rfl, rfl, rfl, rfl, rfl, rfl, rfl, rfl, rfl, rfl, rfl, rfl, rfl, rfl, rfl, rfl, rfl, rfl⟩

/-! ### Reads after writes -/

@[simp] theorem State.setDoor_door (s : State) (d e : Fin 4) (r : DoorRec) :
    (s.setDoor d r).door e = if d = e then r else s.door e := by
  simp [State.setDoor, State.door, Vector.getElem_set, Fin.ext_iff]

@[simp] theorem State.setDoor_passage (s : State) (d : Fin 4) (r : DoorRec) :
    (s.setDoor d r).doors.passage = s.doors.passage := rfl

@[simp] theorem State.setPoint_point (s : State) (p q : Fin 4) (r : PointRec) :
    (s.setPoint p r).point q = if p = q then r else s.point q := by
  simp [State.setPoint, State.point, Vector.getElem_set, Fin.ext_iff]

@[simp] theorem State.setPoint_list (s : State) (p : Fin 4) (r : PointRec) :
    (s.setPoint p r).calls.list = s.calls.list := rfl

@[simp] theorem State.setList_list (s : State) (l : List CallEntry) : (s.setList l).calls.list = l := rfl

@[simp] theorem State.setList_point (s : State) (l : List CallEntry) (p : Fin 4) :
    (s.setList l).point p = s.point p := rfl

@[simp] theorem State.setLoop_loops (s : State) (l k : Fin 6) (r : LoopRec) :
    (s.setLoop l r).fire.loops[k] = if l = k then r else s.fire.loops[k] := by
  simp [State.setLoop, Vector.getElem_set, Fin.ext_iff]

@[simp] theorem State.setLoop_fire (s : State) (l : Fin 6) (r : LoopRec) :
    (s.setLoop l r).fire.state = s.fire.state ∧ (s.setLoop l r).fire.phase = s.fire.phase
      ∧ (s.setLoop l r).fire.firstLoop = s.fire.firstLoop ∧ (s.setLoop l r).fire.evac = s.fire.evac
      ∧ (s.setLoop l r).fire.silenced = s.fire.silenced := ⟨rfl, rfl, rfl, rfl, rfl⟩

@[simp] theorem State.setInput_inputs (s : State) (i j : Fin 8) (r : WatchRec) :
    (s.setInput i r).watch.inputs[j] = if i = j then r else s.watch.inputs[j] := by
  simp [State.setInput, Vector.getElem_set, Fin.ext_iff]

@[simp] theorem State.setInput_watch (s : State) (i : Fin 8) (r : WatchRec) :
    (s.setInput i r).watch.guard = s.watch.guard ∧ (s.setInput i r).watch.round = s.watch.round
      ∧ (s.setInput i r).watch.localLatch = s.watch.localLatch
      ∧ (s.setInput i r).watch.intrusion = s.watch.intrusion := ⟨rfl, rfl, rfl, rfl⟩

@[simp] theorem State.setButton_buttons (s : State) (p q : Fin 4) (r : ButtonRec) :
    (s.setButton p r).watch.buttons[q] = if p = q then r else s.watch.buttons[q] := by
  simp [State.setButton, Vector.getElem_set, Fin.ext_iff]

@[simp] theorem State.setButton_watch (s : State) (p : Fin 4) (r : ButtonRec) :
    (s.setButton p r).watch.inputs = s.watch.inputs ∧ (s.setButton p r).watch.guard = s.watch.guard
      ∧ (s.setButton p r).watch.round = s.watch.round ∧ (s.setButton p r).watch.localLatch = s.watch.localLatch
      ∧ (s.setButton p r).watch.intrusion = s.watch.intrusion := ⟨rfl, rfl, rfl, rfl, rfl⟩

@[simp] theorem State.setButtonLine_buttons (s : State) (p q : Fin 4) (closed : Bool) :
    (s.setButtonLine p closed).pins.buttons[q] = if p = q then closed else s.pins.buttons[q] := by
  simp [State.setButtonLine, Vector.getElem_set, Fin.ext_iff]

@[simp] theorem Pins.key_setKey (p : Pins) (k j : PanelKey) (closed : Bool) :
    (p.setKey k closed).key j = if k = j then closed else p.key j := by
  cases k <;> cases j <;> rfl

@[simp] theorem Pins.setKey_lines (p : Pins) (k : PanelKey) (closed : Bool) :
    (p.setKey k closed).loops = p.loops ∧ (p.setKey k closed).watch = p.watch ∧ (p.setKey k closed).doors = p.doors
      ∧ (p.setKey k closed).buttons = p.buttons ∧ (p.setKey k closed).mode = p.mode ∧ (p.setKey k closed).reset = p.reset
      ∧ (p.setKey k closed).holdHigh = p.holdHigh := by
  cases k <;> simp [Pins.setKey]

@[simp] theorem KeyFilters.get_set (f : KeyFilters) (k j : PanelKey) (r : ButtonRec) :
    (f.set k r).get j = if k = j then r else f.get j := by
  cases k <;> cases j <;> rfl

@[simp] theorem State.setKeyLine_pins (s : State) (k : PanelKey) (closed : Bool) :
    (s.setKeyLine k closed).pins = s.pins.setKey k closed := rfl

@[simp] theorem State.setKeyRec_keys (s : State) (k : PanelKey) (r : ButtonRec) :
    (s.setKeyRec k r).keys = s.keys.set k r := rfl

@[simp] theorem State.setEntry_entries (s : State) (k j : Fin 4) (e : NbEntry) :
    (s.setEntry k e).table.entries[j] = if k = j then some e else s.table.entries[j] := by
  simp [State.setEntry, Vector.getElem_set, Fin.ext_iff]

@[simp] theorem State.setEntry_roster (s : State) (k : Fin 4) (e : NbEntry) :
    (s.setEntry k e).table.roster = s.table.roster := rfl

@[simp] theorem State.setRoster_table (s : State) (l : List Member) :
    (s.setRoster l).table.roster = l ∧ (s.setRoster l).table.entries = s.table.entries := ⟨rfl, rfl⟩

@[simp] theorem State.setPhase_start (s : State) (p : StartPhase) :
    (s.setPhase p).start = { s.start with phase := p } := rfl

@[simp] theorem State.markStatus_link (s : State) :
    s.markStatus.link = { s.link with status := true } := rfl

@[simp] theorem State.markCall_link (s : State) (p : Fin 4) :
    (s.markCall p).link = { s.link with calls := s.link.calls.set p true } := rfl

@[simp] theorem State.raise_raised (s : State) (e : Instr) : (s.raise e).raised = s.raised ++ [e] := rfl

@[simp] theorem State.afterDraw_order (s : State) (n : Nat) : (s.afterDraw n).order = s.order / n := rfl

/-- A channel read after a channel is written: the written one, or the one before. -/
@[simp] theorem TimerBank.get_set (t : TimerBank) (c e : Chan) (ch : Channel) :
    (t.set c ch).get e = if c = e then ch else t.get e := by
  cases c <;> cases e <;> simp [TimerBank.set, TimerBank.get, Vector.getElem_set, Fin.ext_iff]

@[simp] theorem State.setChannel_channel (s : State) (c e : Chan) (ch : Channel) :
    (s.setChannel c ch).channel e = if c = e then ch else s.channel e := by
  simp [State.setChannel, State.channel]

/-- A bank changed alike everywhere, read at one channel. -/
@[simp] theorem TimerBank.get_mapAll (t : TimerBank) (f : Channel → Channel) (c : Chan) :
    (t.mapAll f).get c = f (t.get c) := by
  cases c <;> simp [TimerBank.mapAll, TimerBank.get]

@[simp] theorem TimerBank.get_stopAll (t : TimerBank) (c : Chan) : t.stopAll.get c = (t.get c).stop := by
  simp [TimerBank.stopAll]

/-- Every channel has its name in the list. -/
theorem Chan.mem_all (c : Chan) : c ∈ Chan.all := by
  cases c <;> first | decide | (rename_i i; revert i; decide)

end Sys2Proof.Machine
end

