-- ==== Sys2Proof/Laws/Frames.lean ====
section
/-! SUPPORT. What each shared operation leaves: one lemma for each, naming every block of the state that it never writes; and the lemma by which
a property passes through deliveries in any order. -/

namespace Sys2Proof.Machine

/-! ### Deliveries in any order -/

/-- A property that a draw and every delivery keep is kept by the deliveries, whatever order the free value picks. -/
theorem deliverFuel_induct (P : State → Prop) (hd : ∀ s n, P s → P (s.afterDraw n)) :
    ∀ (fuel : Nat) (fs : List (State → State)) (_ : ∀ f ∈ fs, ∀ s, P s → P (f s)) (s : State), P s →
      P (deliverFuel fuel fs s)
  | 0, _, _, _, hs => hs
  | fuel + 1, fs, hf, s, hs => by
    unfold deliverFuel
    split
    · exact hs
    · rename_i f h
      exact deliverFuel_induct P hd fuel _ (fun g hg => hf g (List.mem_of_mem_eraseIdx hg)) _
        (hf f (List.mem_of_getElem? h) _ (hd _ _ hs))

/-- A property that a draw and every delivery keep is kept by the deliveries. -/
theorem deliver_induct (P : State → Prop) (hd : ∀ s n, P s → P (s.afterDraw n)) (fs : List (State → State))
    (hf : ∀ f ∈ fs, ∀ s, P s → P (f s)) (s : State) (hs : P s) : P (deliver fs s) :=
  deliverFuel_induct P hd _ fs hf s hs

/-- What a draw and every delivery leave as it is, the deliveries leave as it is. -/
theorem deliver_keeps {α : Type} (get : State → α) (hd : ∀ s n, get (s.afterDraw n) = get s)
    (fs : List (State → State)) (hf : ∀ f ∈ fs, ∀ s, get (f s) = get s) (s : State) :
    get (deliver fs s) = get s :=
  deliver_induct (fun t => get t = get s) (fun t n h => (hd t n).trans h) fs (fun f h t ht => (hf f h t).trans ht) s rfl

/-- What every operation of a fold leaves as it is, the fold leaves as it is. -/
theorem foldl_keeps {α β : Type} (get : State → α) (f : State → β → State) (hf : ∀ s b, get (f s b) = get s) :
    ∀ (l : List β) (s : State), get (l.foldl f s) = get s
  | [], _ => rfl
  | b :: l, s => (foldl_keeps get f hf l (f s b)).trans (hf s b)

/-! ### What each operation leaves -/

@[simp] theorem deliver_clock (fs : List (State → State)) (h : ∀ f ∈ fs, ∀ s : State, (f s).clock = s.clock) (s : State) :
    (deliver fs s).clock = s.clock := deliver_keeps State.clock (fun _ _ => rfl) fs h s

@[simp] theorem deliver_pins (fs : List (State → State)) (h : ∀ f ∈ fs, ∀ s : State, (f s).pins = s.pins) (s : State) :
    (deliver fs s).pins = s.pins := deliver_keeps State.pins (fun _ _ => rfl) fs h s

@[simp] theorem deliver_timers (fs : List (State → State)) (h : ∀ f ∈ fs, ∀ s : State, (f s).timers = s.timers) (s : State) :
    (deliver fs s).timers = s.timers := deliver_keeps State.timers (fun _ _ => rfl) fs h s

@[simp] theorem deliver_modes (fs : List (State → State)) (h : ∀ f ∈ fs, ∀ s : State, (f s).modes = s.modes) (s : State) :
    (deliver fs s).modes = s.modes := deliver_keeps State.modes (fun _ _ => rfl) fs h s

@[simp] theorem deliver_fire (fs : List (State → State)) (h : ∀ f ∈ fs, ∀ s : State, (f s).fire = s.fire) (s : State) :
    (deliver fs s).fire = s.fire := deliver_keeps State.fire (fun _ _ => rfl) fs h s

@[simp] theorem deliver_watch (fs : List (State → State)) (h : ∀ f ∈ fs, ∀ s : State, (f s).watch = s.watch) (s : State) :
    (deliver fs s).watch = s.watch := deliver_keeps State.watch (fun _ _ => rfl) fs h s

@[simp] theorem deliver_doors (fs : List (State → State)) (h : ∀ f ∈ fs, ∀ s : State, (f s).doors = s.doors) (s : State) :
    (deliver fs s).doors = s.doors := deliver_keeps State.doors (fun _ _ => rfl) fs h s

@[simp] theorem deliver_calls (fs : List (State → State)) (h : ∀ f ∈ fs, ∀ s : State, (f s).calls = s.calls) (s : State) :
    (deliver fs s).calls = s.calls := deliver_keeps State.calls (fun _ _ => rfl) fs h s

@[simp] theorem deliver_table (fs : List (State → State)) (h : ∀ f ∈ fs, ∀ s : State, (f s).table = s.table) (s : State) :
    (deliver fs s).table = s.table := deliver_keeps State.table (fun _ _ => rfl) fs h s

@[simp] theorem deliver_egress (fs : List (State → State)) (h : ∀ f ∈ fs, ∀ s : State, (f s).egress = s.egress) (s : State) :
    (deliver fs s).egress = s.egress := deliver_keeps State.egress (fun _ _ => rfl) fs h s

@[simp] theorem deliver_light (fs : List (State → State)) (h : ∀ f ∈ fs, ∀ s : State, (f s).light = s.light) (s : State) :
    (deliver fs s).light = s.light := deliver_keeps State.light (fun _ _ => rfl) fs h s

@[simp] theorem deliver_link (fs : List (State → State)) (h : ∀ f ∈ fs, ∀ s : State, (f s).link = s.link) (s : State) :
    (deliver fs s).link = s.link := deliver_keeps State.link (fun _ _ => rfl) fs h s

@[simp] theorem deliver_start (fs : List (State → State)) (h : ∀ f ∈ fs, ∀ s : State, (f s).start = s.start) (s : State) :
    (deliver fs s).start = s.start := deliver_keeps State.start (fun _ _ => rfl) fs h s

@[simp] theorem deliver_troubles (fs : List (State → State)) (h : ∀ f ∈ fs, ∀ s : State, (f s).troubles = s.troubles) (s : State) :
    (deliver fs s).troubles = s.troubles := deliver_keeps State.troubles (fun _ _ => rfl) fs h s

@[simp] theorem deliver_buzzer (fs : List (State → State)) (h : ∀ f ∈ fs, ∀ s : State, (f s).buzzer = s.buzzer) (s : State) :
    (deliver fs s).buzzer = s.buzzer := deliver_keeps State.buzzer (fun _ _ => rfl) fs h s

@[simp] theorem deliver_keys (fs : List (State → State)) (h : ∀ f ∈ fs, ∀ s : State, (f s).keys = s.keys) (s : State) :
    (deliver fs s).keys = s.keys := deliver_keeps State.keys (fun _ _ => rfl) fs h s

@[simp] theorem deliver_raised (fs : List (State → State)) (h : ∀ f ∈ fs, ∀ s : State, (f s).raised = s.raised) (s : State) :
    (deliver fs s).raised = s.raised := deliver_keeps State.raised (fun _ _ => rfl) fs h s

@[simp] theorem deliver_pending (fs : List (State → State)) (h : ∀ f ∈ fs, ∀ s : State, (f s).pending = s.pending) (s : State) :
    (deliver fs s).pending = s.pending := deliver_keeps State.pending (fun _ _ => rfl) fs h s

@[simp] theorem foldl_clock {β : Type} (f : State → β → State) (h : ∀ s b, (f s b).clock = s.clock) (l : List β) (s : State) :
    (l.foldl f s).clock = s.clock := foldl_keeps State.clock f h l s

@[simp] theorem foldl_pins {β : Type} (f : State → β → State) (h : ∀ s b, (f s b).pins = s.pins) (l : List β) (s : State) :
    (l.foldl f s).pins = s.pins := foldl_keeps State.pins f h l s

@[simp] theorem foldl_timers {β : Type} (f : State → β → State) (h : ∀ s b, (f s b).timers = s.timers) (l : List β) (s : State) :
    (l.foldl f s).timers = s.timers := foldl_keeps State.timers f h l s

@[simp] theorem foldl_modes {β : Type} (f : State → β → State) (h : ∀ s b, (f s b).modes = s.modes) (l : List β) (s : State) :
    (l.foldl f s).modes = s.modes := foldl_keeps State.modes f h l s

@[simp] theorem foldl_fire {β : Type} (f : State → β → State) (h : ∀ s b, (f s b).fire = s.fire) (l : List β) (s : State) :
    (l.foldl f s).fire = s.fire := foldl_keeps State.fire f h l s

@[simp] theorem foldl_watch {β : Type} (f : State → β → State) (h : ∀ s b, (f s b).watch = s.watch) (l : List β) (s : State) :
    (l.foldl f s).watch = s.watch := foldl_keeps State.watch f h l s

@[simp] theorem foldl_doors {β : Type} (f : State → β → State) (h : ∀ s b, (f s b).doors = s.doors) (l : List β) (s : State) :
    (l.foldl f s).doors = s.doors := foldl_keeps State.doors f h l s

@[simp] theorem foldl_calls {β : Type} (f : State → β → State) (h : ∀ s b, (f s b).calls = s.calls) (l : List β) (s : State) :
    (l.foldl f s).calls = s.calls := foldl_keeps State.calls f h l s

@[simp] theorem foldl_table {β : Type} (f : State → β → State) (h : ∀ s b, (f s b).table = s.table) (l : List β) (s : State) :
    (l.foldl f s).table = s.table := foldl_keeps State.table f h l s

@[simp] theorem foldl_egress {β : Type} (f : State → β → State) (h : ∀ s b, (f s b).egress = s.egress) (l : List β) (s : State) :
    (l.foldl f s).egress = s.egress := foldl_keeps State.egress f h l s

@[simp] theorem foldl_light {β : Type} (f : State → β → State) (h : ∀ s b, (f s b).light = s.light) (l : List β) (s : State) :
    (l.foldl f s).light = s.light := foldl_keeps State.light f h l s

@[simp] theorem foldl_link {β : Type} (f : State → β → State) (h : ∀ s b, (f s b).link = s.link) (l : List β) (s : State) :
    (l.foldl f s).link = s.link := foldl_keeps State.link f h l s

@[simp] theorem foldl_start {β : Type} (f : State → β → State) (h : ∀ s b, (f s b).start = s.start) (l : List β) (s : State) :
    (l.foldl f s).start = s.start := foldl_keeps State.start f h l s

@[simp] theorem foldl_troubles {β : Type} (f : State → β → State) (h : ∀ s b, (f s b).troubles = s.troubles) (l : List β) (s : State) :
    (l.foldl f s).troubles = s.troubles := foldl_keeps State.troubles f h l s

@[simp] theorem foldl_buzzer {β : Type} (f : State → β → State) (h : ∀ s b, (f s b).buzzer = s.buzzer) (l : List β) (s : State) :
    (l.foldl f s).buzzer = s.buzzer := foldl_keeps State.buzzer f h l s

@[simp] theorem foldl_keys {β : Type} (f : State → β → State) (h : ∀ s b, (f s b).keys = s.keys) (l : List β) (s : State) :
    (l.foldl f s).keys = s.keys := foldl_keeps State.keys f h l s

@[simp] theorem foldl_raised {β : Type} (f : State → β → State) (h : ∀ s b, (f s b).raised = s.raised) (l : List β) (s : State) :
    (l.foldl f s).raised = s.raised := foldl_keeps State.raised f h l s

@[simp] theorem foldl_order {β : Type} (f : State → β → State) (h : ∀ s b, (f s b).order = s.order) (l : List β) (s : State) :
    (l.foldl f s).order = s.order := foldl_keeps State.order f h l s

@[simp] theorem foldl_pending {β : Type} (f : State → β → State) (h : ∀ s b, (f s b).pending = s.pending) (l : List β) (s : State) :
    (l.foldl f s).pending = s.pending := foldl_keeps State.pending f h l s

@[simp] theorem State.stopTimer_keeps (s : State) (c : Chan) :
    (s.stopTimer c).clock = s.clock ∧ (s.stopTimer c).pins = s.pins ∧ (s.stopTimer c).modes = s.modes
      ∧ (s.stopTimer c).fire = s.fire ∧ (s.stopTimer c).watch = s.watch ∧ (s.stopTimer c).doors = s.doors
      ∧ (s.stopTimer c).calls = s.calls ∧ (s.stopTimer c).table = s.table ∧ (s.stopTimer c).egress = s.egress
      ∧ (s.stopTimer c).light = s.light ∧ (s.stopTimer c).link = s.link ∧ (s.stopTimer c).start = s.start
      ∧ (s.stopTimer c).troubles = s.troubles ∧ (s.stopTimer c).buzzer = s.buzzer ∧ (s.stopTimer c).keys = s.keys
      ∧ (s.stopTimer c).raised = s.raised ∧ (s.stopTimer c).order = s.order ∧ (s.stopTimer c).pending = s.pending := by
  simp [State.stopTimer]

@[simp] theorem State.presetTimer_keeps (s : State) (c : Chan) (n : Nat) (rate : TickRate) (kind : ChanKind) (m : Nat) :
    (s.presetTimer c n rate kind m).clock = s.clock ∧ (s.presetTimer c n rate kind m).pins = s.pins
      ∧ (s.presetTimer c n rate kind m).modes = s.modes ∧ (s.presetTimer c n rate kind m).fire = s.fire
      ∧ (s.presetTimer c n rate kind m).watch = s.watch ∧ (s.presetTimer c n rate kind m).doors = s.doors
      ∧ (s.presetTimer c n rate kind m).calls = s.calls ∧ (s.presetTimer c n rate kind m).table = s.table
      ∧ (s.presetTimer c n rate kind m).egress = s.egress ∧ (s.presetTimer c n rate kind m).light = s.light
      ∧ (s.presetTimer c n rate kind m).link = s.link ∧ (s.presetTimer c n rate kind m).start = s.start
      ∧ (s.presetTimer c n rate kind m).troubles = s.troubles ∧ (s.presetTimer c n rate kind m).buzzer = s.buzzer
      ∧ (s.presetTimer c n rate kind m).keys = s.keys ∧ (s.presetTimer c n rate kind m).raised = s.raised
      ∧ (s.presetTimer c n rate kind m).order = s.order ∧ (s.presetTimer c n rate kind m).pending = s.pending := by
  simp [State.presetTimer]

@[simp] theorem State.resumeTimer_keeps (s : State) (c : Chan) :
    (s.resumeTimer c).clock = s.clock ∧ (s.resumeTimer c).pins = s.pins ∧ (s.resumeTimer c).modes = s.modes
      ∧ (s.resumeTimer c).fire = s.fire ∧ (s.resumeTimer c).watch = s.watch ∧ (s.resumeTimer c).doors = s.doors
      ∧ (s.resumeTimer c).calls = s.calls ∧ (s.resumeTimer c).table = s.table ∧ (s.resumeTimer c).egress = s.egress
      ∧ (s.resumeTimer c).light = s.light ∧ (s.resumeTimer c).link = s.link ∧ (s.resumeTimer c).start = s.start
      ∧ (s.resumeTimer c).troubles = s.troubles ∧ (s.resumeTimer c).buzzer = s.buzzer ∧ (s.resumeTimer c).keys = s.keys
      ∧ (s.resumeTimer c).raised = s.raised ∧ (s.resumeTimer c).order = s.order ∧ (s.resumeTimer c).pending = s.pending := by
  simp [State.resumeTimer]

@[simp] theorem State.startTimer_keeps (s : State) (c : Chan) (n : Nat) (rate : TickRate) (kind : ChanKind) (m : Nat) :
    (s.startTimer c n rate kind m).clock = s.clock ∧ (s.startTimer c n rate kind m).pins = s.pins
      ∧ (s.startTimer c n rate kind m).modes = s.modes ∧ (s.startTimer c n rate kind m).fire = s.fire
      ∧ (s.startTimer c n rate kind m).watch = s.watch ∧ (s.startTimer c n rate kind m).doors = s.doors
      ∧ (s.startTimer c n rate kind m).calls = s.calls ∧ (s.startTimer c n rate kind m).table = s.table
      ∧ (s.startTimer c n rate kind m).egress = s.egress ∧ (s.startTimer c n rate kind m).light = s.light
      ∧ (s.startTimer c n rate kind m).link = s.link ∧ (s.startTimer c n rate kind m).start = s.start
      ∧ (s.startTimer c n rate kind m).troubles = s.troubles ∧ (s.startTimer c n rate kind m).buzzer = s.buzzer
      ∧ (s.startTimer c n rate kind m).keys = s.keys ∧ (s.startTimer c n rate kind m).raised = s.raised
      ∧ (s.startTimer c n rate kind m).order = s.order ∧ (s.startTimer c n rate kind m).pending = s.pending := by
  unfold State.startTimer; split <;> simp

@[simp] theorem State.enterTrouble_keeps (s : State) (x : Trouble) :
    (s.enterTrouble x).clock = s.clock ∧ (s.enterTrouble x).pins = s.pins ∧ (s.enterTrouble x).timers = s.timers
      ∧ (s.enterTrouble x).modes = s.modes ∧ (s.enterTrouble x).fire = s.fire ∧ (s.enterTrouble x).watch = s.watch
      ∧ (s.enterTrouble x).doors = s.doors ∧ (s.enterTrouble x).calls = s.calls ∧ (s.enterTrouble x).table = s.table
      ∧ (s.enterTrouble x).egress = s.egress ∧ (s.enterTrouble x).light = s.light ∧ (s.enterTrouble x).start = s.start
      ∧ (s.enterTrouble x).keys = s.keys ∧ (s.enterTrouble x).raised = s.raised ∧ (s.enterTrouble x).order = s.order
      ∧ (s.enterTrouble x).pending = s.pending := by
  unfold State.enterTrouble; (repeat' split) <;> simp

@[simp] theorem State.removeTroubles_keeps (s : State) (g : Trouble → Bool) :
    (s.removeTroubles g).clock = s.clock ∧ (s.removeTroubles g).pins = s.pins ∧ (s.removeTroubles g).timers = s.timers
      ∧ (s.removeTroubles g).modes = s.modes ∧ (s.removeTroubles g).fire = s.fire ∧ (s.removeTroubles g).watch = s.watch
      ∧ (s.removeTroubles g).doors = s.doors ∧ (s.removeTroubles g).calls = s.calls ∧ (s.removeTroubles g).table = s.table
      ∧ (s.removeTroubles g).egress = s.egress ∧ (s.removeTroubles g).light = s.light ∧ (s.removeTroubles g).start = s.start
      ∧ (s.removeTroubles g).keys = s.keys ∧ (s.removeTroubles g).raised = s.raised ∧ (s.removeTroubles g).order = s.order
      ∧ (s.removeTroubles g).pending = s.pending := by
  unfold State.removeTroubles; dsimp only; split <;> simp

@[simp] theorem State.removeTrouble_keeps (s : State) (x : Trouble) :
    (s.removeTrouble x).clock = s.clock ∧ (s.removeTrouble x).pins = s.pins ∧ (s.removeTrouble x).timers = s.timers
      ∧ (s.removeTrouble x).modes = s.modes ∧ (s.removeTrouble x).fire = s.fire ∧ (s.removeTrouble x).watch = s.watch
      ∧ (s.removeTrouble x).doors = s.doors ∧ (s.removeTrouble x).calls = s.calls ∧ (s.removeTrouble x).table = s.table
      ∧ (s.removeTrouble x).egress = s.egress ∧ (s.removeTrouble x).light = s.light ∧ (s.removeTrouble x).start = s.start
      ∧ (s.removeTrouble x).keys = s.keys ∧ (s.removeTrouble x).raised = s.raised ∧ (s.removeTrouble x).order = s.order
      ∧ (s.removeTrouble x).pending = s.pending := by
  simp [State.removeTrouble]

@[simp] theorem State.refreshLights_keeps (s : State) :
    (s.refreshLights).clock = s.clock ∧ (s.refreshLights).pins = s.pins ∧ (s.refreshLights).timers = s.timers
      ∧ (s.refreshLights).modes = s.modes ∧ (s.refreshLights).fire = s.fire ∧ (s.refreshLights).watch = s.watch
      ∧ (s.refreshLights).doors = s.doors ∧ (s.refreshLights).calls = s.calls ∧ (s.refreshLights).table = s.table
      ∧ (s.refreshLights).egress = s.egress ∧ (s.refreshLights).link = s.link ∧ (s.refreshLights).start = s.start
      ∧ (s.refreshLights).troubles = s.troubles ∧ (s.refreshLights).buzzer = s.buzzer ∧ (s.refreshLights).keys = s.keys
      ∧ (s.refreshLights).raised = s.raised ∧ (s.refreshLights).order = s.order ∧ (s.refreshLights).pending = s.pending := by
  unfold State.refreshLights; (repeat' split) <;> simp

@[simp] theorem State.pushScene_keeps (s : State) (sc : Scene) :
    (s.pushScene sc).clock = s.clock ∧ (s.pushScene sc).pins = s.pins ∧ (s.pushScene sc).timers = s.timers
      ∧ (s.pushScene sc).modes = s.modes ∧ (s.pushScene sc).fire = s.fire ∧ (s.pushScene sc).watch = s.watch
      ∧ (s.pushScene sc).doors = s.doors ∧ (s.pushScene sc).calls = s.calls ∧ (s.pushScene sc).table = s.table
      ∧ (s.pushScene sc).egress = s.egress ∧ (s.pushScene sc).link = s.link ∧ (s.pushScene sc).start = s.start
      ∧ (s.pushScene sc).troubles = s.troubles ∧ (s.pushScene sc).buzzer = s.buzzer ∧ (s.pushScene sc).keys = s.keys
      ∧ (s.pushScene sc).raised = s.raised ∧ (s.pushScene sc).order = s.order ∧ (s.pushScene sc).pending = s.pending := by
  simp [State.pushScene]

@[simp] theorem State.removeScene_keeps (s : State) (sc : Scene) :
    (s.removeScene sc).clock = s.clock ∧ (s.removeScene sc).pins = s.pins ∧ (s.removeScene sc).timers = s.timers
      ∧ (s.removeScene sc).modes = s.modes ∧ (s.removeScene sc).fire = s.fire ∧ (s.removeScene sc).watch = s.watch
      ∧ (s.removeScene sc).doors = s.doors ∧ (s.removeScene sc).calls = s.calls ∧ (s.removeScene sc).table = s.table
      ∧ (s.removeScene sc).egress = s.egress ∧ (s.removeScene sc).link = s.link ∧ (s.removeScene sc).start = s.start
      ∧ (s.removeScene sc).troubles = s.troubles ∧ (s.removeScene sc).buzzer = s.buzzer ∧ (s.removeScene sc).keys = s.keys
      ∧ (s.removeScene sc).raised = s.raised ∧ (s.removeScene sc).order = s.order ∧ (s.removeScene sc).pending = s.pending := by
  simp [State.removeScene]

@[simp] theorem State.replaceBase_keeps (s : State) :
    (s.replaceBase).clock = s.clock ∧ (s.replaceBase).pins = s.pins ∧ (s.replaceBase).timers = s.timers
      ∧ (s.replaceBase).modes = s.modes ∧ (s.replaceBase).fire = s.fire ∧ (s.replaceBase).watch = s.watch
      ∧ (s.replaceBase).doors = s.doors ∧ (s.replaceBase).calls = s.calls ∧ (s.replaceBase).table = s.table
      ∧ (s.replaceBase).egress = s.egress ∧ (s.replaceBase).link = s.link ∧ (s.replaceBase).start = s.start
      ∧ (s.replaceBase).troubles = s.troubles ∧ (s.replaceBase).buzzer = s.buzzer ∧ (s.replaceBase).keys = s.keys
      ∧ (s.replaceBase).raised = s.raised ∧ (s.replaceBase).order = s.order ∧ (s.replaceBase).pending = s.pending := by
  simp [State.replaceBase]

@[simp] theorem State.relevel_keeps (s : State) (p : Fin 4) :
    (s.relevel p).clock = s.clock ∧ (s.relevel p).pins = s.pins ∧ (s.relevel p).timers = s.timers
      ∧ (s.relevel p).modes = s.modes ∧ (s.relevel p).fire = s.fire ∧ (s.relevel p).watch = s.watch
      ∧ (s.relevel p).doors = s.doors ∧ (s.relevel p).table = s.table ∧ (s.relevel p).egress = s.egress
      ∧ (s.relevel p).light = s.light ∧ (s.relevel p).start = s.start ∧ (s.relevel p).troubles = s.troubles
      ∧ (s.relevel p).buzzer = s.buzzer ∧ (s.relevel p).keys = s.keys ∧ (s.relevel p).raised = s.raised
      ∧ (s.relevel p).order = s.order ∧ (s.relevel p).pending = s.pending := by
  unfold State.relevel; dsimp only; split <;> simp

@[simp] theorem State.relevelAll_keeps (s : State) :
    (s.relevelAll).clock = s.clock ∧ (s.relevelAll).pins = s.pins ∧ (s.relevelAll).timers = s.timers
      ∧ (s.relevelAll).modes = s.modes ∧ (s.relevelAll).fire = s.fire ∧ (s.relevelAll).watch = s.watch
      ∧ (s.relevelAll).doors = s.doors ∧ (s.relevelAll).table = s.table ∧ (s.relevelAll).egress = s.egress
      ∧ (s.relevelAll).light = s.light ∧ (s.relevelAll).start = s.start ∧ (s.relevelAll).troubles = s.troubles
      ∧ (s.relevelAll).buzzer = s.buzzer ∧ (s.relevelAll).keys = s.keys ∧ (s.relevelAll).raised = s.raised
      ∧ (s.relevelAll).pending = s.pending := by
  simp [State.relevelAll]

@[simp] theorem State.dropEntries_keeps (s : State) (g : CallEntry → Bool) :
    (s.dropEntries g).clock = s.clock ∧ (s.dropEntries g).pins = s.pins ∧ (s.dropEntries g).timers = s.timers
      ∧ (s.dropEntries g).modes = s.modes ∧ (s.dropEntries g).fire = s.fire ∧ (s.dropEntries g).watch = s.watch
      ∧ (s.dropEntries g).doors = s.doors ∧ (s.dropEntries g).table = s.table ∧ (s.dropEntries g).egress = s.egress
      ∧ (s.dropEntries g).light = s.light ∧ (s.dropEntries g).start = s.start ∧ (s.dropEntries g).troubles = s.troubles
      ∧ (s.dropEntries g).buzzer = s.buzzer ∧ (s.dropEntries g).keys = s.keys ∧ (s.dropEntries g).raised = s.raised
      ∧ (s.dropEntries g).order = s.order ∧ (s.dropEntries g).pending = s.pending := by
  simp [State.dropEntries]

@[simp] theorem State.insertEntry_keeps (s : State) (e : CallEntry) :
    (s.insertEntry e).clock = s.clock ∧ (s.insertEntry e).pins = s.pins ∧ (s.insertEntry e).timers = s.timers
      ∧ (s.insertEntry e).modes = s.modes ∧ (s.insertEntry e).fire = s.fire ∧ (s.insertEntry e).watch = s.watch
      ∧ (s.insertEntry e).doors = s.doors ∧ (s.insertEntry e).table = s.table ∧ (s.insertEntry e).egress = s.egress
      ∧ (s.insertEntry e).light = s.light ∧ (s.insertEntry e).link = s.link ∧ (s.insertEntry e).start = s.start
      ∧ (s.insertEntry e).troubles = s.troubles ∧ (s.insertEntry e).keys = s.keys ∧ (s.insertEntry e).raised = s.raised
      ∧ (s.insertEntry e).order = s.order ∧ (s.insertEntry e).pending = s.pending := by
  simp [State.insertEntry]

@[simp] theorem State.insertLocal_keeps (s : State) (p : Fin 4) :
    (s.insertLocal p).clock = s.clock ∧ (s.insertLocal p).pins = s.pins ∧ (s.insertLocal p).timers = s.timers
      ∧ (s.insertLocal p).modes = s.modes ∧ (s.insertLocal p).fire = s.fire ∧ (s.insertLocal p).watch = s.watch
      ∧ (s.insertLocal p).doors = s.doors ∧ (s.insertLocal p).table = s.table ∧ (s.insertLocal p).egress = s.egress
      ∧ (s.insertLocal p).light = s.light ∧ (s.insertLocal p).start = s.start ∧ (s.insertLocal p).keys = s.keys
      ∧ (s.insertLocal p).raised = s.raised ∧ (s.insertLocal p).order = s.order ∧ (s.insertLocal p).pending = s.pending := by
  unfold State.insertLocal; (repeat' split) <;> simp

@[simp] theorem State.syncEntry_keeps (s : State) (p : Fin 4) :
    (s.syncEntry p).clock = s.clock ∧ (s.syncEntry p).pins = s.pins ∧ (s.syncEntry p).timers = s.timers
      ∧ (s.syncEntry p).modes = s.modes ∧ (s.syncEntry p).fire = s.fire ∧ (s.syncEntry p).watch = s.watch
      ∧ (s.syncEntry p).doors = s.doors ∧ (s.syncEntry p).table = s.table ∧ (s.syncEntry p).egress = s.egress
      ∧ (s.syncEntry p).light = s.light ∧ (s.syncEntry p).link = s.link ∧ (s.syncEntry p).start = s.start
      ∧ (s.syncEntry p).troubles = s.troubles ∧ (s.syncEntry p).buzzer = s.buzzer ∧ (s.syncEntry p).keys = s.keys
      ∧ (s.syncEntry p).raised = s.raised ∧ (s.syncEntry p).order = s.order ∧ (s.syncEntry p).pending = s.pending := by
  simp [State.syncEntry]

@[simp] theorem State.startEscalation_keeps (s : State) (p : Fin 4) :
    (s.startEscalation p).clock = s.clock ∧ (s.startEscalation p).pins = s.pins ∧ (s.startEscalation p).modes = s.modes
      ∧ (s.startEscalation p).fire = s.fire ∧ (s.startEscalation p).watch = s.watch ∧ (s.startEscalation p).doors = s.doors
      ∧ (s.startEscalation p).calls = s.calls ∧ (s.startEscalation p).table = s.table
      ∧ (s.startEscalation p).egress = s.egress ∧ (s.startEscalation p).light = s.light
      ∧ (s.startEscalation p).link = s.link ∧ (s.startEscalation p).start = s.start
      ∧ (s.startEscalation p).troubles = s.troubles ∧ (s.startEscalation p).buzzer = s.buzzer
      ∧ (s.startEscalation p).keys = s.keys ∧ (s.startEscalation p).raised = s.raised
      ∧ (s.startEscalation p).order = s.order ∧ (s.startEscalation p).pending = s.pending := by
  simp [State.startEscalation]

@[simp] theorem State.startAttend_keeps (s : State) (p : Fin 4) :
    (s.startAttend p).clock = s.clock ∧ (s.startAttend p).pins = s.pins ∧ (s.startAttend p).modes = s.modes
      ∧ (s.startAttend p).fire = s.fire ∧ (s.startAttend p).watch = s.watch ∧ (s.startAttend p).doors = s.doors
      ∧ (s.startAttend p).calls = s.calls ∧ (s.startAttend p).table = s.table ∧ (s.startAttend p).egress = s.egress
      ∧ (s.startAttend p).light = s.light ∧ (s.startAttend p).link = s.link ∧ (s.startAttend p).start = s.start
      ∧ (s.startAttend p).troubles = s.troubles ∧ (s.startAttend p).buzzer = s.buzzer ∧ (s.startAttend p).keys = s.keys
      ∧ (s.startAttend p).raised = s.raised ∧ (s.startAttend p).order = s.order ∧ (s.startAttend p).pending = s.pending := by
  simp [State.startAttend]

@[simp] theorem State.raiseCall_keeps (s : State) (p : Fin 4) :
    (s.raiseCall p).clock = s.clock ∧ (s.raiseCall p).pins = s.pins ∧ (s.raiseCall p).modes = s.modes
      ∧ (s.raiseCall p).fire = s.fire ∧ (s.raiseCall p).watch = s.watch ∧ (s.raiseCall p).doors = s.doors
      ∧ (s.raiseCall p).table = s.table ∧ (s.raiseCall p).egress = s.egress ∧ (s.raiseCall p).light = s.light
      ∧ (s.raiseCall p).start = s.start ∧ (s.raiseCall p).keys = s.keys ∧ (s.raiseCall p).raised = s.raised
      ∧ (s.raiseCall p).order = s.order ∧ (s.raiseCall p).pending = s.pending := by
  unfold State.raiseCall; split <;> simp

@[simp] theorem State.takeOffer_keeps (s : State) (p : Fin 4) (n : Station) :
    (s.takeOffer p n).clock = s.clock ∧ (s.takeOffer p n).pins = s.pins ∧ (s.takeOffer p n).modes = s.modes
      ∧ (s.takeOffer p n).fire = s.fire ∧ (s.takeOffer p n).watch = s.watch ∧ (s.takeOffer p n).doors = s.doors
      ∧ (s.takeOffer p n).table = s.table ∧ (s.takeOffer p n).egress = s.egress ∧ (s.takeOffer p n).light = s.light
      ∧ (s.takeOffer p n).start = s.start ∧ (s.takeOffer p n).troubles = s.troubles ∧ (s.takeOffer p n).buzzer = s.buzzer
      ∧ (s.takeOffer p n).keys = s.keys ∧ (s.takeOffer p n).raised = s.raised ∧ (s.takeOffer p n).order = s.order
      ∧ (s.takeOffer p n).pending = s.pending := by
  unfold State.takeOffer; dsimp only; (repeat' split) <;> simp

@[simp] theorem State.hurry_keeps (s : State) (p : Fin 4) :
    (s.hurry p).clock = s.clock ∧ (s.hurry p).pins = s.pins ∧ (s.hurry p).timers = s.timers ∧ (s.hurry p).modes = s.modes
      ∧ (s.hurry p).fire = s.fire ∧ (s.hurry p).watch = s.watch ∧ (s.hurry p).doors = s.doors ∧ (s.hurry p).table = s.table
      ∧ (s.hurry p).egress = s.egress ∧ (s.hurry p).light = s.light ∧ (s.hurry p).link = s.link
      ∧ (s.hurry p).start = s.start ∧ (s.hurry p).troubles = s.troubles ∧ (s.hurry p).buzzer = s.buzzer
      ∧ (s.hurry p).keys = s.keys ∧ (s.hurry p).raised = s.raised ∧ (s.hurry p).order = s.order
      ∧ (s.hurry p).pending = s.pending := by
  unfold State.hurry; split <;> simp

@[simp] theorem State.escalate_keeps (s : State) (p : Fin 4) :
    (s.escalate p).clock = s.clock ∧ (s.escalate p).pins = s.pins ∧ (s.escalate p).modes = s.modes
      ∧ (s.escalate p).fire = s.fire ∧ (s.escalate p).watch = s.watch ∧ (s.escalate p).doors = s.doors
      ∧ (s.escalate p).table = s.table ∧ (s.escalate p).egress = s.egress ∧ (s.escalate p).light = s.light
      ∧ (s.escalate p).start = s.start ∧ (s.escalate p).troubles = s.troubles ∧ (s.escalate p).buzzer = s.buzzer
      ∧ (s.escalate p).keys = s.keys ∧ (s.escalate p).raised = s.raised ∧ (s.escalate p).order = s.order
      ∧ (s.escalate p).pending = s.pending := by
  unfold State.escalate; split <;> simp

@[simp] theorem State.attendLapse_keeps (s : State) (p : Fin 4) :
    (s.attendLapse p).clock = s.clock ∧ (s.attendLapse p).pins = s.pins ∧ (s.attendLapse p).modes = s.modes
      ∧ (s.attendLapse p).fire = s.fire ∧ (s.attendLapse p).watch = s.watch ∧ (s.attendLapse p).doors = s.doors
      ∧ (s.attendLapse p).table = s.table ∧ (s.attendLapse p).egress = s.egress ∧ (s.attendLapse p).light = s.light
      ∧ (s.attendLapse p).start = s.start ∧ (s.attendLapse p).troubles = s.troubles ∧ (s.attendLapse p).buzzer = s.buzzer
      ∧ (s.attendLapse p).keys = s.keys ∧ (s.attendLapse p).raised = s.raised ∧ (s.attendLapse p).order = s.order
      ∧ (s.attendLapse p).pending = s.pending := by
  unfold State.attendLapse; split <;> simp

@[simp] theorem State.clearPoint_keeps (s : State) (p : Fin 4) :
    (s.clearPoint p).clock = s.clock ∧ (s.clearPoint p).pins = s.pins ∧ (s.clearPoint p).modes = s.modes
      ∧ (s.clearPoint p).fire = s.fire ∧ (s.clearPoint p).watch = s.watch ∧ (s.clearPoint p).doors = s.doors
      ∧ (s.clearPoint p).table = s.table ∧ (s.clearPoint p).egress = s.egress ∧ (s.clearPoint p).light = s.light
      ∧ (s.clearPoint p).start = s.start ∧ (s.clearPoint p).troubles = s.troubles ∧ (s.clearPoint p).buzzer = s.buzzer
      ∧ (s.clearPoint p).keys = s.keys ∧ (s.clearPoint p).raised = s.raised ∧ (s.clearPoint p).order = s.order
      ∧ (s.clearPoint p).pending = s.pending := by
  unfold State.clearPoint; split <;> simp

@[simp] theorem State.clearPoints_keeps (s : State) :
    (s.clearPoints).clock = s.clock ∧ (s.clearPoints).pins = s.pins ∧ (s.clearPoints).modes = s.modes
      ∧ (s.clearPoints).fire = s.fire ∧ (s.clearPoints).watch = s.watch ∧ (s.clearPoints).doors = s.doors
      ∧ (s.clearPoints).table = s.table ∧ (s.clearPoints).egress = s.egress ∧ (s.clearPoints).light = s.light
      ∧ (s.clearPoints).start = s.start ∧ (s.clearPoints).troubles = s.troubles ∧ (s.clearPoints).buzzer = s.buzzer
      ∧ (s.clearPoints).keys = s.keys ∧ (s.clearPoints).raised = s.raised ∧ (s.clearPoints).order = s.order
      ∧ (s.clearPoints).pending = s.pending := by
  simp [State.clearPoints]

@[simp] theorem State.setOffered_keeps (s : State) (id : CallId) (b : Bool) :
    (s.setOffered id b).clock = s.clock ∧ (s.setOffered id b).pins = s.pins ∧ (s.setOffered id b).timers = s.timers
      ∧ (s.setOffered id b).modes = s.modes ∧ (s.setOffered id b).fire = s.fire ∧ (s.setOffered id b).watch = s.watch
      ∧ (s.setOffered id b).doors = s.doors ∧ (s.setOffered id b).table = s.table ∧ (s.setOffered id b).egress = s.egress
      ∧ (s.setOffered id b).light = s.light ∧ (s.setOffered id b).link = s.link ∧ (s.setOffered id b).start = s.start
      ∧ (s.setOffered id b).troubles = s.troubles ∧ (s.setOffered id b).buzzer = s.buzzer
      ∧ (s.setOffered id b).keys = s.keys ∧ (s.setOffered id b).raised = s.raised ∧ (s.setOffered id b).order = s.order
      ∧ (s.setOffered id b).pending = s.pending := by
  simp [State.setOffered]

@[simp] theorem State.loadOffer_keeps (s : State) (id : CallId) :
    (s.loadOffer id).clock = s.clock ∧ (s.loadOffer id).pins = s.pins ∧ (s.loadOffer id).timers = s.timers
      ∧ (s.loadOffer id).modes = s.modes ∧ (s.loadOffer id).fire = s.fire ∧ (s.loadOffer id).watch = s.watch
      ∧ (s.loadOffer id).doors = s.doors ∧ (s.loadOffer id).table = s.table ∧ (s.loadOffer id).egress = s.egress
      ∧ (s.loadOffer id).light = s.light ∧ (s.loadOffer id).start = s.start ∧ (s.loadOffer id).troubles = s.troubles
      ∧ (s.loadOffer id).buzzer = s.buzzer ∧ (s.loadOffer id).keys = s.keys ∧ (s.loadOffer id).raised = s.raised
      ∧ (s.loadOffer id).order = s.order ∧ (s.loadOffer id).pending = s.pending := by
  unfold State.loadOffer; split <;> simp

@[simp] theorem State.acceptCall_keeps (s : State) :
    (s.acceptCall).clock = s.clock ∧ (s.acceptCall).pins = s.pins ∧ (s.acceptCall).modes = s.modes
      ∧ (s.acceptCall).fire = s.fire ∧ (s.acceptCall).watch = s.watch ∧ (s.acceptCall).doors = s.doors
      ∧ (s.acceptCall).table = s.table ∧ (s.acceptCall).egress = s.egress ∧ (s.acceptCall).light = s.light
      ∧ (s.acceptCall).start = s.start ∧ (s.acceptCall).troubles = s.troubles ∧ (s.acceptCall).keys = s.keys
      ∧ (s.acceptCall).raised = s.raised ∧ (s.acceptCall).order = s.order ∧ (s.acceptCall).pending = s.pending := by
  unfold State.acceptCall; (repeat' split) <;> simp

@[simp] theorem State.sweepCalls_keeps (s : State) :
    (s.sweepCalls).clock = s.clock ∧ (s.sweepCalls).pins = s.pins ∧ (s.sweepCalls).timers = s.timers
      ∧ (s.sweepCalls).modes = s.modes ∧ (s.sweepCalls).fire = s.fire ∧ (s.sweepCalls).watch = s.watch
      ∧ (s.sweepCalls).doors = s.doors ∧ (s.sweepCalls).table = s.table ∧ (s.sweepCalls).egress = s.egress
      ∧ (s.sweepCalls).light = s.light ∧ (s.sweepCalls).start = s.start ∧ (s.sweepCalls).troubles = s.troubles
      ∧ (s.sweepCalls).buzzer = s.buzzer ∧ (s.sweepCalls).keys = s.keys ∧ (s.sweepCalls).raised = s.raised
      ∧ (s.sweepCalls).order = s.order ∧ (s.sweepCalls).pending = s.pending := by
  simp [State.sweepCalls]

@[simp] theorem State.takeNotice_keeps (s : State) (id : CallId) (x : BitVec 2) (level : Nat) (a : Station) :
    (s.takeNotice id x level a).clock = s.clock ∧ (s.takeNotice id x level a).pins = s.pins
      ∧ (s.takeNotice id x level a).timers = s.timers ∧ (s.takeNotice id x level a).modes = s.modes
      ∧ (s.takeNotice id x level a).fire = s.fire ∧ (s.takeNotice id x level a).watch = s.watch
      ∧ (s.takeNotice id x level a).doors = s.doors ∧ (s.takeNotice id x level a).table = s.table
      ∧ (s.takeNotice id x level a).egress = s.egress ∧ (s.takeNotice id x level a).light = s.light
      ∧ (s.takeNotice id x level a).start = s.start ∧ (s.takeNotice id x level a).keys = s.keys
      ∧ (s.takeNotice id x level a).raised = s.raised ∧ (s.takeNotice id x level a).order = s.order
      ∧ (s.takeNotice id x level a).pending = s.pending := by
  unfold State.takeNotice; (repeat' split) <;> simp

@[simp] theorem State.takeEgress_keeps (s : State) (new : EgressUnit) (first : Bool) :
    (s.takeEgress new first).clock = s.clock ∧ (s.takeEgress new first).pins = s.pins
      ∧ (s.takeEgress new first).timers = s.timers ∧ (s.takeEgress new first).modes = s.modes
      ∧ (s.takeEgress new first).fire = s.fire ∧ (s.takeEgress new first).watch = s.watch
      ∧ (s.takeEgress new first).doors = s.doors ∧ (s.takeEgress new first).table = s.table
      ∧ (s.takeEgress new first).start = s.start ∧ (s.takeEgress new first).troubles = s.troubles
      ∧ (s.takeEgress new first).buzzer = s.buzzer ∧ (s.takeEgress new first).keys = s.keys
      ∧ (s.takeEgress new first).raised = s.raised ∧ (s.takeEgress new first).pending = s.pending := by
  unfold State.takeEgress; dsimp only; (repeat' split) <;> simp

@[simp] theorem State.recomputeEgress_keeps (s : State) :
    (s.recomputeEgress).clock = s.clock ∧ (s.recomputeEgress).pins = s.pins ∧ (s.recomputeEgress).timers = s.timers
      ∧ (s.recomputeEgress).modes = s.modes ∧ (s.recomputeEgress).fire = s.fire ∧ (s.recomputeEgress).watch = s.watch
      ∧ (s.recomputeEgress).doors = s.doors ∧ (s.recomputeEgress).table = s.table ∧ (s.recomputeEgress).start = s.start
      ∧ (s.recomputeEgress).troubles = s.troubles ∧ (s.recomputeEgress).buzzer = s.buzzer
      ∧ (s.recomputeEgress).keys = s.keys ∧ (s.recomputeEgress).raised = s.raised ∧ (s.recomputeEgress).pending = s.pending := by
  unfold State.recomputeEgress; (repeat' split) <;> simp

@[simp] theorem State.firstEgress_keeps (s : State) :
    (s.firstEgress).clock = s.clock ∧ (s.firstEgress).pins = s.pins ∧ (s.firstEgress).timers = s.timers
      ∧ (s.firstEgress).modes = s.modes ∧ (s.firstEgress).fire = s.fire ∧ (s.firstEgress).watch = s.watch
      ∧ (s.firstEgress).doors = s.doors ∧ (s.firstEgress).table = s.table ∧ (s.firstEgress).start = s.start
      ∧ (s.firstEgress).troubles = s.troubles ∧ (s.firstEgress).buzzer = s.buzzer ∧ (s.firstEgress).keys = s.keys
      ∧ (s.firstEgress).raised = s.raised ∧ (s.firstEgress).pending = s.pending := by
  simp [State.firstEgress]

@[simp] theorem State.driveLock_keeps (s : State) (d : Fin 4) :
    (s.driveLock d).clock = s.clock ∧ (s.driveLock d).pins = s.pins ∧ (s.driveLock d).timers = s.timers
      ∧ (s.driveLock d).modes = s.modes ∧ (s.driveLock d).fire = s.fire ∧ (s.driveLock d).watch = s.watch
      ∧ (s.driveLock d).table = s.table ∧ (s.driveLock d).start = s.start ∧ (s.driveLock d).troubles = s.troubles
      ∧ (s.driveLock d).buzzer = s.buzzer ∧ (s.driveLock d).keys = s.keys ∧ (s.driveLock d).raised = s.raised
      ∧ (s.driveLock d).pending = s.pending := by
  unfold State.driveLock; dsimp only; split <;> simp

@[simp] theorem State.startTravel_keeps (s : State) (d : Fin 4) :
    (s.startTravel d).clock = s.clock ∧ (s.startTravel d).pins = s.pins ∧ (s.startTravel d).modes = s.modes
      ∧ (s.startTravel d).fire = s.fire ∧ (s.startTravel d).watch = s.watch ∧ (s.startTravel d).doors = s.doors
      ∧ (s.startTravel d).calls = s.calls ∧ (s.startTravel d).table = s.table ∧ (s.startTravel d).egress = s.egress
      ∧ (s.startTravel d).light = s.light ∧ (s.startTravel d).link = s.link ∧ (s.startTravel d).start = s.start
      ∧ (s.startTravel d).troubles = s.troubles ∧ (s.startTravel d).buzzer = s.buzzer ∧ (s.startTravel d).keys = s.keys
      ∧ (s.startTravel d).raised = s.raised ∧ (s.startTravel d).order = s.order ∧ (s.startTravel d).pending = s.pending := by
  simp [State.startTravel]

@[simp] theorem State.startAjar_keeps (s : State) (d : Fin 4) :
    (s.startAjar d).clock = s.clock ∧ (s.startAjar d).pins = s.pins ∧ (s.startAjar d).modes = s.modes
      ∧ (s.startAjar d).fire = s.fire ∧ (s.startAjar d).watch = s.watch ∧ (s.startAjar d).doors = s.doors
      ∧ (s.startAjar d).calls = s.calls ∧ (s.startAjar d).table = s.table ∧ (s.startAjar d).egress = s.egress
      ∧ (s.startAjar d).light = s.light ∧ (s.startAjar d).link = s.link ∧ (s.startAjar d).start = s.start
      ∧ (s.startAjar d).troubles = s.troubles ∧ (s.startAjar d).buzzer = s.buzzer ∧ (s.startAjar d).keys = s.keys
      ∧ (s.startAjar d).raised = s.raised ∧ (s.startAjar d).order = s.order ∧ (s.startAjar d).pending = s.pending := by
  simp [State.startAjar]

@[simp] theorem State.holdChanged_keeps (s : State) (d : Fin 4) :
    (s.holdChanged d).clock = s.clock ∧ (s.holdChanged d).pins = s.pins ∧ (s.holdChanged d).modes = s.modes
      ∧ (s.holdChanged d).fire = s.fire ∧ (s.holdChanged d).watch = s.watch ∧ (s.holdChanged d).calls = s.calls
      ∧ (s.holdChanged d).table = s.table ∧ (s.holdChanged d).egress = s.egress ∧ (s.holdChanged d).light = s.light
      ∧ (s.holdChanged d).link = s.link ∧ (s.holdChanged d).start = s.start ∧ (s.holdChanged d).troubles = s.troubles
      ∧ (s.holdChanged d).buzzer = s.buzzer ∧ (s.holdChanged d).keys = s.keys ∧ (s.holdChanged d).raised = s.raised
      ∧ (s.holdChanged d).order = s.order ∧ (s.holdChanged d).pending = s.pending := by
  unfold State.holdChanged; dsimp only; (repeat' split) <;> simp

@[simp] theorem State.driveHold_keeps (s : State) (d : Fin 4) :
    (s.driveHold d).clock = s.clock ∧ (s.driveHold d).pins = s.pins ∧ (s.driveHold d).modes = s.modes
      ∧ (s.driveHold d).fire = s.fire ∧ (s.driveHold d).watch = s.watch ∧ (s.driveHold d).calls = s.calls
      ∧ (s.driveHold d).table = s.table ∧ (s.driveHold d).egress = s.egress ∧ (s.driveHold d).light = s.light
      ∧ (s.driveHold d).link = s.link ∧ (s.driveHold d).start = s.start ∧ (s.driveHold d).troubles = s.troubles
      ∧ (s.driveHold d).buzzer = s.buzzer ∧ (s.driveHold d).keys = s.keys ∧ (s.driveHold d).raised = s.raised
      ∧ (s.driveHold d).order = s.order ∧ (s.driveHold d).pending = s.pending := by
  unfold State.driveHold; dsimp only; (repeat' split) <;> simp

@[simp] theorem State.ajarUpdate_keeps (s : State) (d : Fin 4) :
    (s.ajarUpdate d).clock = s.clock ∧ (s.ajarUpdate d).pins = s.pins ∧ (s.ajarUpdate d).modes = s.modes
      ∧ (s.ajarUpdate d).fire = s.fire ∧ (s.ajarUpdate d).watch = s.watch ∧ (s.ajarUpdate d).calls = s.calls
      ∧ (s.ajarUpdate d).table = s.table ∧ (s.ajarUpdate d).egress = s.egress ∧ (s.ajarUpdate d).light = s.light
      ∧ (s.ajarUpdate d).link = s.link ∧ (s.ajarUpdate d).start = s.start ∧ (s.ajarUpdate d).troubles = s.troubles
      ∧ (s.ajarUpdate d).buzzer = s.buzzer ∧ (s.ajarUpdate d).keys = s.keys ∧ (s.ajarUpdate d).raised = s.raised
      ∧ (s.ajarUpdate d).order = s.order ∧ (s.ajarUpdate d).pending = s.pending := by
  unfold State.ajarUpdate; dsimp only; (repeat' split) <;> simp

@[simp] theorem State.resolve_keeps (s : State) (d : Fin 4) :
    (s.resolve d).clock = s.clock ∧ (s.resolve d).pins = s.pins ∧ (s.resolve d).modes = s.modes
      ∧ (s.resolve d).fire = s.fire ∧ (s.resolve d).watch = s.watch ∧ (s.resolve d).table = s.table
      ∧ (s.resolve d).start = s.start ∧ (s.resolve d).troubles = s.troubles ∧ (s.resolve d).buzzer = s.buzzer
      ∧ (s.resolve d).keys = s.keys ∧ (s.resolve d).raised = s.raised ∧ (s.resolve d).pending = s.pending := by
  unfold State.resolve; split <;> simp

@[simp] theorem State.resolveAll_keeps (s : State) :
    (s.resolveAll).clock = s.clock ∧ (s.resolveAll).pins = s.pins ∧ (s.resolveAll).modes = s.modes
      ∧ (s.resolveAll).fire = s.fire ∧ (s.resolveAll).watch = s.watch ∧ (s.resolveAll).table = s.table
      ∧ (s.resolveAll).start = s.start ∧ (s.resolveAll).troubles = s.troubles ∧ (s.resolveAll).buzzer = s.buzzer
      ∧ (s.resolveAll).keys = s.keys ∧ (s.resolveAll).raised = s.raised ∧ (s.resolveAll).pending = s.pending := by
  simp [State.resolveAll]

@[simp] theorem State.resolveToward_keeps (s : State) (n : Station) :
    (s.resolveToward n).clock = s.clock ∧ (s.resolveToward n).pins = s.pins ∧ (s.resolveToward n).modes = s.modes
      ∧ (s.resolveToward n).fire = s.fire ∧ (s.resolveToward n).watch = s.watch ∧ (s.resolveToward n).table = s.table
      ∧ (s.resolveToward n).start = s.start ∧ (s.resolveToward n).troubles = s.troubles
      ∧ (s.resolveToward n).buzzer = s.buzzer ∧ (s.resolveToward n).keys = s.keys ∧ (s.resolveToward n).raised = s.raised
      ∧ (s.resolveToward n).pending = s.pending := by
  have h := fun (l : List (Fin 4)) (t : State) => deliver_keeps (fun u : State => (u.clock, u.pins, u.modes, u.fire,
    u.watch, u.table, u.start, u.troubles, u.buzzer, u.keys, u.raised, u.pending))
    (fun _ _ => rfl) (l.map fun d (u : State) => u.resolve d) (by simp) t
  simp only [Prod.mk.injEq] at h
  simp [State.resolveToward, h]

@[simp] theorem State.release_keeps (s : State) :
    (s.release).clock = s.clock ∧ (s.release).pins = s.pins ∧ (s.release).modes = s.modes ∧ (s.release).fire = s.fire
      ∧ (s.release).watch = s.watch ∧ (s.release).table = s.table ∧ (s.release).troubles = s.troubles
      ∧ (s.release).buzzer = s.buzzer ∧ (s.release).keys = s.keys ∧ (s.release).raised = s.raised
      ∧ (s.release).pending = s.pending := by
  have h := fun (l : List (Fin 4)) (t : State) => deliver_keeps (fun u : State => (u.clock, u.pins, u.modes, u.fire,
    u.watch, u.table, u.troubles, u.buzzer, u.keys, u.raised, u.pending))
    (fun _ _ => rfl) (l.map fun d (u : State) => u.resolve d) (by simp) t
  simp only [Prod.mk.injEq] at h
  unfold State.release; split <;> simp [h]

@[simp] theorem State.doorCloses_keeps (s : State) (d : Fin 4) :
    (s.doorCloses d).clock = s.clock ∧ (s.doorCloses d).pins = s.pins ∧ (s.doorCloses d).modes = s.modes
      ∧ (s.doorCloses d).fire = s.fire ∧ (s.doorCloses d).watch = s.watch ∧ (s.doorCloses d).table = s.table
      ∧ (s.doorCloses d).start = s.start ∧ (s.doorCloses d).keys = s.keys ∧ (s.doorCloses d).raised = s.raised
      ∧ (s.doorCloses d).pending = s.pending := by
  simp [State.doorCloses]

@[simp] theorem State.doorOpens_keeps (s : State) (d : Fin 4) :
    (s.doorOpens d).clock = s.clock ∧ (s.doorOpens d).pins = s.pins ∧ (s.doorOpens d).modes = s.modes
      ∧ (s.doorOpens d).fire = s.fire ∧ (s.doorOpens d).watch = s.watch ∧ (s.doorOpens d).table = s.table
      ∧ (s.doorOpens d).start = s.start ∧ (s.doorOpens d).keys = s.keys ∧ (s.doorOpens d).raised = s.raised
      ∧ (s.doorOpens d).pending = s.pending := by
  simp [State.doorOpens]

@[simp] theorem State.doorLost_keeps (s : State) (d : Fin 4) :
    (s.doorLost d).clock = s.clock ∧ (s.doorLost d).pins = s.pins ∧ (s.doorLost d).modes = s.modes
      ∧ (s.doorLost d).fire = s.fire ∧ (s.doorLost d).watch = s.watch ∧ (s.doorLost d).table = s.table
      ∧ (s.doorLost d).start = s.start ∧ (s.doorLost d).keys = s.keys ∧ (s.doorLost d).raised = s.raised
      ∧ (s.doorLost d).pending = s.pending := by
  simp [State.doorLost]

@[simp] theorem State.firstReading_keeps (s : State) (d : Fin 4) (p : Position) :
    (s.firstReading d p).clock = s.clock ∧ (s.firstReading d p).pins = s.pins ∧ (s.firstReading d p).modes = s.modes
      ∧ (s.firstReading d p).fire = s.fire ∧ (s.firstReading d p).watch = s.watch ∧ (s.firstReading d p).table = s.table
      ∧ (s.firstReading d p).start = s.start ∧ (s.firstReading d p).keys = s.keys ∧ (s.firstReading d p).raised = s.raised
      ∧ (s.firstReading d p).pending = s.pending := by
  unfold State.firstReading; split <;> simp

@[simp] theorem State.travelLapse_keeps (s : State) (d : Fin 4) :
    (s.travelLapse d).clock = s.clock ∧ (s.travelLapse d).pins = s.pins ∧ (s.travelLapse d).modes = s.modes
      ∧ (s.travelLapse d).fire = s.fire ∧ (s.travelLapse d).watch = s.watch ∧ (s.travelLapse d).calls = s.calls
      ∧ (s.travelLapse d).table = s.table ∧ (s.travelLapse d).egress = s.egress ∧ (s.travelLapse d).light = s.light
      ∧ (s.travelLapse d).start = s.start ∧ (s.travelLapse d).keys = s.keys ∧ (s.travelLapse d).raised = s.raised
      ∧ (s.travelLapse d).order = s.order ∧ (s.travelLapse d).pending = s.pending := by
  unfold State.travelLapse; dsimp only; split <;> simp

@[simp] theorem State.setSounderSilenced_keeps (s : State) (b : Bool) :
    (s.setSounderSilenced b).clock = s.clock ∧ (s.setSounderSilenced b).pins = s.pins
      ∧ (s.setSounderSilenced b).timers = s.timers ∧ (s.setSounderSilenced b).modes = s.modes
      ∧ (s.setSounderSilenced b).watch = s.watch ∧ (s.setSounderSilenced b).doors = s.doors
      ∧ (s.setSounderSilenced b).calls = s.calls ∧ (s.setSounderSilenced b).table = s.table
      ∧ (s.setSounderSilenced b).egress = s.egress ∧ (s.setSounderSilenced b).link = s.link
      ∧ (s.setSounderSilenced b).start = s.start ∧ (s.setSounderSilenced b).troubles = s.troubles
      ∧ (s.setSounderSilenced b).buzzer = s.buzzer ∧ (s.setSounderSilenced b).keys = s.keys
      ∧ (s.setSounderSilenced b).raised = s.raised ∧ (s.setSounderSilenced b).order = s.order
      ∧ (s.setSounderSilenced b).pending = s.pending := by
  simp [State.setSounderSilenced]

@[simp] theorem State.startRefresh_keeps (s : State) :
    (s.startRefresh).clock = s.clock ∧ (s.startRefresh).pins = s.pins ∧ (s.startRefresh).modes = s.modes
      ∧ (s.startRefresh).fire = s.fire ∧ (s.startRefresh).watch = s.watch ∧ (s.startRefresh).doors = s.doors
      ∧ (s.startRefresh).calls = s.calls ∧ (s.startRefresh).table = s.table ∧ (s.startRefresh).egress = s.egress
      ∧ (s.startRefresh).light = s.light ∧ (s.startRefresh).link = s.link ∧ (s.startRefresh).start = s.start
      ∧ (s.startRefresh).troubles = s.troubles ∧ (s.startRefresh).buzzer = s.buzzer ∧ (s.startRefresh).keys = s.keys
      ∧ (s.startRefresh).raised = s.raised ∧ (s.startRefresh).order = s.order ∧ (s.startRefresh).pending = s.pending := by
  simp [State.startRefresh]

@[simp] theorem State.recomputeEvac_keeps (s : State) :
    (s.recomputeEvac).clock = s.clock ∧ (s.recomputeEvac).pins = s.pins ∧ (s.recomputeEvac).modes = s.modes
      ∧ (s.recomputeEvac).watch = s.watch ∧ (s.recomputeEvac).table = s.table ∧ (s.recomputeEvac).troubles = s.troubles
      ∧ (s.recomputeEvac).buzzer = s.buzzer ∧ (s.recomputeEvac).keys = s.keys ∧ (s.recomputeEvac).raised = s.raised
      ∧ (s.recomputeEvac).pending = s.pending := by
  unfold State.recomputeEvac; dsimp only
  (repeat' split) <;> simp [apply_ite State.clock, apply_ite State.pins, apply_ite State.modes, apply_ite State.watch,
    apply_ite State.table, apply_ite State.troubles, apply_ite State.buzzer, apply_ite State.keys,
    apply_ite State.raised, apply_ite State.pending]

@[simp] theorem State.setFireState_keeps (s : State) (f : FireState) :
    (s.setFireState f).clock = s.clock ∧ (s.setFireState f).pins = s.pins ∧ (s.setFireState f).modes = s.modes
      ∧ (s.setFireState f).watch = s.watch ∧ (s.setFireState f).table = s.table ∧ (s.setFireState f).troubles = s.troubles
      ∧ (s.setFireState f).buzzer = s.buzzer ∧ (s.setFireState f).keys = s.keys ∧ (s.setFireState f).raised = s.raised
      ∧ (s.setFireState f).pending = s.pending := by
  unfold State.setFireState; (repeat' split) <;> simp

@[simp] theorem State.endVerification_keeps (s : State) :
    (s.endVerification).clock = s.clock ∧ (s.endVerification).pins = s.pins ∧ (s.endVerification).modes = s.modes
      ∧ (s.endVerification).watch = s.watch ∧ (s.endVerification).doors = s.doors ∧ (s.endVerification).calls = s.calls
      ∧ (s.endVerification).table = s.table ∧ (s.endVerification).egress = s.egress ∧ (s.endVerification).light = s.light
      ∧ (s.endVerification).link = s.link ∧ (s.endVerification).start = s.start ∧ (s.endVerification).troubles = s.troubles
      ∧ (s.endVerification).keys = s.keys ∧ (s.endVerification).raised = s.raised ∧ (s.endVerification).order = s.order
      ∧ (s.endVerification).pending = s.pending := by
  simp [State.endVerification]

@[simp] theorem State.enterFire_keeps (s : State) :
    (s.enterFire).clock = s.clock ∧ (s.enterFire).pins = s.pins ∧ (s.enterFire).modes = s.modes
      ∧ (s.enterFire).watch = s.watch ∧ (s.enterFire).table = s.table ∧ (s.enterFire).troubles = s.troubles
      ∧ (s.enterFire).keys = s.keys ∧ (s.enterFire).raised = s.raised ∧ (s.enterFire).pending = s.pending := by
  unfold State.enterFire; split <;> simp

@[simp] theorem State.enterVerify_keeps (s : State) (l : Fin 6) :
    (s.enterVerify l).clock = s.clock ∧ (s.enterVerify l).pins = s.pins ∧ (s.enterVerify l).modes = s.modes
      ∧ (s.enterVerify l).watch = s.watch ∧ (s.enterVerify l).table = s.table ∧ (s.enterVerify l).troubles = s.troubles
      ∧ (s.enterVerify l).keys = s.keys ∧ (s.enterVerify l).raised = s.raised ∧ (s.enterVerify l).pending = s.pending := by
  simp [State.enterVerify]

@[simp] theorem State.loopAlarm_keeps (s : State) (l : Fin 6) :
    (s.loopAlarm l).clock = s.clock ∧ (s.loopAlarm l).pins = s.pins ∧ (s.loopAlarm l).modes = s.modes
      ∧ (s.loopAlarm l).watch = s.watch ∧ (s.loopAlarm l).table = s.table ∧ (s.loopAlarm l).troubles = s.troubles
      ∧ (s.loopAlarm l).keys = s.keys ∧ (s.loopAlarm l).raised = s.raised ∧ (s.loopAlarm l).pending = s.pending := by
  unfold State.loopAlarm; (repeat' split) <;> simp

@[simp] theorem State.loopTrouble_keeps (s : State) (l : Fin 6) (old new : LoopBand) :
    (s.loopTrouble l old new).clock = s.clock ∧ (s.loopTrouble l old new).pins = s.pins
      ∧ (s.loopTrouble l old new).timers = s.timers ∧ (s.loopTrouble l old new).modes = s.modes
      ∧ (s.loopTrouble l old new).fire = s.fire ∧ (s.loopTrouble l old new).watch = s.watch
      ∧ (s.loopTrouble l old new).doors = s.doors ∧ (s.loopTrouble l old new).calls = s.calls
      ∧ (s.loopTrouble l old new).table = s.table ∧ (s.loopTrouble l old new).egress = s.egress
      ∧ (s.loopTrouble l old new).light = s.light ∧ (s.loopTrouble l old new).start = s.start
      ∧ (s.loopTrouble l old new).keys = s.keys ∧ (s.loopTrouble l old new).raised = s.raised
      ∧ (s.loopTrouble l old new).order = s.order ∧ (s.loopTrouble l old new).pending = s.pending := by
  unfold State.loopTrouble; (repeat' split) <;> simp

@[simp] theorem State.bandTaken_keeps (s : State) (l : Fin 6) (new : LoopBand) :
    (s.bandTaken l new).clock = s.clock ∧ (s.bandTaken l new).pins = s.pins ∧ (s.bandTaken l new).modes = s.modes
      ∧ (s.bandTaken l new).watch = s.watch ∧ (s.bandTaken l new).table = s.table ∧ (s.bandTaken l new).keys = s.keys
      ∧ (s.bandTaken l new).raised = s.raised ∧ (s.bandTaken l new).pending = s.pending := by
  unfold State.bandTaken; dsimp only; (repeat' split) <;> simp

@[simp] theorem State.ackVerification_keeps (s : State) :
    (s.ackVerification).clock = s.clock ∧ (s.ackVerification).pins = s.pins ∧ (s.ackVerification).modes = s.modes
      ∧ (s.ackVerification).watch = s.watch ∧ (s.ackVerification).doors = s.doors ∧ (s.ackVerification).calls = s.calls
      ∧ (s.ackVerification).table = s.table ∧ (s.ackVerification).egress = s.egress ∧ (s.ackVerification).light = s.light
      ∧ (s.ackVerification).link = s.link ∧ (s.ackVerification).start = s.start ∧ (s.ackVerification).troubles = s.troubles
      ∧ (s.ackVerification).keys = s.keys ∧ (s.ackVerification).raised = s.raised ∧ (s.ackVerification).order = s.order
      ∧ (s.ackVerification).pending = s.pending := by
  unfold State.ackVerification; split <;> simp

@[simp] theorem State.ackSounder_keeps (s : State) :
    (s.ackSounder).clock = s.clock ∧ (s.ackSounder).pins = s.pins ∧ (s.ackSounder).timers = s.timers
      ∧ (s.ackSounder).modes = s.modes ∧ (s.ackSounder).watch = s.watch ∧ (s.ackSounder).doors = s.doors
      ∧ (s.ackSounder).calls = s.calls ∧ (s.ackSounder).table = s.table ∧ (s.ackSounder).egress = s.egress
      ∧ (s.ackSounder).link = s.link ∧ (s.ackSounder).start = s.start ∧ (s.ackSounder).troubles = s.troubles
      ∧ (s.ackSounder).buzzer = s.buzzer ∧ (s.ackSounder).keys = s.keys ∧ (s.ackSounder).raised = s.raised
      ∧ (s.ackSounder).order = s.order ∧ (s.ackSounder).pending = s.pending := by
  unfold State.ackSounder; split <;> simp

@[simp] theorem State.restoreFire_keeps (s : State) :
    (s.restoreFire).clock = s.clock ∧ (s.restoreFire).pins = s.pins ∧ (s.restoreFire).modes = s.modes
      ∧ (s.restoreFire).watch = s.watch ∧ (s.restoreFire).table = s.table ∧ (s.restoreFire).troubles = s.troubles
      ∧ (s.restoreFire).keys = s.keys ∧ (s.restoreFire).raised = s.raised ∧ (s.restoreFire).pending = s.pending := by
  unfold State.restoreFire; (repeat' split) <;> simp

@[simp] theorem State.fireModeChange_keeps (s : State) :
    (s.fireModeChange).clock = s.clock ∧ (s.fireModeChange).pins = s.pins ∧ (s.fireModeChange).modes = s.modes
      ∧ (s.fireModeChange).watch = s.watch ∧ (s.fireModeChange).table = s.table ∧ (s.fireModeChange).troubles = s.troubles
      ∧ (s.fireModeChange).keys = s.keys ∧ (s.fireModeChange).raised = s.raised ∧ (s.fireModeChange).pending = s.pending := by
  unfold State.fireModeChange; split <;> simp

@[simp] theorem State.corroborate_keeps (s : State) :
    (s.corroborate).clock = s.clock ∧ (s.corroborate).pins = s.pins ∧ (s.corroborate).modes = s.modes
      ∧ (s.corroborate).watch = s.watch ∧ (s.corroborate).table = s.table ∧ (s.corroborate).troubles = s.troubles
      ∧ (s.corroborate).keys = s.keys ∧ (s.corroborate).raised = s.raised ∧ (s.corroborate).pending = s.pending := by
  unfold State.corroborate; split <;> simp

@[simp] theorem State.setGuard_keeps (s : State) (g : GuardState) :
    (s.setGuard g).clock = s.clock ∧ (s.setGuard g).pins = s.pins ∧ (s.setGuard g).timers = s.timers
      ∧ (s.setGuard g).modes = s.modes ∧ (s.setGuard g).fire = s.fire ∧ (s.setGuard g).doors = s.doors
      ∧ (s.setGuard g).calls = s.calls ∧ (s.setGuard g).table = s.table ∧ (s.setGuard g).egress = s.egress
      ∧ (s.setGuard g).light = s.light ∧ (s.setGuard g).start = s.start ∧ (s.setGuard g).troubles = s.troubles
      ∧ (s.setGuard g).buzzer = s.buzzer ∧ (s.setGuard g).keys = s.keys ∧ (s.setGuard g).raised = s.raised
      ∧ (s.setGuard g).order = s.order ∧ (s.setGuard g).pending = s.pending := by
  unfold State.setGuard; split <;> simp

@[simp] theorem State.setRound_keeps (s : State) (b : Bool) :
    (s.setRound b).clock = s.clock ∧ (s.setRound b).pins = s.pins ∧ (s.setRound b).timers = s.timers
      ∧ (s.setRound b).modes = s.modes ∧ (s.setRound b).fire = s.fire ∧ (s.setRound b).doors = s.doors
      ∧ (s.setRound b).calls = s.calls ∧ (s.setRound b).table = s.table ∧ (s.setRound b).egress = s.egress
      ∧ (s.setRound b).light = s.light ∧ (s.setRound b).start = s.start ∧ (s.setRound b).troubles = s.troubles
      ∧ (s.setRound b).buzzer = s.buzzer ∧ (s.setRound b).keys = s.keys ∧ (s.setRound b).raised = s.raised
      ∧ (s.setRound b).order = s.order ∧ (s.setRound b).pending = s.pending := by
  unfold State.setRound; split <;> simp

@[simp] theorem State.startExitDelay_keeps (s : State) :
    (s.startExitDelay).clock = s.clock ∧ (s.startExitDelay).pins = s.pins ∧ (s.startExitDelay).modes = s.modes
      ∧ (s.startExitDelay).fire = s.fire ∧ (s.startExitDelay).watch = s.watch ∧ (s.startExitDelay).doors = s.doors
      ∧ (s.startExitDelay).calls = s.calls ∧ (s.startExitDelay).table = s.table ∧ (s.startExitDelay).egress = s.egress
      ∧ (s.startExitDelay).light = s.light ∧ (s.startExitDelay).link = s.link ∧ (s.startExitDelay).start = s.start
      ∧ (s.startExitDelay).troubles = s.troubles ∧ (s.startExitDelay).buzzer = s.buzzer ∧ (s.startExitDelay).keys = s.keys
      ∧ (s.startExitDelay).raised = s.raised ∧ (s.startExitDelay).order = s.order ∧ (s.startExitDelay).pending = s.pending := by
  simp [State.startExitDelay]

@[simp] theorem State.startRoundTime_keeps (s : State) :
    (s.startRoundTime).clock = s.clock ∧ (s.startRoundTime).pins = s.pins ∧ (s.startRoundTime).modes = s.modes
      ∧ (s.startRoundTime).fire = s.fire ∧ (s.startRoundTime).watch = s.watch ∧ (s.startRoundTime).doors = s.doors
      ∧ (s.startRoundTime).calls = s.calls ∧ (s.startRoundTime).table = s.table ∧ (s.startRoundTime).egress = s.egress
      ∧ (s.startRoundTime).light = s.light ∧ (s.startRoundTime).link = s.link ∧ (s.startRoundTime).start = s.start
      ∧ (s.startRoundTime).troubles = s.troubles ∧ (s.startRoundTime).buzzer = s.buzzer ∧ (s.startRoundTime).keys = s.keys
      ∧ (s.startRoundTime).raised = s.raised ∧ (s.startRoundTime).order = s.order ∧ (s.startRoundTime).pending = s.pending := by
  simp [State.startRoundTime]

@[simp] theorem State.endRound_keeps (s : State) :
    (s.endRound).clock = s.clock ∧ (s.endRound).pins = s.pins ∧ (s.endRound).timers = s.timers
      ∧ (s.endRound).modes = s.modes ∧ (s.endRound).fire = s.fire ∧ (s.endRound).doors = s.doors
      ∧ (s.endRound).calls = s.calls ∧ (s.endRound).table = s.table ∧ (s.endRound).egress = s.egress
      ∧ (s.endRound).start = s.start ∧ (s.endRound).troubles = s.troubles ∧ (s.endRound).buzzer = s.buzzer
      ∧ (s.endRound).keys = s.keys ∧ (s.endRound).raised = s.raised ∧ (s.endRound).order = s.order
      ∧ (s.endRound).pending = s.pending := by
  unfold State.endRound; split <;> simp

@[simp] theorem State.watchModeChange_keeps (s : State) (old : Mode) :
    (s.watchModeChange old).clock = s.clock ∧ (s.watchModeChange old).pins = s.pins
      ∧ (s.watchModeChange old).modes = s.modes ∧ (s.watchModeChange old).fire = s.fire
      ∧ (s.watchModeChange old).doors = s.doors ∧ (s.watchModeChange old).calls = s.calls
      ∧ (s.watchModeChange old).table = s.table ∧ (s.watchModeChange old).egress = s.egress
      ∧ (s.watchModeChange old).start = s.start ∧ (s.watchModeChange old).troubles = s.troubles
      ∧ (s.watchModeChange old).buzzer = s.buzzer ∧ (s.watchModeChange old).keys = s.keys
      ∧ (s.watchModeChange old).raised = s.raised ∧ (s.watchModeChange old).order = s.order
      ∧ (s.watchModeChange old).pending = s.pending := by
  unfold State.watchModeChange; (repeat' split) <;> simp

@[simp] theorem State.respondLocal_keeps (s : State) :
    (s.respondLocal).clock = s.clock ∧ (s.respondLocal).pins = s.pins ∧ (s.respondLocal).timers = s.timers
      ∧ (s.respondLocal).modes = s.modes ∧ (s.respondLocal).fire = s.fire ∧ (s.respondLocal).doors = s.doors
      ∧ (s.respondLocal).calls = s.calls ∧ (s.respondLocal).table = s.table ∧ (s.respondLocal).egress = s.egress
      ∧ (s.respondLocal).light = s.light ∧ (s.respondLocal).link = s.link ∧ (s.respondLocal).start = s.start
      ∧ (s.respondLocal).troubles = s.troubles ∧ (s.respondLocal).keys = s.keys ∧ (s.respondLocal).raised = s.raised
      ∧ (s.respondLocal).order = s.order ∧ (s.respondLocal).pending = s.pending := by
  simp [State.respondLocal]

@[simp] theorem State.respondAlert_keeps (s : State) :
    (s.respondAlert).clock = s.clock ∧ (s.respondAlert).pins = s.pins ∧ (s.respondAlert).modes = s.modes
      ∧ (s.respondAlert).fire = s.fire ∧ (s.respondAlert).table = s.table ∧ (s.respondAlert).start = s.start
      ∧ (s.respondAlert).troubles = s.troubles ∧ (s.respondAlert).buzzer = s.buzzer ∧ (s.respondAlert).keys = s.keys
      ∧ (s.respondAlert).raised = s.raised ∧ (s.respondAlert).pending = s.pending := by
  unfold State.respondAlert; split <;> simp

@[simp] theorem State.respond_keeps (s : State) (r : Response) :
    (s.respond r).clock = s.clock ∧ (s.respond r).pins = s.pins ∧ (s.respond r).modes = s.modes
      ∧ (s.respond r).fire = s.fire ∧ (s.respond r).table = s.table ∧ (s.respond r).start = s.start
      ∧ (s.respond r).troubles = s.troubles ∧ (s.respond r).keys = s.keys ∧ (s.respond r).raised = s.raised
      ∧ (s.respond r).pending = s.pending := by
  unfold State.respond; split <;> simp

@[simp] theorem State.watchBandTaken_keeps (s : State) (i : Fin 8) (new : WatchBand) :
    (s.watchBandTaken i new).clock = s.clock ∧ (s.watchBandTaken i new).pins = s.pins
      ∧ (s.watchBandTaken i new).modes = s.modes ∧ (s.watchBandTaken i new).fire = s.fire
      ∧ (s.watchBandTaken i new).table = s.table ∧ (s.watchBandTaken i new).start = s.start
      ∧ (s.watchBandTaken i new).keys = s.keys ∧ (s.watchBandTaken i new).raised = s.raised
      ∧ (s.watchBandTaken i new).pending = s.pending := by
  unfold State.watchBandTaken; dsimp only; (repeat' split) <;> simp

@[simp] theorem State.buttonTaken_keeps (s : State) (p : Fin 4) :
    (s.buttonTaken p).clock = s.clock ∧ (s.buttonTaken p).pins = s.pins ∧ (s.buttonTaken p).modes = s.modes
      ∧ (s.buttonTaken p).fire = s.fire ∧ (s.buttonTaken p).table = s.table ∧ (s.buttonTaken p).start = s.start
      ∧ (s.buttonTaken p).keys = s.keys ∧ (s.buttonTaken p).raised = s.raised ∧ (s.buttonTaken p).pending = s.pending := by
  unfold State.buttonTaken; split <;> simp

@[simp] theorem State.buttonReads_keeps (s : State) (p : Fin 4) :
    (s.buttonReads p).clock = s.clock ∧ (s.buttonReads p).pins = s.pins ∧ (s.buttonReads p).modes = s.modes
      ∧ (s.buttonReads p).fire = s.fire ∧ (s.buttonReads p).table = s.table ∧ (s.buttonReads p).start = s.start
      ∧ (s.buttonReads p).keys = s.keys ∧ (s.buttonReads p).raised = s.raised ∧ (s.buttonReads p).pending = s.pending := by
  unfold State.buttonReads; split <;> simp

@[simp] theorem State.restoreWatch_keeps (s : State) :
    (s.restoreWatch).clock = s.clock ∧ (s.restoreWatch).pins = s.pins ∧ (s.restoreWatch).modes = s.modes
      ∧ (s.restoreWatch).fire = s.fire ∧ (s.restoreWatch).table = s.table ∧ (s.restoreWatch).start = s.start
      ∧ (s.restoreWatch).troubles = s.troubles ∧ (s.restoreWatch).buzzer = s.buzzer ∧ (s.restoreWatch).keys = s.keys
      ∧ (s.restoreWatch).raised = s.raised ∧ (s.restoreWatch).pending = s.pending := by
  unfold State.restoreWatch; split <;> simp

@[simp] theorem State.guardWatch_keeps (s : State) :
    (s.guardWatch).clock = s.clock ∧ (s.guardWatch).pins = s.pins ∧ (s.guardWatch).modes = s.modes
      ∧ (s.guardWatch).fire = s.fire ∧ (s.guardWatch).doors = s.doors ∧ (s.guardWatch).calls = s.calls
      ∧ (s.guardWatch).table = s.table ∧ (s.guardWatch).egress = s.egress ∧ (s.guardWatch).start = s.start
      ∧ (s.guardWatch).troubles = s.troubles ∧ (s.guardWatch).buzzer = s.buzzer ∧ (s.guardWatch).keys = s.keys
      ∧ (s.guardWatch).raised = s.raised ∧ (s.guardWatch).order = s.order ∧ (s.guardWatch).pending = s.pending := by
  unfold State.guardWatch; split <;> simp

@[simp] theorem State.changeMode_keeps (s : State) (m : Mode) :
    (s.changeMode m).clock = s.clock ∧ (s.changeMode m).pins = s.pins ∧ (s.changeMode m).table = s.table
      ∧ (s.changeMode m).troubles = s.troubles ∧ (s.changeMode m).keys = s.keys ∧ (s.changeMode m).raised = s.raised
      ∧ (s.changeMode m).pending = s.pending := by
  unfold State.changeMode; split <;> simp

@[simp] theorem State.turnKey_keeps (s : State) (m : Mode) :
    (s.turnKey m).clock = s.clock ∧ (s.turnKey m).pins = s.pins ∧ (s.turnKey m).table = s.table
      ∧ (s.turnKey m).troubles = s.troubles ∧ (s.turnKey m).keys = s.keys ∧ (s.turnKey m).raised = s.raised
      ∧ (s.turnKey m).pending = s.pending := by
  unfold State.turnKey; split <;> simp

@[simp] theorem State.hearPair_keeps (s : State) (m : Mode) (e : Byte) :
    (s.hearPair m e).clock = s.clock ∧ (s.hearPair m e).pins = s.pins ∧ (s.hearPair m e).table = s.table
      ∧ (s.hearPair m e).troubles = s.troubles ∧ (s.hearPair m e).keys = s.keys ∧ (s.hearPair m e).raised = s.raised
      ∧ (s.hearPair m e).pending = s.pending := by
  unfold State.hearPair; (repeat' split) <;> simp

@[simp] theorem State.settle_keeps (s : State) :
    (s.settle).clock = s.clock ∧ (s.settle).pins = s.pins ∧ (s.settle).table = s.table ∧ (s.settle).troubles = s.troubles
      ∧ (s.settle).keys = s.keys ∧ (s.settle).raised = s.raised ∧ (s.settle).pending = s.pending := by
  unfold State.settle; split <;> simp

@[simp] theorem State.changeEntry_keeps (s : State) (k : Fin 4) (old new : NbEntry) :
    (s.changeEntry k old new).clock = s.clock ∧ (s.changeEntry k old new).pins = s.pins
      ∧ (s.changeEntry k old new).modes = s.modes ∧ (s.changeEntry k old new).watch = s.watch
      ∧ (s.changeEntry k old new).keys = s.keys ∧ (s.changeEntry k old new).raised = s.raised
      ∧ (s.changeEntry k old new).pending = s.pending := by
  unfold State.changeEntry; (repeat' split) <;> simp

@[simp] theorem State.startSilence_keeps (s : State) (k : Fin 4) :
    (s.startSilence k).clock = s.clock ∧ (s.startSilence k).pins = s.pins ∧ (s.startSilence k).modes = s.modes
      ∧ (s.startSilence k).fire = s.fire ∧ (s.startSilence k).watch = s.watch ∧ (s.startSilence k).doors = s.doors
      ∧ (s.startSilence k).calls = s.calls ∧ (s.startSilence k).table = s.table ∧ (s.startSilence k).egress = s.egress
      ∧ (s.startSilence k).light = s.light ∧ (s.startSilence k).link = s.link ∧ (s.startSilence k).start = s.start
      ∧ (s.startSilence k).troubles = s.troubles ∧ (s.startSilence k).buzzer = s.buzzer ∧ (s.startSilence k).keys = s.keys
      ∧ (s.startSilence k).raised = s.raised ∧ (s.startSilence k).order = s.order ∧ (s.startSilence k).pending = s.pending := by
  simp [State.startSilence]

@[simp] theorem State.entryTakes_keeps (s : State) (f : StatusFrame) (k : Fin 4) :
    (s.entryTakes f k).clock = s.clock ∧ (s.entryTakes f k).pins = s.pins ∧ (s.entryTakes f k).modes = s.modes
      ∧ (s.entryTakes f k).watch = s.watch ∧ (s.entryTakes f k).keys = s.keys ∧ (s.entryTakes f k).raised = s.raised
      ∧ (s.entryTakes f k).pending = s.pending := by
  unfold State.entryTakes; (repeat' split) <;> simp

@[simp] theorem State.tableTakes_keeps (s : State) (f : StatusFrame) :
    (s.tableTakes f).clock = s.clock ∧ (s.tableTakes f).pins = s.pins ∧ (s.tableTakes f).modes = s.modes
      ∧ (s.tableTakes f).watch = s.watch ∧ (s.tableTakes f).keys = s.keys ∧ (s.tableTakes f).raised = s.raised
      ∧ (s.tableTakes f).pending = s.pending := by
  simp [State.tableTakes]

@[simp] theorem State.fallMute_keeps (s : State) (k : Fin 4) :
    (s.fallMute k).clock = s.clock ∧ (s.fallMute k).pins = s.pins ∧ (s.fallMute k).modes = s.modes
      ∧ (s.fallMute k).watch = s.watch ∧ (s.fallMute k).keys = s.keys ∧ (s.fallMute k).raised = s.raised
      ∧ (s.fallMute k).pending = s.pending := by
  unfold State.fallMute; (repeat' split) <;> simp

@[simp] theorem State.rosterTakes_keeps (s : State) (f : StatusFrame) :
    (s.rosterTakes f).clock = s.clock ∧ (s.rosterTakes f).pins = s.pins ∧ (s.rosterTakes f).modes = s.modes
      ∧ (s.rosterTakes f).watch = s.watch ∧ (s.rosterTakes f).troubles = s.troubles ∧ (s.rosterTakes f).buzzer = s.buzzer
      ∧ (s.rosterTakes f).keys = s.keys ∧ (s.rosterTakes f).raised = s.raised ∧ (s.rosterTakes f).pending = s.pending := by
  unfold State.rosterTakes; dsimp only; (repeat' split) <;> simp

@[simp] theorem State.sweepRoster_keeps (s : State) :
    (s.sweepRoster).clock = s.clock ∧ (s.sweepRoster).pins = s.pins ∧ (s.sweepRoster).modes = s.modes
      ∧ (s.sweepRoster).watch = s.watch ∧ (s.sweepRoster).troubles = s.troubles ∧ (s.sweepRoster).buzzer = s.buzzer
      ∧ (s.sweepRoster).keys = s.keys ∧ (s.sweepRoster).raised = s.raised ∧ (s.sweepRoster).pending = s.pending := by
  unfold State.sweepRoster; dsimp only; split <;> simp

@[simp] theorem State.dispatchStatus_keeps (s : State) (f : StatusFrame) :
    (s.dispatchStatus f).clock = s.clock ∧ (s.dispatchStatus f).pins = s.pins ∧ (s.dispatchStatus f).keys = s.keys
      ∧ (s.dispatchStatus f).raised = s.raised ∧ (s.dispatchStatus f).pending = s.pending := by
  simp [State.dispatchStatus]

@[simp] theorem State.beginFrame_keeps (s : State) :
    (s.beginFrame).clock = s.clock ∧ (s.beginFrame).pins = s.pins ∧ (s.beginFrame).timers = s.timers
      ∧ (s.beginFrame).modes = s.modes ∧ (s.beginFrame).fire = s.fire ∧ (s.beginFrame).watch = s.watch
      ∧ (s.beginFrame).doors = s.doors ∧ (s.beginFrame).calls = s.calls ∧ (s.beginFrame).table = s.table
      ∧ (s.beginFrame).egress = s.egress ∧ (s.beginFrame).light = s.light ∧ (s.beginFrame).start = s.start
      ∧ (s.beginFrame).troubles = s.troubles ∧ (s.beginFrame).buzzer = s.buzzer ∧ (s.beginFrame).keys = s.keys
      ∧ (s.beginFrame).raised = s.raised ∧ (s.beginFrame).order = s.order ∧ (s.beginFrame).pending = s.pending := by
  unfold State.beginFrame; (repeat' split) <;> simp

@[simp] theorem State.frameSent_keeps (s : State) :
    (s.frameSent).clock = s.clock ∧ (s.frameSent).pins = s.pins ∧ (s.frameSent).modes = s.modes
      ∧ (s.frameSent).fire = s.fire ∧ (s.frameSent).watch = s.watch ∧ (s.frameSent).doors = s.doors
      ∧ (s.frameSent).calls = s.calls ∧ (s.frameSent).table = s.table ∧ (s.frameSent).egress = s.egress
      ∧ (s.frameSent).light = s.light ∧ (s.frameSent).start = s.start ∧ (s.frameSent).troubles = s.troubles
      ∧ (s.frameSent).buzzer = s.buzzer ∧ (s.frameSent).keys = s.keys ∧ (s.frameSent).raised = s.raised
      ∧ (s.frameSent).order = s.order ∧ (s.frameSent).pending = s.pending := by
  unfold State.frameSent; (repeat' split) <;> simp

@[simp] theorem State.frameFailed_keeps (s : State) (f : Sending) (view : BusView) :
    (s.frameFailed f view).clock = s.clock ∧ (s.frameFailed f view).pins = s.pins ∧ (s.frameFailed f view).timers = s.timers
      ∧ (s.frameFailed f view).modes = s.modes ∧ (s.frameFailed f view).fire = s.fire
      ∧ (s.frameFailed f view).watch = s.watch ∧ (s.frameFailed f view).doors = s.doors
      ∧ (s.frameFailed f view).table = s.table ∧ (s.frameFailed f view).egress = s.egress
      ∧ (s.frameFailed f view).light = s.light ∧ (s.frameFailed f view).start = s.start
      ∧ (s.frameFailed f view).troubles = s.troubles ∧ (s.frameFailed f view).buzzer = s.buzzer
      ∧ (s.frameFailed f view).keys = s.keys ∧ (s.frameFailed f view).raised = s.raised
      ∧ (s.frameFailed f view).order = s.order ∧ (s.frameFailed f view).pending = s.pending := by
  unfold State.frameFailed; (repeat' split) <;> simp

@[simp] theorem State.loseArbitration_keeps (s : State) (b : Fin 8) :
    (s.loseArbitration b).clock = s.clock ∧ (s.loseArbitration b).pins = s.pins ∧ (s.loseArbitration b).timers = s.timers
      ∧ (s.loseArbitration b).modes = s.modes ∧ (s.loseArbitration b).fire = s.fire ∧ (s.loseArbitration b).watch = s.watch
      ∧ (s.loseArbitration b).doors = s.doors ∧ (s.loseArbitration b).table = s.table
      ∧ (s.loseArbitration b).egress = s.egress ∧ (s.loseArbitration b).light = s.light
      ∧ (s.loseArbitration b).start = s.start ∧ (s.loseArbitration b).troubles = s.troubles
      ∧ (s.loseArbitration b).buzzer = s.buzzer ∧ (s.loseArbitration b).keys = s.keys
      ∧ (s.loseArbitration b).raised = s.raised ∧ (s.loseArbitration b).order = s.order
      ∧ (s.loseArbitration b).pending = s.pending := by
  unfold State.loseArbitration; (repeat' split) <;> simp

@[simp] theorem State.enterQuiet_keeps (s : State) :
    (s.enterQuiet).clock = s.clock ∧ (s.enterQuiet).pins = s.pins ∧ (s.enterQuiet).modes = s.modes
      ∧ (s.enterQuiet).fire = s.fire ∧ (s.enterQuiet).watch = s.watch ∧ (s.enterQuiet).doors = s.doors
      ∧ (s.enterQuiet).calls = s.calls ∧ (s.enterQuiet).table = s.table ∧ (s.enterQuiet).egress = s.egress
      ∧ (s.enterQuiet).light = s.light ∧ (s.enterQuiet).start = s.start ∧ (s.enterQuiet).keys = s.keys
      ∧ (s.enterQuiet).raised = s.raised ∧ (s.enterQuiet).order = s.order ∧ (s.enterQuiet).pending = s.pending := by
  simp [State.enterQuiet]

@[simp] theorem State.transmitFault_keeps (s : State) (b : Nat) :
    (s.transmitFault b).clock = s.clock ∧ (s.transmitFault b).pins = s.pins ∧ (s.transmitFault b).modes = s.modes
      ∧ (s.transmitFault b).fire = s.fire ∧ (s.transmitFault b).watch = s.watch ∧ (s.transmitFault b).doors = s.doors
      ∧ (s.transmitFault b).table = s.table ∧ (s.transmitFault b).egress = s.egress ∧ (s.transmitFault b).light = s.light
      ∧ (s.transmitFault b).start = s.start ∧ (s.transmitFault b).keys = s.keys ∧ (s.transmitFault b).raised = s.raised
      ∧ (s.transmitFault b).order = s.order ∧ (s.transmitFault b).pending = s.pending := by
  unfold State.transmitFault; (repeat' split) <;> simp

@[simp] theorem State.countDiscard_keeps (s : State) :
    (s.countDiscard).clock = s.clock ∧ (s.countDiscard).pins = s.pins ∧ (s.countDiscard).timers = s.timers
      ∧ (s.countDiscard).modes = s.modes ∧ (s.countDiscard).fire = s.fire ∧ (s.countDiscard).watch = s.watch
      ∧ (s.countDiscard).doors = s.doors ∧ (s.countDiscard).calls = s.calls ∧ (s.countDiscard).table = s.table
      ∧ (s.countDiscard).egress = s.egress ∧ (s.countDiscard).light = s.light ∧ (s.countDiscard).start = s.start
      ∧ (s.countDiscard).keys = s.keys ∧ (s.countDiscard).raised = s.raised ∧ (s.countDiscard).order = s.order
      ∧ (s.countDiscard).pending = s.pending := by
  unfold State.countDiscard; dsimp only; (repeat' split) <;> simp

@[simp] theorem State.countGood_keeps (s : State) :
    (s.countGood).clock = s.clock ∧ (s.countGood).pins = s.pins ∧ (s.countGood).timers = s.timers
      ∧ (s.countGood).modes = s.modes ∧ (s.countGood).fire = s.fire ∧ (s.countGood).watch = s.watch
      ∧ (s.countGood).doors = s.doors ∧ (s.countGood).calls = s.calls ∧ (s.countGood).table = s.table
      ∧ (s.countGood).egress = s.egress ∧ (s.countGood).light = s.light ∧ (s.countGood).start = s.start
      ∧ (s.countGood).keys = s.keys ∧ (s.countGood).raised = s.raised ∧ (s.countGood).order = s.order
      ∧ (s.countGood).pending = s.pending := by
  simp [State.countGood]

@[simp] theorem State.markDuplicate_keeps (s : State) (fr : Frame) :
    (s.markDuplicate fr).clock = s.clock ∧ (s.markDuplicate fr).pins = s.pins ∧ (s.markDuplicate fr).timers = s.timers
      ∧ (s.markDuplicate fr).modes = s.modes ∧ (s.markDuplicate fr).fire = s.fire ∧ (s.markDuplicate fr).watch = s.watch
      ∧ (s.markDuplicate fr).doors = s.doors ∧ (s.markDuplicate fr).calls = s.calls ∧ (s.markDuplicate fr).table = s.table
      ∧ (s.markDuplicate fr).egress = s.egress ∧ (s.markDuplicate fr).light = s.light ∧ (s.markDuplicate fr).start = s.start
      ∧ (s.markDuplicate fr).keys = s.keys ∧ (s.markDuplicate fr).raised = s.raised ∧ (s.markDuplicate fr).order = s.order
      ∧ (s.markDuplicate fr).pending = s.pending := by
  unfold State.markDuplicate; split <;> simp

@[simp] theorem State.dispatch_keeps (s : State) (fr : Frame) :
    (s.dispatch fr).clock = s.clock ∧ (s.dispatch fr).pins = s.pins ∧ (s.dispatch fr).keys = s.keys
      ∧ (s.dispatch fr).raised = s.raised ∧ (s.dispatch fr).pending = s.pending := by
  unfold State.dispatch; (repeat' split) <;> simp

@[simp] theorem State.discardFrame_keeps (s : State) :
    (s.discardFrame).clock = s.clock ∧ (s.discardFrame).pins = s.pins ∧ (s.discardFrame).timers = s.timers
      ∧ (s.discardFrame).modes = s.modes ∧ (s.discardFrame).fire = s.fire ∧ (s.discardFrame).watch = s.watch
      ∧ (s.discardFrame).doors = s.doors ∧ (s.discardFrame).calls = s.calls ∧ (s.discardFrame).table = s.table
      ∧ (s.discardFrame).egress = s.egress ∧ (s.discardFrame).light = s.light ∧ (s.discardFrame).start = s.start
      ∧ (s.discardFrame).keys = s.keys ∧ (s.discardFrame).raised = s.raised ∧ (s.discardFrame).order = s.order
      ∧ (s.discardFrame).pending = s.pending := by
  unfold State.discardFrame; split <;> simp

@[simp] theorem State.straysSeen_keeps (s : State) :
    (s.straysSeen).clock = s.clock ∧ (s.straysSeen).pins = s.pins ∧ (s.straysSeen).timers = s.timers
      ∧ (s.straysSeen).modes = s.modes ∧ (s.straysSeen).fire = s.fire ∧ (s.straysSeen).watch = s.watch
      ∧ (s.straysSeen).doors = s.doors ∧ (s.straysSeen).calls = s.calls ∧ (s.straysSeen).table = s.table
      ∧ (s.straysSeen).egress = s.egress ∧ (s.straysSeen).light = s.light ∧ (s.straysSeen).start = s.start
      ∧ (s.straysSeen).keys = s.keys ∧ (s.straysSeen).raised = s.raised ∧ (s.straysSeen).order = s.order
      ∧ (s.straysSeen).pending = s.pending := by
  unfold State.straysSeen; (repeat' split) <;> simp

@[simp] theorem State.frameBroken_keeps (s : State) :
    (s.frameBroken).clock = s.clock ∧ (s.frameBroken).pins = s.pins ∧ (s.frameBroken).timers = s.timers
      ∧ (s.frameBroken).modes = s.modes ∧ (s.frameBroken).fire = s.fire ∧ (s.frameBroken).watch = s.watch
      ∧ (s.frameBroken).doors = s.doors ∧ (s.frameBroken).calls = s.calls ∧ (s.frameBroken).table = s.table
      ∧ (s.frameBroken).egress = s.egress ∧ (s.frameBroken).light = s.light ∧ (s.frameBroken).start = s.start
      ∧ (s.frameBroken).keys = s.keys ∧ (s.frameBroken).raised = s.raised ∧ (s.frameBroken).order = s.order
      ∧ (s.frameBroken).pending = s.pending := by
  unfold State.frameBroken; split <;> simp

@[simp] theorem State.startBitSeen_keeps (s : State) :
    (s.startBitSeen).clock = s.clock ∧ (s.startBitSeen).pins = s.pins ∧ (s.startBitSeen).timers = s.timers
      ∧ (s.startBitSeen).modes = s.modes ∧ (s.startBitSeen).fire = s.fire ∧ (s.startBitSeen).watch = s.watch
      ∧ (s.startBitSeen).doors = s.doors ∧ (s.startBitSeen).calls = s.calls ∧ (s.startBitSeen).table = s.table
      ∧ (s.startBitSeen).egress = s.egress ∧ (s.startBitSeen).light = s.light ∧ (s.startBitSeen).start = s.start
      ∧ (s.startBitSeen).keys = s.keys ∧ (s.startBitSeen).raised = s.raised ∧ (s.startBitSeen).order = s.order
      ∧ (s.startBitSeen).pending = s.pending := by
  unfold State.startBitSeen; split <;> simp

@[simp] theorem State.takeFrame_keeps (s : State) (fr : Frame) :
    (s.takeFrame fr).clock = s.clock ∧ (s.takeFrame fr).pins = s.pins ∧ (s.takeFrame fr).keys = s.keys
      ∧ (s.takeFrame fr).raised = s.raised ∧ (s.takeFrame fr).pending = s.pending := by
  unfold State.takeFrame; (repeat' split) <;> simp

@[simp] theorem State.takeActivity_keeps (s : State) (a : BusActivity) :
    (s.takeActivity a).clock = s.clock ∧ (s.takeActivity a).pins = s.pins ∧ (s.takeActivity a).keys = s.keys
      ∧ (s.takeActivity a).raised = s.raised ∧ (s.takeActivity a).pending = s.pending := by
  unfold State.takeActivity; (repeat' split) <;> simp

@[simp] theorem State.findIdle_keeps (s : State) :
    (s.findIdle).clock = s.clock ∧ (s.findIdle).pins = s.pins ∧ (s.findIdle).timers = s.timers
      ∧ (s.findIdle).modes = s.modes ∧ (s.findIdle).fire = s.fire ∧ (s.findIdle).watch = s.watch
      ∧ (s.findIdle).doors = s.doors ∧ (s.findIdle).calls = s.calls ∧ (s.findIdle).table = s.table
      ∧ (s.findIdle).egress = s.egress ∧ (s.findIdle).light = s.light ∧ (s.findIdle).start = s.start
      ∧ (s.findIdle).troubles = s.troubles ∧ (s.findIdle).buzzer = s.buzzer ∧ (s.findIdle).keys = s.keys
      ∧ (s.findIdle).raised = s.raised ∧ (s.findIdle).order = s.order ∧ (s.findIdle).pending = s.pending := by
  unfold State.findIdle; split <;> simp

@[simp] theorem State.startPeriods_keeps (s : State) :
    (s.startPeriods).clock = s.clock ∧ (s.startPeriods).pins = s.pins ∧ (s.startPeriods).modes = s.modes
      ∧ (s.startPeriods).fire = s.fire ∧ (s.startPeriods).watch = s.watch ∧ (s.startPeriods).doors = s.doors
      ∧ (s.startPeriods).calls = s.calls ∧ (s.startPeriods).table = s.table ∧ (s.startPeriods).egress = s.egress
      ∧ (s.startPeriods).light = s.light ∧ (s.startPeriods).link = s.link ∧ (s.startPeriods).start = s.start
      ∧ (s.startPeriods).troubles = s.troubles ∧ (s.startPeriods).buzzer = s.buzzer ∧ (s.startPeriods).keys = s.keys
      ∧ (s.startPeriods).raised = s.raised ∧ (s.startPeriods).order = s.order ∧ (s.startPeriods).pending = s.pending := by
  simp [State.startPeriods]

@[simp] theorem State.guardAtStart_keeps (s : State) :
    (s.guardAtStart).clock = s.clock ∧ (s.guardAtStart).pins = s.pins ∧ (s.guardAtStart).modes = s.modes
      ∧ (s.guardAtStart).fire = s.fire ∧ (s.guardAtStart).doors = s.doors ∧ (s.guardAtStart).calls = s.calls
      ∧ (s.guardAtStart).table = s.table ∧ (s.guardAtStart).egress = s.egress ∧ (s.guardAtStart).light = s.light
      ∧ (s.guardAtStart).start = s.start ∧ (s.guardAtStart).troubles = s.troubles ∧ (s.guardAtStart).buzzer = s.buzzer
      ∧ (s.guardAtStart).keys = s.keys ∧ (s.guardAtStart).raised = s.raised ∧ (s.guardAtStart).order = s.order
      ∧ (s.guardAtStart).pending = s.pending := by
  unfold State.guardAtStart; split <;> simp

@[simp] theorem State.startUnheard_keeps (s : State) :
    (s.startUnheard).clock = s.clock ∧ (s.startUnheard).pins = s.pins ∧ (s.startUnheard).modes = s.modes
      ∧ (s.startUnheard).fire = s.fire ∧ (s.startUnheard).watch = s.watch ∧ (s.startUnheard).doors = s.doors
      ∧ (s.startUnheard).calls = s.calls ∧ (s.startUnheard).table = s.table ∧ (s.startUnheard).egress = s.egress
      ∧ (s.startUnheard).light = s.light ∧ (s.startUnheard).link = s.link ∧ (s.startUnheard).start = s.start
      ∧ (s.startUnheard).troubles = s.troubles ∧ (s.startUnheard).buzzer = s.buzzer ∧ (s.startUnheard).keys = s.keys
      ∧ (s.startUnheard).raised = s.raised ∧ (s.startUnheard).order = s.order ∧ (s.startUnheard).pending = s.pending := by
  simp [State.startUnheard, apply_ite State.clock, apply_ite State.pins, apply_ite State.modes, apply_ite State.fire,
    apply_ite State.watch, apply_ite State.doors, apply_ite State.calls, apply_ite State.table, apply_ite State.egress,
    apply_ite State.light, apply_ite State.link, apply_ite State.start, apply_ite State.troubles, apply_ite State.buzzer,
    apply_ite State.keys, apply_ite State.raised, apply_ite State.order, apply_ite State.pending]

@[simp] theorem State.markOpenCalls_keeps (s : State) :
    (s.markOpenCalls).clock = s.clock ∧ (s.markOpenCalls).pins = s.pins ∧ (s.markOpenCalls).timers = s.timers
      ∧ (s.markOpenCalls).modes = s.modes ∧ (s.markOpenCalls).fire = s.fire ∧ (s.markOpenCalls).watch = s.watch
      ∧ (s.markOpenCalls).doors = s.doors ∧ (s.markOpenCalls).calls = s.calls ∧ (s.markOpenCalls).table = s.table
      ∧ (s.markOpenCalls).egress = s.egress ∧ (s.markOpenCalls).light = s.light ∧ (s.markOpenCalls).start = s.start
      ∧ (s.markOpenCalls).troubles = s.troubles ∧ (s.markOpenCalls).buzzer = s.buzzer ∧ (s.markOpenCalls).keys = s.keys
      ∧ (s.markOpenCalls).raised = s.raised ∧ (s.markOpenCalls).order = s.order ∧ (s.markOpenCalls).pending = s.pending := by
  simp [State.markOpenCalls]

@[simp] theorem State.rebuildList_keeps (s : State) :
    (s.rebuildList).clock = s.clock ∧ (s.rebuildList).pins = s.pins ∧ (s.rebuildList).timers = s.timers
      ∧ (s.rebuildList).modes = s.modes ∧ (s.rebuildList).fire = s.fire ∧ (s.rebuildList).watch = s.watch
      ∧ (s.rebuildList).doors = s.doors ∧ (s.rebuildList).table = s.table ∧ (s.rebuildList).egress = s.egress
      ∧ (s.rebuildList).light = s.light ∧ (s.rebuildList).link = s.link ∧ (s.rebuildList).start = s.start
      ∧ (s.rebuildList).troubles = s.troubles ∧ (s.rebuildList).buzzer = s.buzzer ∧ (s.rebuildList).keys = s.keys
      ∧ (s.rebuildList).raised = s.raised ∧ (s.rebuildList).order = s.order ∧ (s.rebuildList).pending = s.pending := by
  simp [State.rebuildList]

@[simp] theorem State.unconfiguredFire_keeps (s : State) :
    (s.unconfiguredFire).clock = s.clock ∧ (s.unconfiguredFire).pins = s.pins ∧ (s.unconfiguredFire).modes = s.modes
      ∧ (s.unconfiguredFire).watch = s.watch ∧ (s.unconfiguredFire).table = s.table
      ∧ (s.unconfiguredFire).troubles = s.troubles ∧ (s.unconfiguredFire).keys = s.keys
      ∧ (s.unconfiguredFire).raised = s.raised ∧ (s.unconfiguredFire).pending = s.pending := by
  unfold State.unconfiguredFire; split <;> simp

@[simp] theorem State.unconfiguredGuard_keeps (s : State) :
    (s.unconfiguredGuard).clock = s.clock ∧ (s.unconfiguredGuard).pins = s.pins ∧ (s.unconfiguredGuard).modes = s.modes
      ∧ (s.unconfiguredGuard).fire = s.fire ∧ (s.unconfiguredGuard).doors = s.doors ∧ (s.unconfiguredGuard).calls = s.calls
      ∧ (s.unconfiguredGuard).table = s.table ∧ (s.unconfiguredGuard).egress = s.egress
      ∧ (s.unconfiguredGuard).light = s.light ∧ (s.unconfiguredGuard).start = s.start
      ∧ (s.unconfiguredGuard).troubles = s.troubles ∧ (s.unconfiguredGuard).buzzer = s.buzzer
      ∧ (s.unconfiguredGuard).keys = s.keys ∧ (s.unconfiguredGuard).raised = s.raised
      ∧ (s.unconfiguredGuard).order = s.order ∧ (s.unconfiguredGuard).pending = s.pending := by
  unfold State.unconfiguredGuard; (repeat' split) <;> simp

@[simp] theorem State.beginRun_keeps (s : State) :
    (s.beginRun).clock = s.clock ∧ (s.beginRun).pins = s.pins ∧ (s.beginRun).table = s.table
      ∧ (s.beginRun).troubles = s.troubles ∧ (s.beginRun).keys = s.keys ∧ (s.beginRun).raised = s.raised
      ∧ (s.beginRun).pending = s.pending := by
  unfold State.beginRun; split <;> simp

@[simp] theorem State.pressAck_keeps (s : State) :
    (s.pressAck).clock = s.clock ∧ (s.pressAck).pins = s.pins ∧ (s.pressAck).modes = s.modes ∧ (s.pressAck).watch = s.watch
      ∧ (s.pressAck).doors = s.doors ∧ (s.pressAck).calls = s.calls ∧ (s.pressAck).table = s.table
      ∧ (s.pressAck).egress = s.egress ∧ (s.pressAck).link = s.link ∧ (s.pressAck).start = s.start
      ∧ (s.pressAck).keys = s.keys ∧ (s.pressAck).raised = s.raised ∧ (s.pressAck).order = s.order
      ∧ (s.pressAck).pending = s.pending := by
  simp [State.pressAck]

@[simp] theorem State.restoreTroubles_keeps (s : State) :
    (s.restoreTroubles).clock = s.clock ∧ (s.restoreTroubles).pins = s.pins ∧ (s.restoreTroubles).timers = s.timers
      ∧ (s.restoreTroubles).modes = s.modes ∧ (s.restoreTroubles).fire = s.fire ∧ (s.restoreTroubles).watch = s.watch
      ∧ (s.restoreTroubles).doors = s.doors ∧ (s.restoreTroubles).calls = s.calls ∧ (s.restoreTroubles).table = s.table
      ∧ (s.restoreTroubles).egress = s.egress ∧ (s.restoreTroubles).light = s.light ∧ (s.restoreTroubles).start = s.start
      ∧ (s.restoreTroubles).keys = s.keys ∧ (s.restoreTroubles).raised = s.raised ∧ (s.restoreTroubles).order = s.order
      ∧ (s.restoreTroubles).pending = s.pending := by
  simp [State.restoreTroubles]

@[simp] theorem State.pressRestore_keeps (s : State) :
    (s.pressRestore).clock = s.clock ∧ (s.pressRestore).pins = s.pins ∧ (s.pressRestore).modes = s.modes
      ∧ (s.pressRestore).table = s.table ∧ (s.pressRestore).keys = s.keys ∧ (s.pressRestore).raised = s.raised
      ∧ (s.pressRestore).pending = s.pending := by
  unfold State.pressRestore; split <;> simp

@[simp] theorem State.pressGuard_keeps (s : State) :
    (s.pressGuard).clock = s.clock ∧ (s.pressGuard).pins = s.pins ∧ (s.pressGuard).modes = s.modes
      ∧ (s.pressGuard).fire = s.fire ∧ (s.pressGuard).doors = s.doors ∧ (s.pressGuard).table = s.table
      ∧ (s.pressGuard).egress = s.egress ∧ (s.pressGuard).start = s.start ∧ (s.pressGuard).troubles = s.troubles
      ∧ (s.pressGuard).buzzer = s.buzzer ∧ (s.pressGuard).keys = s.keys ∧ (s.pressGuard).raised = s.raised
      ∧ (s.pressGuard).order = s.order ∧ (s.pressGuard).pending = s.pending := by
  simp [State.pressGuard]

@[simp] theorem State.takePassage_keeps (s : State) :
    (s.takePassage).clock = s.clock ∧ (s.takePassage).pins = s.pins ∧ (s.takePassage).modes = s.modes
      ∧ (s.takePassage).fire = s.fire ∧ (s.takePassage).watch = s.watch ∧ (s.takePassage).table = s.table
      ∧ (s.takePassage).start = s.start ∧ (s.takePassage).troubles = s.troubles ∧ (s.takePassage).buzzer = s.buzzer
      ∧ (s.takePassage).keys = s.keys ∧ (s.takePassage).raised = s.raised ∧ (s.takePassage).pending = s.pending := by
  unfold State.takePassage; split <;> simp

@[simp] theorem State.pressTest_keeps (s : State) :
    (s.pressTest).clock = s.clock ∧ (s.pressTest).pins = s.pins ∧ (s.pressTest).modes = s.modes
      ∧ (s.pressTest).fire = s.fire ∧ (s.pressTest).watch = s.watch ∧ (s.pressTest).doors = s.doors
      ∧ (s.pressTest).calls = s.calls ∧ (s.pressTest).table = s.table ∧ (s.pressTest).egress = s.egress
      ∧ (s.pressTest).link = s.link ∧ (s.pressTest).start = s.start ∧ (s.pressTest).troubles = s.troubles
      ∧ (s.pressTest).buzzer = s.buzzer ∧ (s.pressTest).keys = s.keys ∧ (s.pressTest).raised = s.raised
      ∧ (s.pressTest).order = s.order ∧ (s.pressTest).pending = s.pending := by
  simp [State.pressTest]

@[simp] theorem State.letKeyGo_keeps (s : State) (k : PanelKey) :
    (s.letKeyGo k).clock = s.clock ∧ (s.letKeyGo k).timers = s.timers ∧ (s.letKeyGo k).modes = s.modes
      ∧ (s.letKeyGo k).fire = s.fire ∧ (s.letKeyGo k).watch = s.watch ∧ (s.letKeyGo k).doors = s.doors
      ∧ (s.letKeyGo k).calls = s.calls ∧ (s.letKeyGo k).table = s.table ∧ (s.letKeyGo k).egress = s.egress
      ∧ (s.letKeyGo k).light = s.light ∧ (s.letKeyGo k).link = s.link ∧ (s.letKeyGo k).start = s.start
      ∧ (s.letKeyGo k).troubles = s.troubles ∧ (s.letKeyGo k).buzzer = s.buzzer ∧ (s.letKeyGo k).keys = s.keys
      ∧ (s.letKeyGo k).raised = s.raised ∧ (s.letKeyGo k).pending = s.pending := by
  unfold State.letKeyGo State.letGo; (repeat' split) <;> simp

@[simp] theorem State.filterKey_keeps (s : State) (k : PanelKey) :
    (s.filterKey k).clock = s.clock ∧ (s.filterKey k).pins = s.pins ∧ (s.filterKey k).timers = s.timers
      ∧ (s.filterKey k).modes = s.modes ∧ (s.filterKey k).fire = s.fire ∧ (s.filterKey k).watch = s.watch
      ∧ (s.filterKey k).doors = s.doors ∧ (s.filterKey k).calls = s.calls ∧ (s.filterKey k).table = s.table
      ∧ (s.filterKey k).egress = s.egress ∧ (s.filterKey k).light = s.light ∧ (s.filterKey k).link = s.link
      ∧ (s.filterKey k).start = s.start ∧ (s.filterKey k).troubles = s.troubles ∧ (s.filterKey k).buzzer = s.buzzer
      ∧ (s.filterKey k).order = s.order ∧ (s.filterKey k).pending = s.pending := by
  unfold State.filterKey; dsimp only; split <;> simp

@[simp] theorem State.sampleKey_keeps (s : State) (k : PanelKey) :
    (s.sampleKey k).clock = s.clock ∧ (s.sampleKey k).timers = s.timers ∧ (s.sampleKey k).modes = s.modes
      ∧ (s.sampleKey k).fire = s.fire ∧ (s.sampleKey k).watch = s.watch ∧ (s.sampleKey k).doors = s.doors
      ∧ (s.sampleKey k).calls = s.calls ∧ (s.sampleKey k).table = s.table ∧ (s.sampleKey k).egress = s.egress
      ∧ (s.sampleKey k).light = s.light ∧ (s.sampleKey k).link = s.link ∧ (s.sampleKey k).start = s.start
      ∧ (s.sampleKey k).troubles = s.troubles ∧ (s.sampleKey k).buzzer = s.buzzer ∧ (s.sampleKey k).pending = s.pending := by
  simp [State.sampleKey]

@[simp] theorem State.letButtonGo_keeps (s : State) (p : Fin 4) :
    (s.letButtonGo p).clock = s.clock ∧ (s.letButtonGo p).timers = s.timers ∧ (s.letButtonGo p).modes = s.modes
      ∧ (s.letButtonGo p).fire = s.fire ∧ (s.letButtonGo p).watch = s.watch ∧ (s.letButtonGo p).doors = s.doors
      ∧ (s.letButtonGo p).calls = s.calls ∧ (s.letButtonGo p).table = s.table ∧ (s.letButtonGo p).egress = s.egress
      ∧ (s.letButtonGo p).light = s.light ∧ (s.letButtonGo p).link = s.link ∧ (s.letButtonGo p).start = s.start
      ∧ (s.letButtonGo p).troubles = s.troubles ∧ (s.letButtonGo p).buzzer = s.buzzer ∧ (s.letButtonGo p).keys = s.keys
      ∧ (s.letButtonGo p).raised = s.raised ∧ (s.letButtonGo p).pending = s.pending := by
  unfold State.letButtonGo State.letGo; (repeat' split) <;> simp

@[simp] theorem State.filterButton_keeps (s : State) (p : Fin 4) :
    (s.filterButton p).clock = s.clock ∧ (s.filterButton p).pins = s.pins ∧ (s.filterButton p).timers = s.timers
      ∧ (s.filterButton p).modes = s.modes ∧ (s.filterButton p).fire = s.fire ∧ (s.filterButton p).doors = s.doors
      ∧ (s.filterButton p).calls = s.calls ∧ (s.filterButton p).table = s.table ∧ (s.filterButton p).egress = s.egress
      ∧ (s.filterButton p).light = s.light ∧ (s.filterButton p).link = s.link ∧ (s.filterButton p).start = s.start
      ∧ (s.filterButton p).troubles = s.troubles ∧ (s.filterButton p).buzzer = s.buzzer ∧ (s.filterButton p).keys = s.keys
      ∧ (s.filterButton p).order = s.order ∧ (s.filterButton p).pending = s.pending := by
  unfold State.filterButton; dsimp only; split <;> simp

@[simp] theorem State.sampleButton_keeps (s : State) (p : Fin 4) :
    (s.sampleButton p).clock = s.clock ∧ (s.sampleButton p).timers = s.timers ∧ (s.sampleButton p).modes = s.modes
      ∧ (s.sampleButton p).fire = s.fire ∧ (s.sampleButton p).doors = s.doors ∧ (s.sampleButton p).calls = s.calls
      ∧ (s.sampleButton p).table = s.table ∧ (s.sampleButton p).egress = s.egress ∧ (s.sampleButton p).light = s.light
      ∧ (s.sampleButton p).link = s.link ∧ (s.sampleButton p).start = s.start ∧ (s.sampleButton p).troubles = s.troubles
      ∧ (s.sampleButton p).buzzer = s.buzzer ∧ (s.sampleButton p).keys = s.keys ∧ (s.sampleButton p).pending = s.pending := by
  unfold State.sampleButton; split <;> simp

end Sys2Proof.Machine
end

