-- ==== Sys2Proof/Laws/Ops.lean ====
section
/-! SUPPORT. What each shared operation does to the block it writes, once for each operation, so that later proofs need not unfold it. -/

namespace Sys2Proof.Machine

/-! ### Timers -/

/-- Outside CONFIG-READ a started channel stands as R153 leaves it, and every other channel as it was. -/
theorem State.startTimer_channel (s : State) (c e : Chan) (n : Nat) (rate : TickRate) (kind : ChanKind) (m : Nat)
    (h : s.start.phase ≠ .configRead) :
    (s.startTimer c n rate kind m).channel e = if c = e then Channel.fresh n rate kind m else s.channel e := by
  have hs : (s.channel c).start n rate kind m = Channel.fresh n rate kind m := by
    unfold Channel.start Channel.preset Channel.resume Channel.fresh
    simp only [Bool.false_eq_true, if_false]
    split <;> rfl
  simp only [State.startTimer, h, if_false, State.setChannel_channel, hs]

/-- A channel of another name is untouched by a start, whatever the phase. -/
theorem State.startTimer_other (s : State) (c e : Chan) (n : Nat) (rate : TickRate) (kind : ChanKind) (m : Nat)
    (h : c ≠ e) : (s.startTimer c n rate kind m).channel e = s.channel e := by
  unfold State.startTimer State.stopTimer
  split <;> simp [h]

@[simp] theorem State.stopTimer_channel (s : State) (c e : Chan) :
    (s.stopTimer c).channel e = if c = e then (s.channel c).stop else s.channel e := by
  simp [State.stopTimer]

/-- No expiry comes, or no purpose stands: nothing happens. -/
theorem State.onExpiry_idle (s : State) (c : Chan) (purpose : Bool) (act : State → State)
    (h : (s.live && purpose) = false ∨ (s.channel c).mayExpire = false) : s.onExpiry c purpose act = s := by
  unfold State.onExpiry
  split
  · rename_i hp
    rcases h with h | h
    · simp [h] at hp
    · have hn : (s.channel c).takeExpiry = none := by
        simp [Channel.mayExpire] at h
        simp [Channel.takeExpiry, h]
      simp [hn]
  · rfl

/-- An expiry that may come is taken for a standing purpose, and the owner acts. -/
theorem State.onExpiry_acts (s : State) (c : Chan) (purpose : Bool) (act : State → State)
    (hl : s.live = true) (hp : purpose = true) (h : (s.channel c).mayExpire = true) :
    ∃ ch, (s.channel c).takeExpiry = some ch ∧ s.onExpiry c purpose act = act (s.setChannel c ch) := by
  unfold State.onExpiry
  simp only [hl, hp, Bool.and_self, if_true]
  rcases hc : (s.channel c).takeExpiry with _ | ch
  · simp only [Channel.mayExpire, Bool.or_eq_true] at h
    unfold Channel.takeExpiry at hc
    rcases h with h | h <;> simp only [h, if_true] at hc
    · split at hc <;> simp at hc
    · simp at hc
  · exact ⟨ch, rfl, rfl⟩

/-! ### Trouble record -/

@[simp] theorem State.enterTrouble_record (s : State) (x : Trouble) :
    (s.enterTrouble x).troubles.record =
      if x ∈ s.troubles.record then s.troubles.record else s.troubles.record ++ [x] := by
  unfold State.enterTrouble
  split
  · simp [*]
  · dsimp only
    split <;> simp [*]

/-- R184: what the record holds once a member has been entered. -/
theorem State.mem_enterTrouble (s : State) (x y : Trouble) :
    y ∈ (s.enterTrouble x).troubles.record ↔ y = x ∨ y ∈ s.troubles.record := by
  simp only [State.enterTrouble_record]
  split
  · constructor
    · exact Or.inr
    · rintro (rfl | h) <;> assumption
  · simp [or_comm]

@[simp] theorem State.removeTroubles_record (s : State) (g : Trouble → Bool) :
    (s.removeTroubles g).troubles.record = s.troubles.record.filter fun t => !g t := by
  unfold State.removeTroubles
  dsimp only
  split <;> simp

@[simp] theorem State.removeTroubles_silenced (s : State) (g : Trouble → Bool) :
    (s.removeTroubles g).troubles.silenced = s.troubles.silenced := by
  unfold State.removeTroubles
  dsimp only
  split <;> simp

/-- R184: what the record holds once a member has been removed. -/
theorem State.mem_removeTrouble (s : State) (x y : Trouble) :
    y ∈ (s.removeTrouble x).troubles.record ↔ y ≠ x ∧ y ∈ s.troubles.record := by
  simp [State.removeTrouble, and_comm]

/-- The link unit after a trouble is entered: at most STATUS is newly pending. -/
theorem State.enterTrouble_link (s : State) (x : Trouble) :
    (s.enterTrouble x).link = { s.link with status := (s.enterTrouble x).link.status }
      ∧ (s.link.status = true → (s.enterTrouble x).link.status = true) := by
  unfold State.enterTrouble
  split
  · simp
  · dsimp only
    split <;> simp

/-- The link unit after troubles are removed: at most STATUS is newly pending. -/
theorem State.removeTroubles_link (s : State) (g : Trouble → Bool) :
    (s.removeTroubles g).link = { s.link with status := (s.removeTroubles g).link.status }
      ∧ (s.link.status = true → (s.removeTroubles g).link.status = true) := by
  unfold State.removeTroubles
  dsimp only
  split <;> simp

/-- The buzzer after a trouble is entered: only the sustained patterns may differ. -/
theorem State.enterTrouble_buzzer (s : State) (x : Trouble) (o : OneShot) :
    (s.enterTrouble x).buzzer.oneShot o = s.buzzer.oneShot o := by
  unfold State.enterTrouble
  split
  · rfl
  · dsimp only
    split <;> cases o <;> rfl

/-! ### Lighting -/

@[simp] theorem State.refreshLights_stack (s : State) :
    s.refreshLights.light.base = s.light.base ∧ s.refreshLights.light.above = s.light.above := by
  unfold State.refreshLights
  (repeat' split) <;> simp

@[simp] theorem State.pushScene_stack (s : State) (sc : Scene) :
    (s.pushScene sc).light.base = s.light.base
      ∧ (s.pushScene sc).light.above = pushed s.cfg.depth sc s.light.above := by
  simp [State.pushScene]

@[simp] theorem State.removeScene_stack (s : State) (sc : Scene) :
    (s.removeScene sc).light.base = s.light.base ∧ (s.removeScene sc).light.above = s.light.above.erase sc := by
  simp [State.removeScene]

@[simp] theorem State.replaceBase_stack (s : State) :
    s.replaceBase.light.base = baseScene s.modes.mode ∧ s.replaceBase.light.above = s.light.above := by
  simp [State.replaceBase]

/-- R140: what a placing puts into the stack. -/
theorem mem_placeScene (sc x : Scene) (l : List Scene) : x ∈ placeScene sc l ↔ x = sc ∨ x ∈ l := by
  unfold placeScene
  split
  · rename_i h
    by_cases hx : x = .evacuate
    · subst hx; simp [h.1]
    · simp [List.mem_erase_of_ne hx, hx, or_comm]
  · simp [or_comm]

/-! ### Call list -/

@[simp] theorem State.setPoint_channel (s : State) (p : Fin 4) (r : PointRec) (c : Chan) :
    (s.setPoint p r).channel c = s.channel c := rfl

/-- R96: what a placing puts into the list. -/
theorem mem_placeEntry (e x : CallEntry) (l : List CallEntry) : x ∈ placeEntry e l ↔ x = e ∨ x ∈ l := by
  have h : x ∈ l ↔ x ∈ l.takeWhile (fun y => e.level ≤ y.level) ∨ x ∈ l.dropWhile (fun y => e.level ≤ y.level) := by
    rw [← List.mem_append, List.takeWhile_append_dropWhile]
  simp only [placeEntry, List.mem_append, List.mem_cons, h]
  tauto

theorem length_placeEntry (e : CallEntry) (l : List CallEntry) : (placeEntry e l).length = l.length + 1 := by
  have h := congrArg List.length (List.takeWhile_append_dropWhile (p := fun y : CallEntry => e.level ≤ y.level) (l := l))
  simp only [List.length_append] at h
  simp only [placeEntry, List.length_append, List.length_cons]
  omega

/-- R96: a placing keeps the order of the levels. -/
theorem pairwise_placeEntry (e : CallEntry) (l : List CallEntry) (h : l.Pairwise fun a b => b.level ≤ a.level) :
    (placeEntry e l).Pairwise fun a b => b.level ≤ a.level := by
  induction l with
  | nil => simp [placeEntry]
  | cons a l ih =>
    rw [List.pairwise_cons] at h
    by_cases ha : e.level ≤ a.level
    · have hp : placeEntry e (a :: l) = a :: placeEntry e l := by simp [placeEntry, ha]
      rw [hp, List.pairwise_cons]
      refine ⟨fun b hb => ?_, ih h.2⟩
      rcases (mem_placeEntry e b l).1 hb with rfl | hb
      · exact ha
      · exact h.1 b hb
    · have hp : placeEntry e (a :: l) = e :: a :: l := by simp [placeEntry, ha]
      rw [hp, List.pairwise_cons]
      refine ⟨fun b hb => ?_, List.pairwise_cons.2 h⟩
      rcases List.mem_cons.1 hb with rfl | hb
      · omega
      · have := h.1 b hb; omega

@[simp] theorem State.insertEntry_list (s : State) (e : CallEntry) :
    (s.insertEntry e).calls.list = placeEntry e s.calls.list := by
  simp [State.insertEntry]

@[simp] theorem State.dropEntries_calls (s : State) (g : CallEntry → Bool) :
    (s.dropEntries g).calls = { s.calls with list := s.calls.list.filter fun e => !g e } := rfl

/-- R87: a recomputed point keeps everything but its level, which does not fall; other points stay. -/
theorem State.relevel_point (s : State) (p q : Fin 4) :
    (s.relevel p).point q = { s.point q with level := ((s.relevel p).point q).level }
      ∧ (s.point q).level ≤ ((s.relevel p).point q).level := by
  unfold State.relevel
  dsimp only
  split
  · simp
  · have h : ∀ t : State, ∀ r : Fin 4, (t.markCall r).point q = t.point q := fun _ _ => rfl
    simp only [h, State.setList_point, State.setPoint_point]
    split
    · subst_vars; simp
    · simp

/-- R87: the recomputation of every open point keeps states, late flags, answerers and hurry flags, and lowers no level. -/
theorem State.relevelAll_point (s : State) (q : Fin 4) :
    (s.relevelAll.point q) = { s.point q with level := (s.relevelAll.point q).level }
      ∧ (s.point q).level ≤ (s.relevelAll.point q).level := by
  refine deliver_induct (fun t => t.point q = { s.point q with level := (t.point q).level }
    ∧ (s.point q).level ≤ (t.point q).level) (fun t n h => h) _ ?_ s ⟨rfl, le_refl _⟩
  intro f hf t ht
  obtain ⟨p, -, rfl⟩ := List.mem_map.1 hf
  have h := t.relevel_point p q
  refine ⟨?_, ht.2.trans h.2⟩
  have h1 := h.1
  rw [ht.1] at h1
  exact h1

/-! ### Doors -/

@[simp] theorem State.relevelAll_door (s : State) (e : Fin 4) : s.relevelAll.door e = s.door e := by
  simp [State.door]

@[simp] theorem State.recomputeEgress_door (s : State) (e : Fin 4) : s.recomputeEgress.door e = s.door e := by
  simp [State.door]

@[simp] theorem State.stopTimer_door (s : State) (c : Chan) (e : Fin 4) : (s.stopTimer c).door e = s.door e := by
  simp [State.door]

@[simp] theorem State.startTravel_door (s : State) (d e : Fin 4) : (s.startTravel d).door e = s.door e := by
  simp [State.door]

@[simp] theorem State.startAjar_door (s : State) (d e : Fin 4) : (s.startAjar d).door e = s.door e := by
  simp [State.door]

/-- R66: the drive of a lock changes the lock output of that door alone. -/
theorem State.driveLock_door (s : State) (d e : Fin 4) :
    (s.driveLock d).door e =
      if d = e ∧ s.drivable d = true then
        { s.door d with lock := lockFor (s.resolvedLock d) (s.door d).position (s.door d).lock }
      else s.door e := by
  have hm : ∀ t : State, t.markStatus.door e = t.door e := fun _ => rfl
  unfold State.driveLock
  dsimp only
  split
  · rename_i h
    simp only [Bool.or_eq_true, Bool.not_eq_true', beq_iff_eq] at h
    split
    · rename_i hd
      obtain ⟨rfl, hdr⟩ := hd
      rcases h with h | h
      · simp [h] at hdr
      · simp [h]
    · rfl
  · rename_i h
    simp only [Bool.or_eq_true, Bool.not_eq_true', beq_iff_eq, not_or] at h
    have hdr : s.drivable d = true := by simpa using h.1
    simp [hm, hdr]

/-- R67 and the phase rule of R72 write the record of that door alone. -/
theorem State.driveHold_other (s : State) (d e : Fin 4) (h : d ≠ e) : (s.driveHold d).door e = s.door e := by
  unfold State.driveHold State.holdChanged
  dsimp only
  (repeat' split) <;> simp [h]

theorem State.ajarUpdate_other (s : State) (d e : Fin 4) (h : d ≠ e) : (s.ajarUpdate d).door e = s.door e := by
  unfold State.ajarUpdate
  dsimp only
  (repeat' split) <;> simp [h]

/-- R65: a resolution writes the record of its own door alone. -/
theorem State.resolve_other (s : State) (d e : Fin 4) (h : d ≠ e) : (s.resolve d).door e = s.door e := by
  unfold State.resolve
  split
  · rw [State.ajarUpdate_other _ _ _ h, State.driveHold_other _ _ _ h, State.driveLock_door]
    simp [h]
  · rfl

/-- A resolution never writes a door's descriptor, position, filter or freeze mark. -/
theorem State.resolve_fixed (s : State) (d e : Fin 4) :
    ((s.resolve d).door e).desc = (s.door e).desc ∧ ((s.resolve d).door e).position = (s.door e).position
      ∧ ((s.resolve d).door e).filter = (s.door e).filter ∧ ((s.resolve d).door e).keep = (s.door e).keep := by
  have hl : ∀ t : State, ((t.driveLock d).door e).desc = (t.door e).desc
      ∧ ((t.driveLock d).door e).position = (t.door e).position
      ∧ ((t.driveLock d).door e).filter = (t.door e).filter ∧ ((t.driveLock d).door e).keep = (t.door e).keep := by
    intro t
    rw [State.driveLock_door]
    split
    · rename_i h; obtain ⟨rfl, -⟩ := h; simp
    · simp
  have hh : ∀ t : State, ((t.driveHold d).door e).desc = (t.door e).desc
      ∧ ((t.driveHold d).door e).position = (t.door e).position
      ∧ ((t.driveHold d).door e).filter = (t.door e).filter ∧ ((t.driveHold d).door e).keep = (t.door e).keep := by
    intro t
    by_cases hde : d = e
    · subst hde
      unfold State.driveHold State.holdChanged
      dsimp only
      (repeat' split) <;> simp
    · rw [State.driveHold_other _ _ _ hde]; simp
  have ha : ∀ t : State, ((t.ajarUpdate d).door e).desc = (t.door e).desc
      ∧ ((t.ajarUpdate d).door e).position = (t.door e).position
      ∧ ((t.ajarUpdate d).door e).filter = (t.door e).filter ∧ ((t.ajarUpdate d).door e).keep = (t.door e).keep := by
    intro t
    by_cases hde : d = e
    · subst hde
      unfold State.ajarUpdate
      dsimp only
      (repeat' split) <;> simp
    · rw [State.ajarUpdate_other _ _ _ hde]; simp
  unfold State.resolve
  split
  · refine ⟨?_, ?_, ?_, ?_⟩ <;> simp [ha, hh, hl]
  · simp

/-! ### Holds -/

/-- R67, R82: while the outputs of a sensed door are frozen, the drive of the hold keeps the output and sets the flag by the resolution. -/
theorem State.driveHold_frozen (s : State) (d : Fin 4) (hs : s.sensed d = true) (hf : s.frozen d = true) :
    s.driveHold d = s.setDoor d { s.door d with
      deferred := (holdFor (s.resolvedHold d) (s.door d).desc.magnet (s.door d).deferred (s.door d).phase).2 } := by
  simp [State.driveHold, hs, hf]

/-- R80: the hold of a door that is not owned, or not read yet, is not driven. -/
theorem State.driveHold_unsensed (s : State) (d : Fin 4) (hs : s.sensed d = false) : s.driveHold d = s := by
  simp [State.driveHold, hs]

/-- R80, R82: a drivable door is sensed and not frozen. -/
theorem State.drivable_iff (s : State) (d : Fin 4) :
    s.drivable d = true ↔ s.sensed d = true ∧ s.frozen d = false := by
  simp [State.drivable]

/-! ### Placing in the call list -/

/-- R96: in a list in falling order a placing stands behind every entry of equal or higher level and ahead of every lower one. -/
theorem placeEntry_eq_behindEquals (e : CallEntry) (l : List CallEntry) (h : falling l) :
    placeEntry e l = behindEquals e l := by
  induction l with
  | nil => simp [placeEntry, behindEquals]
  | cons a l ih =>
    rw [falling, List.pairwise_cons] at h
    by_cases ha : e.level ≤ a.level
    · have hp : placeEntry e (a :: l) = a :: placeEntry e l := by simp [placeEntry, ha]
      rw [hp, ih h.2]
      simp [behindEquals, ha]
    · have hp : placeEntry e (a :: l) = e :: a :: l := by simp [placeEntry, ha]
      have h1 : l.filter (fun x => decide (e.level ≤ x.level)) = [] := by
        rw [List.filter_eq_nil_iff]; intro x hx; have := h.1 x hx; simp; omega
      have h2 : l.filter (fun x => decide (x.level < e.level)) = l := by
        rw [List.filter_eq_self]; intro x hx; have := h.1 x hx; simp; omega
      have h3 : a.level < e.level := by omega
      simp [hp, behindEquals, ha, h1, h2, h3]

/-! ### Frames -/

/-- R169: the phases that check frames are those of a station in no reset condition. -/
theorem State.live_of_hearing (s : State) (h : s.hearing = true) : s.live = true := by
  simp [State.hearing] at h; exact h.1

/-- R167: a frame that reaches its end where none can is bits that belong to no frame. -/
theorem State.takeFrame_strays (s : State) (fr : Frame) (h : s.live = false ∨ s.link.receives = false) :
    s.takeFrame fr = s.straysSeen := by
  rcases h with h | h <;> simp [State.takeFrame, h]

/-- R169, R172: what becomes of a frame that is followed to its end in LISTEN, RELEARN or RUN. -/
theorem State.takeFrame_judged (s : State) (fr : Frame) (h : s.hearing = true) (hr : s.link.receives = true) :
    s.takeFrame fr = if fr.isBad s.own then ((s.awaitIdle false).countDiscard).markDuplicate fr
      else ((s.awaitIdle false).countGood).dispatch fr := by
  simp [State.takeFrame, h, hr, s.live_of_hearing h]

/-- R167: bits that belong to no frame count once on the way to the idle bus, and nowhere else. -/
theorem State.straysSeen_uncounted (s : State) (h : s.live = false ∨ s.link.awaits false = false) : s.straysSeen = s := by
  rcases h with h | h <;> simp [State.straysSeen, h]

/-- R102, R165: a failed offer that no newer one has overtaken is unsent in its slot again. -/
theorem State.frameFailed_offer (s : State) (f : Sending) (view : BusView) (id : CallId) (hs : f.slot = .answer)
    (ho : f.offer = some id) (hn : f.newer = false) :
    s.frameFailed f view = { s with link := { s.link with sending := none, bus := view, offer := some id } } := by
  simp [State.frameFailed, hs, ho, hn]

/-- R165: a failed STATUS or CALL frame leaves its slot pending. -/
theorem State.frameFailed_mark (s : State) (f : Sending) (view : BusView) (hs : f.slot ≠ .answer) :
    s.frameFailed f view =
      { s with link := { s.link with sending := none, bus := view }.setPending f.slot true none } := by
  unfold State.frameFailed
  cases hf : f.slot <;> simp_all

/-- R44: what a press does: the filter holds pressed, and only from released is the press looked up. -/
theorem State.buttonReads_held (s : State) (p : Fin 4) (h : s.watch.buttons[p].pressed = true) :
    s.buttonReads p = s.setButton p .held := by
  simp_all [State.buttonReads]

theorem State.buttonReads_press (s : State) (p : Fin 4) (h : s.watch.buttons[p].pressed = false) :
    s.buttonReads p = (s.setButton p .held).buttonTaken p := by
  simp_all [State.buttonReads]

/-- R188: what a press does where the key is sampled: the filter holds pressed, and only from released is the press taken. -/
theorem State.keyReads_held (s : State) (k : PanelKey) (press : State → State) (h : (s.keys.get k).pressed = true) :
    s.keyReads k press = s.setKeyRec k .held := by
  simp [State.keyReads, h]

theorem State.keyReads_press (s : State) (k : PanelKey) (press : State → State) (h : (s.keys.get k).pressed = false) :
    s.keyReads k press = press (s.setKeyRec k .held) := by
  simp [State.keyReads, h]

/-- R188: what a key command does: its line is closed; sampled, its filter reads it so. -/
theorem State.keyDown_sampled (s : State) (k : PanelKey) (press : State → State) :
    s.keyDown k true press = (s.setKeyLine k true).keyReads k press := rfl

theorem State.keyDown_unsampled (s : State) (k : PanelKey) (press : State → State) :
    s.keyDown k false press = s.setKeyLine k true := rfl

/-- A closed line is left or opened, an open one is left, and only a closed one draws. -/
theorem State.letGo_cases (s : State) (closed : Bool) (openLine : State → State) :
    (closed = false ∧ s.letGo closed openLine = s)
      ∨ (closed = true ∧ (s.letGo closed openLine = s.afterDraw 2 ∨ s.letGo closed openLine = openLine (s.afterDraw 2))) := by
  unfold State.letGo
  split
  · split <;> simp_all
  · simp_all

/-- R44, R188: what one sample of a button or a key does: its filter goes on, or takes a release, or gives the press and is released until the press
is taken. -/
theorem ButtonRec.sample_cases (b : ButtonRec) (closed : Bool) :
    (∃ f, b.sample closed = ({ b with filter := f }, false))
      ∨ (closed = false ∧ b.pressed = true ∧ b.sample closed = (.released, false))
      ∨ (closed = true ∧ b.pressed = false ∧ b.sample closed = (.released, true)) := by
  unfold ButtonRec.sample Filter.sample
  by_cases hb : some b.pressed = some closed
  · exact Or.inl ⟨_, by rw [if_pos hb]⟩
  · by_cases hc : b.filter.candidate = some closed
    · by_cases hn : b.filter.count.val = 2
      · rw [if_neg hb, if_pos hc, if_pos hn]
        cases closed
        · exact Or.inr (Or.inl ⟨rfl, by simpa using hb, rfl⟩)
        · exact Or.inr (Or.inr ⟨rfl, by simpa using hb, rfl⟩)
      · exact Or.inl ⟨_, by rw [if_neg hb, if_pos hc, if_neg hn]⟩
    · exact Or.inl ⟨_, by rw [if_neg hb, if_neg hc]⟩

end Sys2Proof.Machine
end

