-- ==== Sys2Proof/Laws/PerInstr.lean ====
section
/-! SUPPORT. One lemma per command: it is well-formed exactly when its operands fit the widths that the spec gives them. -/

namespace Sys2Proof.Laws.Wf

/-- R159, R167, R176: the operands fit: 41 bytes of a transfer, a bit of a frame of at most eight bytes, at most the bits of such a
frame; every other operand fits by its type. -/
def Fits : Instr → Prop
  | .configReadAttempt .noAck => True
  | .configReadAttempt (.bytes l) => l.length = 41
  | .transmitFault bit => bit ≤ 72
  | .frameDiscarded .startBit | .frameDiscarded .stray => True
  | .frameDiscarded (.bits l) => l.length ≤ 72
  | .resetAsserted _ | .holdFalls | .coldStart _ _ _ | .warmRestart | .startOfRun | .keyChange _ | .ack | .restore
  | .accept | .guard | .passage | .test | .bandChange _ _ | .watchBandChange _ _ | .callButtonPressed _
  | .firstReading _ _ | .positionChange _ _ | .ackWindowExpiry | .investigationExpiry | .travelLimitExpiry _
  | .ajarCompare _ | .heldEvent _ | .passageExpiry | .escalationCompare _ | .escalationExpiry _
  | .attendLimitExpiry _ | .silenceExpiry _ | .sweep | .exitDelayExpiry | .roundExpiry | .lampTestExpiry
  | .refreshExpiry | .statusPacingExpiry | .quietPeriodExpiry | .buzzerPatternEnd _ | .beginFrame
  | .lostArbitration _ | .frameSent | .receivedStatus _ | .receivedNotice _ | .receivedOffer _ | .busIdle => True

/-- The family's statement about one command. -/
def Statement (i : Instr) : Prop := i.wf = true ↔ Fits i

theorem resetAsserted (holdHigh : Bool) : Statement (.resetAsserted holdHigh) := iff_of_true rfl trivial

theorem holdFalls : Statement (.holdFalls) := iff_of_true rfl trivial

theorem coldStart (k1 k2 k3 : ModeReading) : Statement (.coldStart k1 k2 k3) := iff_of_true rfl trivial

theorem warmRestart : Statement (.warmRestart) := iff_of_true rfl trivial

theorem configReadAttempt (transfer : ConfigTransfer) : Statement (.configReadAttempt transfer) := by
  cases transfer <;> simp [Statement, Fits, Instr.wf, ConfigTransfer.wf]

theorem startOfRun : Statement (.startOfRun) := iff_of_true rfl trivial

theorem keyChange (position : Mode) : Statement (.keyChange position) := iff_of_true rfl trivial

theorem ack : Statement (.ack) := iff_of_true rfl trivial

theorem restore : Statement (.restore) := iff_of_true rfl trivial

theorem accept : Statement (.accept) := iff_of_true rfl trivial

theorem guard : Statement (.guard) := iff_of_true rfl trivial

theorem passage : Statement (.passage) := iff_of_true rfl trivial

theorem test : Statement (.test) := iff_of_true rfl trivial

theorem bandChange (loop : Fin 6) (microamps : Nat) : Statement (.bandChange loop microamps) := iff_of_true rfl trivial

theorem watchBandChange (input : Fin 8) (reading : WatchReading) : Statement (.watchBandChange input reading) := iff_of_true rfl trivial

theorem callButtonPressed (point : Fin 4) : Statement (.callButtonPressed point) := iff_of_true rfl trivial

theorem firstReading (door : Fin 4) (reading : ContactReading) : Statement (.firstReading door reading) := iff_of_true rfl trivial

theorem positionChange (door : Fin 4) (reading : ContactReading) : Statement (.positionChange door reading) := iff_of_true rfl trivial

theorem ackWindowExpiry : Statement (.ackWindowExpiry) := iff_of_true rfl trivial

theorem investigationExpiry : Statement (.investigationExpiry) := iff_of_true rfl trivial

theorem travelLimitExpiry (door : Fin 4) : Statement (.travelLimitExpiry door) := iff_of_true rfl trivial

theorem ajarCompare (door : Fin 4) : Statement (.ajarCompare door) := iff_of_true rfl trivial

theorem heldEvent (door : Fin 4) : Statement (.heldEvent door) := iff_of_true rfl trivial

theorem passageExpiry : Statement (.passageExpiry) := iff_of_true rfl trivial

theorem escalationCompare (point : Fin 4) : Statement (.escalationCompare point) := iff_of_true rfl trivial

theorem escalationExpiry (point : Fin 4) : Statement (.escalationExpiry point) := iff_of_true rfl trivial

theorem attendLimitExpiry (point : Fin 4) : Statement (.attendLimitExpiry point) := iff_of_true rfl trivial

theorem silenceExpiry (entry : Fin 4) : Statement (.silenceExpiry entry) := iff_of_true rfl trivial

theorem sweep : Statement (.sweep) := iff_of_true rfl trivial

theorem exitDelayExpiry : Statement (.exitDelayExpiry) := iff_of_true rfl trivial

theorem roundExpiry : Statement (.roundExpiry) := iff_of_true rfl trivial

theorem lampTestExpiry : Statement (.lampTestExpiry) := iff_of_true rfl trivial

theorem refreshExpiry : Statement (.refreshExpiry) := iff_of_true rfl trivial

theorem statusPacingExpiry : Statement (.statusPacingExpiry) := iff_of_true rfl trivial

theorem quietPeriodExpiry : Statement (.quietPeriodExpiry) := iff_of_true rfl trivial

theorem buzzerPatternEnd (pattern : OneShot) : Statement (.buzzerPatternEnd pattern) := iff_of_true rfl trivial

theorem beginFrame : Statement (.beginFrame) := iff_of_true rfl trivial

theorem lostArbitration (bit : Fin 8) : Statement (.lostArbitration bit) := iff_of_true rfl trivial

theorem transmitFault (bit : Nat) : Statement (.transmitFault bit) := by
  simp [Statement, Fits, Instr.wf]; omega

theorem frameSent : Statement (.frameSent) := iff_of_true rfl trivial

theorem receivedStatus (frame : StatusFrame) : Statement (.receivedStatus frame) := iff_of_true rfl trivial

theorem receivedNotice (frame : CallFrame) : Statement (.receivedNotice frame) := iff_of_true rfl trivial

theorem receivedOffer (frame : AnswerFrame) : Statement (.receivedOffer frame) := iff_of_true rfl trivial

theorem frameDiscarded (seen : BusActivity) : Statement (.frameDiscarded seen) := by
  cases seen <;> simp [Statement, Fits, Instr.wf, BusActivity.wf]

theorem busIdle : Statement (.busIdle) := iff_of_true rfl trivial

end Sys2Proof.Laws.Wf
end

