-- ==== Sys2Proof/Tests/Slice0.lean ====
section
/-! SUPPORT. Tests: the WellFormed smoke, words written out from the spec's frame layout, single steps on small states, and for each statement
with hypotheses a named witness of each of its clauses. -/

namespace Sys2Proof.Tests

open Sys2Proof Sys2Proof.Machine

-- One theorem after the other: each asks the kernel, and many waiting at once would each hold a thread's stack.
set_option Elab.async false

/-! ### Small states -/

/-- A configuration memory written out by the table of R175: station 13; door 0 INTERIOR, owned, with a magnet, weight 3, toward station 12;
door 1 EXIT, owned, weight 5; door 2 INTERIOR toward station 14, a shadow door, weight 2; door 3 BLANK. -/
def demoBody : List Byte :=
  [13, 64 + 32 + 16 + 3, 12, 128 + 32 + 5, 0, 64 + 2, 64 + 14, 0, 0, 1, 1, 2, 3, 0, 1, 1, 2, 3, 4, 0, 0, 0, 0, 3, 30, 0, 120, 20,
   60, 80, 60, 90, 60, 120, 60, 2, 10, 6, 5, 0]

/-- The same with its check byte: the sum of all 41 bytes is 0 (R175). -/
def demoBytes : List Byte := demoBody ++ [BitVec.ofNat 8 (256 - (demoBody.map BitVec.toNat).sum % 256)]

/-- Station 13 in RUN, in PUBLIC, settled at epoch 0, nothing read from its doors yet, its bus idle, the free order fixed at 0. -/
def demo : State :=
  { State.reset with
    order := 0
    modes := { State.reset.modes with mode := .pub, settled := true, keyPosition := .pub, keyReading := readingOf .pub }
    light := { State.reset.light with base := .opened }
    fire := { State.reset.fire with loops := Vector.ofFn fun l => { State.reset.fire.loops[l] with kind := (imageOf demoBytes).loops[l] } }
    watch := { State.reset.watch with
      inputs := Vector.ofFn fun i => { State.reset.watch.inputs[i] with kind := (imageOf demoBytes).watch[i] } }
    doors := { State.reset.doors with records := Vector.ofFn fun d => DoorRec.afresh (imageOf demoBytes).doors[d] }
    link := { State.reset.link with bus := .idle }
    table := { State.reset.table with entries := entriesOf (imageOf demoBytes).doors }
    start := { State.reset.start with phase := .run, condition := .none, image := some (imageOf demoBytes) } }

/-- A state in a held reset. -/
def inHold (s : State) : State := { s with start := { s.start with condition := .held } }

/-- A state in another start phase. -/
def inPhase (p : StartPhase) (s : State) : State := s.setPhase p

/-- A state with a held reset asked for (R178). -/
def asked (r : ResetRequest) (s : State) : State := { s with start := { s.start with request := r } }

/-- CONFIG-READ after some failed attempts. -/
def reading (k : StartKind) (attempts : Nat) : State :=
  { demo with start := { demo.start with phase := .configRead, kind := k, image := none, attempts := attempts } }

/-- A running channel with ten ticks to go. -/
def timed (c : Chan) (s : State) : State := s.setChannel c (Channel.fresh 10 .s1 .oneShot 0)

/-- A running channel whose compare value is still to come. -/
def timedHalf (c : Chan) (s : State) : State := s.setChannel c (Channel.fresh 10 .s1 .oneShot 5)

/-- Another mode. -/
def inMode (m : Mode) (s : State) : State := { s with modes := { s.modes with mode := m } }

/-- NIGHT with a guard state. -/
def guarded (g : GuardState) (s : State) : State :=
  { inMode .night s with watch := { s.watch with guard := g } }

/-- NIGHT, WATCHING, with a round. -/
def rounding (s : State) : State :=
  { inMode .night s with watch := { s.watch with guard := .watching, round := true } }

/-- Loop 0 under verification. -/
def inVerify (ph : VerifyPhase) (s : State) : State :=
  { s with fire := { s.fire with state := .verify, phase := ph, firstLoop := some 0 } }

/-- The own FIRE with the evacuation flag set. -/
def inFire (s : State) : State := { s with fire := { s.fire with state := .fire, evac := true } }

/-- Door 0 at a position in a phase. -/
def doorAt (p : Option Position) (ph : Option DoorPhase) (s : State) : State :=
  s.setDoor 0 { s.door 0 with position := p, phase := ph }

/-- Door 0 standing open under ajar timing, its compare value still to come. -/
def ajarDoor (s : State) : State :=
  timedHalf (.door 0) (s.setDoor 0 { s.door 0 with position := some .opened, phase := some .opened, ajar := true })

/-- The PASSAGE slot stands. -/
def passing (s : State) : State := { s with doors := { s.doors with passage := true } }

/-- QUIET. -/
def quieted (s : State) : State := { s with link := { s.link with quiet := true } }

/-- Some transmit faults in a row. -/
def faulty (n : Nat) (s : State) : State := { s with link := { s.link with faults := n } }

/-- The local entry of point 0, WAITING at level 1. -/
def localEntry : CallEntry :=
  { id := ⟨13, 0⟩, level := 1, answered := false, answerer := 0, isLocal := true, offered := false, heard := false }

/-- The local entry of point 1, ANSWERED by station 14. -/
def answeredEntry : CallEntry :=
  { id := ⟨13, 1⟩, level := 1, answered := true, answerer := 14, isLocal := true, offered := false, heard := false }

/-- A WAITING call of point 0 of station 12. -/
def remoteEntry : CallEntry :=
  { id := ⟨12, 0⟩, level := 1, answered := false, answerer := 0, isLocal := false, offered := false, heard := true }

/-- Point 0 WAITING, point 1 ANSWERED by station 14, and a call of station 12 behind them. -/
def calling (s : State) : State :=
  ((s.setPoint 0 { state := .waiting, level := 1, late := false, answerer := 0, hurry := false }).setPoint 1
    { state := .answered, level := 1, late := false, answerer := 14, hurry := false }).setList
    [localEntry, answeredEntry, remoteEntry]

/-- Call n of sixteen of level 2. -/
def crowdEntry (n : Nat) : CallEntry :=
  { remoteEntry with id := ⟨BitVec.ofNat 6 (1 + n / 4), Fin.ofNat 4 n⟩, level := 2 }

/-- A full call list of remote entries. -/
def crowded (s : State) : State := s.setList ((List.range 16).map crowdEntry)

/-- A sealed STATUS of station 12 with an epoch and a mode field. -/
def demoStatus (epoch : Byte) (mode : BitVec 2) : StatusFrame :=
  let f : StatusFrame :=
    { urgent := false, source := 12, fire := 0, guard := 0, intrusion := false, round := false, evacuation := false, trouble := false
      epoch := epoch, cost := 7, mode := mode, via := 0, doors := #v[0, 0, 0, 0], check := 0 }
  { f with check := crc (Frame.status f).body }

/-- A sealed notice. -/
def demoNotice (source : Station) (point state : BitVec 2) (level : BitVec 4) : CallFrame :=
  let f : CallFrame := { source := source, point := point, state := state, level := level, spare := 0, answerer := 0, check := 0 }
  { f with check := crc (Frame.call f).body }

/-- A sealed offer. -/
def demoOffer (source origin : Station) (point : BitVec 2) : AnswerFrame :=
  let f : AnswerFrame := { source := source, spare1 := 0, origin := origin, spare2 := 0, point := point, check := 0 }
  { f with check := crc (Frame.answer f).body }

/-- The STATUS of the demonstration state under way: header 11 001101. -/
def statusSending : Sending := { slot := .status, frame := (Frame.status demo.statusFrame).sealed, offer := none, newer := false }

/-- A state with that STATUS under way. -/
def sendingStatus (s : State) : State := { s with link := { s.link with sending := some statusSending, bus := .waiting false } }

/-- An offer for point 0 of station 12 under way: header 10 001110 with source 14; whether a newer one has been loaded since. -/
def offerSending (newer : Bool) : Sending :=
  { slot := .answer, frame := .answer (demoOffer 14 12 0), offer := some ⟨12, 0⟩, newer := newer }

/-- A state with that offer under way and what the ANSWER slot holds meanwhile. -/
def sendingOffer (newer : Bool) (held : Option CallId) (s : State) : State :=
  { s with link := { s.link with sending := some (offerSending newer), offer := held, bus := .waiting false } }

/-- A bus followed in some way. -/
def onBus (b : BusView) (s : State) : State := { s with link := { s.link with bus := b } }

/-- An idle bus with pending marks. -/
def marked (status : Bool) (calls : List Nat) (offer : Option CallId) (s : State) : State :=
  { s with link := { s.link with
      bus := .idle, status := status, calls := Vector.ofFn fun p => calls.contains p.val, offer := offer } }

/-- The state of a next outcome; the state after reset for another one. -/
def nextOf (o : Host.Outcome State Fault Refusal) : State :=
  match o with
  | .next s => s
  | .fault _ => State.reset
  | .refused _ => State.reset

/-! ### Witnesses: each clause's hypotheses, met together -/

theorem witness_ColdResetIsTheInitialState :
    ((fun (s : State) => (s.start.condition = .held ∨ s.start.request = .hold)) (inHold demo))
    ∧ ((fun (s : State) => s.start.condition ≠ .held ∧ s.start.request ≠ .hold) demo) := by
  refine ⟨?_, ?_⟩ <;> (beta_reduce; decide +kernel)

theorem witness_HeldResetKeepsTheStation :
    ((fun (s : State) => s.live = true ∧ s.link.sending = none) demo)
    ∧ ((fun (s : State) => s.live = true ∧ s.link.sending.isSome = true) (sendingStatus demo))
    ∧ ((fun (s : State) => s.start.condition ≠ .none) (inHold demo))
    ∧ ((fun (s : State) => s.live = true ∧ s.start.request = .hold ∧ s.link.sending.isSome = true) (asked .hold (sendingStatus demo)))
    ∧ ((fun (s : State) (f : Sending) (b : Fin 8) => s.live = true ∧ s.start.request = .hold ∧ s.link.sending = some f ∧ f.mayLose b = true) (asked .hold (sendingStatus demo)) statusSending 3)
    ∧ ((fun (s : State) (f : Sending) (b : Nat) => s.live = true ∧ s.start.request = .hold ∧ s.link.sending = some f ∧ f.mayFault b = true) (asked .hold (sendingStatus demo)) statusSending 72)
    ∧ ((fun (s : State) => s.start.condition = .none ∧ s.start.request = .hold) (asked .hold (sendingStatus demo)))
    ∧ ((fun (s : State) => s.live = true ∧ s.start.request = .warm ∧ s.link.sending.isSome = true) (asked .warm (sendingStatus demo)))
    ∧ ((fun (s : State) (f : Sending) (b : Fin 8) => s.live = true ∧ s.start.request = .warm ∧ s.link.sending = some f ∧ f.mayLose b = true) (asked .warm (sendingStatus demo)) statusSending 3)
    ∧ ((fun (s : State) (f : Sending) (b : Nat) => s.live = true ∧ s.start.request = .warm ∧ s.link.sending = some f ∧ f.mayFault b = true) (asked .warm (sendingStatus demo)) statusSending 72) := by
  refine ⟨?_, ?_, ?_, ?_, ?_, ?_, ?_, ?_, ?_, ?_⟩ <;> (beta_reduce; decide +kernel)

theorem witness_ColdStartReadsTheModeKey :
    ((fun (s : State) (_ _ _ : ModeReading) => (s.start.condition = .cold ∨ (s.start.condition = .held ∧ s.heldIsCold = true))) State.reset ⟨true, true⟩ ⟨true, false⟩ ⟨true, false⟩)
    ∧ ((fun (s : State) (_ _ _ : ModeReading) => (s.start.condition = .none ∨ (s.start.condition = .held ∧ s.heldIsCold = false))) (inHold demo) ⟨true, true⟩ ⟨true, true⟩ ⟨true, true⟩) := by
  refine ⟨?_, ?_⟩ <;> (beta_reduce; decide +kernel)

theorem witness_WarmRestartHoldsTheGalleryAndForgetsTheBuilding :
    ((fun (s : State) => s.start.condition = .held ∧ s.heldIsCold = false) (inHold demo))
    ∧ ((fun (s : State) => s.start.condition = .none ∧ s.start.request ≠ .hold) demo) := by
  refine ⟨?_, ?_⟩ <;> (beta_reduce; decide +kernel)

theorem witness_FailedReadsEndUnconfigured :
    ((fun (s : State) (r : ConfigTransfer) => s.live = true ∧ s.start.phase = .configRead ∧ judgeRead r = .failed ∧ s.start.attempts < 2) (reading .cold 1) .noAck)
    ∧ ((fun (s : State) (r : ConfigTransfer) => s.live = true ∧ s.start.phase = .configRead ∧ ((judgeRead r = .failed ∧ 2 ≤ s.start.attempts) ∨ judgeRead r = .badNumber)) (reading .cold 2) .noAck)
    ∧ ((fun (s : State) (r : ConfigTransfer) => s.live = true ∧ s.start.phase = .configRead ∧ ((judgeRead r = .failed ∧ 2 ≤ s.start.attempts) ∨ judgeRead r = .badNumber)) (reading .warm 0) (.bytes (List.replicate 41 0)))
    ∧ ((fun (s : State) (_ : ConfigTransfer) => (s.live = false ∨ s.start.phase ≠ .configRead)) demo .noAck) := by
  refine ⟨?_, ?_, ?_, ?_⟩ <;> (beta_reduce; decide +kernel)

theorem witness_GoodReadBeginsListenOrRelearn :
    ((fun (s : State) (r : ConfigTransfer) (img : Image) => s.live = true ∧ s.start.phase = .configRead ∧ s.start.kind = .cold ∧ judgeRead r = .good img) (reading .cold 0) (.bytes demoBytes) (imageOf demoBytes))
    ∧ ((fun (s : State) (r : ConfigTransfer) (img : Image) => s.live = true ∧ s.start.phase = .configRead ∧ s.start.kind = .warm ∧ judgeRead r = .good img) (reading .warm 2) (.bytes demoBytes) (imageOf demoBytes)) := by
  refine ⟨?_, ?_⟩ <;> (beta_reduce; decide +kernel)

theorem witness_StartOfRunSettlesComputesAndReleases :
    ((fun (s : State) => s.live = true ∧ s.listening = true ∧ (s.channel .t19).mayExpire = true) (timed .t19 (inPhase .listen demo)))
    ∧ ((fun (s : State) => s.live = true ∧ s.listening = true ∧ (s.channel .t19).mayExpire = true) (timed .t19 (inPhase .relearn demo)))
    ∧ ((fun (s : State) => (s.listening = false ∨ (s.channel .t19).mayExpire = false)) demo) := by
  refine ⟨?_, ?_, ?_⟩ <;> (beta_reduce; decide +kernel)

theorem witness_KeyTurnChangesTheMode :
    ((fun (s : State) (m : Mode) => s.live = true ∧ s.modes.keyPosition ≠ m) demo .night)
    ∧ ((fun (s : State) (m : Mode) => (s.live = false ∨ s.modes.keyPosition = m)) demo .pub)
    ∧ ((fun (s : State) (m : Mode) => (s.live = false ∨ s.modes.keyPosition = m)) State.reset .pub) := by
  refine ⟨?_, ?_, ?_⟩ <;> (beta_reduce; decide +kernel)

theorem witness_HeardPairIsAdoptedOrIgnored :
    ((fun (s : State) (f : StatusFrame) => s.hearing = true ∧ s.link.receives = true ∧ (Frame.status f).isBad s.own = false ∧ (s.modes.settled = false ∨ (1 ≤ (f.epoch - s.modes.epoch).toNat ∧ (f.epoch - s.modes.epoch).toNat ≤ 127) ∨ (f.epoch = s.modes.epoch ∧ ((s.modes.mode = .pub ∧ modeOfCode f.mode ≠ .pub) ∨ (s.modes.mode = .closed ∧ modeOfCode f.mode = .night))))) demo (demoStatus 1 0))
    ∧ ((fun (s : State) (f : StatusFrame) => s.hearing = true ∧ s.link.receives = true ∧ (Frame.status f).isBad s.own = false ∧ (s.modes.settled = false ∨ (1 ≤ (f.epoch - s.modes.epoch).toNat ∧ (f.epoch - s.modes.epoch).toNat ≤ 127) ∨ (f.epoch = s.modes.epoch ∧ ((s.modes.mode = .pub ∧ modeOfCode f.mode ≠ .pub) ∨ (s.modes.mode = .closed ∧ modeOfCode f.mode = .night))))) demo (demoStatus 127 0))
    ∧ ((fun (s : State) (f : StatusFrame) => s.hearing = true ∧ s.link.receives = true ∧ (Frame.status f).isBad s.own = false ∧ (s.modes.settled = false ∨ (1 ≤ (f.epoch - s.modes.epoch).toNat ∧ (f.epoch - s.modes.epoch).toNat ≤ 127) ∨ (f.epoch = s.modes.epoch ∧ ((s.modes.mode = .pub ∧ modeOfCode f.mode ≠ .pub) ∨ (s.modes.mode = .closed ∧ modeOfCode f.mode = .night))))) demo (demoStatus 0 1))
    ∧ ((fun (s : State) (f : StatusFrame) => s.hearing = true ∧ s.link.receives = true ∧ (Frame.status f).isBad s.own = false ∧ s.modes.settled = true ∧ (128 ≤ (f.epoch - s.modes.epoch).toNat ∨ (f.epoch = s.modes.epoch ∧ (modeOfCode f.mode = s.modes.mode ∨ s.modes.mode = .night ∨ (s.modes.mode = .closed ∧ modeOfCode f.mode = .pub))))) demo (demoStatus 128 2))
    ∧ ((fun (s : State) (f : StatusFrame) => s.hearing = true ∧ s.link.receives = true ∧ (Frame.status f).isBad s.own = false ∧ s.modes.settled = true ∧ (128 ≤ (f.epoch - s.modes.epoch).toNat ∨ (f.epoch = s.modes.epoch ∧ (modeOfCode f.mode = s.modes.mode ∨ s.modes.mode = .night ∨ (s.modes.mode = .closed ∧ modeOfCode f.mode = .pub))))) demo (demoStatus 0 0)) := by
  refine ⟨?_, ?_, ?_, ?_, ?_⟩ <;> (beta_reduce; decide +kernel)

theorem witness_LoopBandsSetTheFireStateAndVerify :
    ((fun (s : State) (l : Fin 6) (a : Nat) => s.hearing = true ∧ s.fire.loops[l].kind = .smoke ∧ 20000 ≤ a ∧ a < 40000 ∧ s.fire.loops[l].band ≠ .alarm ∧ (s.fire.state = .clear ∨ s.fire.state = .prealarm) ∧ s.modes.mode = .pub ∧ (∀ k : Fin 6, k ≠ l → s.fire.loops[k].band ≠ .alarm) ∧ s.corroborated = false) demo 0 20000)
    ∧ ((fun (s : State) (l : Fin 6) (a : Nat) => s.hearing = true ∧ s.fire.loops[l].kind = .smoke ∧ 20000 ≤ a ∧ a < 40000 ∧ s.fire.loops[l].band ≠ .alarm ∧ (s.fire.state = .clear ∨ s.fire.state = .prealarm) ∧ s.modes.mode = .pub ∧ (∀ k : Fin 6, k ≠ l → s.fire.loops[k].band ≠ .alarm) ∧ s.corroborated = false) demo 0 39999)
    ∧ ((fun (s : State) (l : Fin 6) (a : Nat) => s.hearing = true ∧ s.fire.loops[l].kind ≠ .unused ∧ loopBandOf a ≠ .alarm ∧ readByKind s.fire.loops[l].kind (loopBandOf a) ≠ s.fire.loops[l].band) demo 0 12000)
    ∧ ((fun (s : State) (l : Fin 6) (a : Nat) => s.hearing = true ∧ s.fire.loops[l].kind ≠ .unused ∧ loopBandOf a ≠ .alarm ∧ readByKind s.fire.loops[l].kind (loopBandOf a) ≠ s.fire.loops[l].band) demo 2 1999)
    ∧ ((fun (s : State) (l : Fin 6) (a : Nat) => s.hearing = true ∧ s.fire.loops[l].kind ≠ .unused ∧ loopBandOf a ≠ .alarm ∧ readByKind s.fire.loops[l].kind (loopBandOf a) ≠ s.fire.loops[l].band) demo 2 40000)
    ∧ ((fun (s : State) (l : Fin 6) (a : Nat) => s.hearing = true ∧ s.fire.loops[l].kind ≠ .unused ∧ readByKind s.fire.loops[l].kind (loopBandOf a) = s.fire.loops[l].band) demo 2 19999)
    ∧ ((fun (s : State) (l : Fin 6) (_ : Nat) => (s.hearing = false ∨ s.fire.loops[l].kind = .unused)) demo 4 20000)
    ∧ ((fun (s : State) (l : Fin 6) (_ : Nat) => (s.hearing = false ∨ s.fire.loops[l].kind = .unused)) State.reset 0 20000) := by
  refine ⟨?_, ?_, ?_, ?_, ?_, ?_, ?_, ?_⟩ <;> (beta_reduce; decide +kernel)

theorem witness_FireIsDeclared :
    ((fun (s : State) (l : Fin 6) (a : Nat) => s.hearing = true ∧ s.fire.loops[l].kind ≠ .unused ∧ 20000 ≤ a ∧ a < 40000 ∧ s.fire.loops[l].band ≠ .alarm ∧ (s.fire.state = .clear ∨ s.fire.state = .prealarm) ∧ (s.fire.loops[l].kind ≠ .smoke ∨ (∃ k : Fin 6, k ≠ l ∧ s.fire.loops[k].band = .alarm) ∨ s.corroborated = true ∨ s.modes.mode ≠ .pub)) demo 2 20000)
    ∧ ((fun (s : State) (l : Fin 6) (a : Nat) => s.hearing = true ∧ s.fire.loops[l].kind ≠ .unused ∧ 20000 ≤ a ∧ a < 40000 ∧ s.fire.loops[l].band ≠ .alarm ∧ (s.fire.state = .clear ∨ s.fire.state = .prealarm) ∧ (s.fire.loops[l].kind ≠ .smoke ∨ (∃ k : Fin 6, k ≠ l ∧ s.fire.loops[k].band = .alarm) ∨ s.corroborated = true ∨ s.modes.mode ≠ .pub)) demo 3 39999)
    ∧ ((fun (s : State) (l : Fin 6) (a : Nat) => s.hearing = true ∧ s.fire.loops[l].kind ≠ .unused ∧ 20000 ≤ a ∧ a < 40000 ∧ s.fire.loops[l].band ≠ .alarm ∧ (s.fire.state = .clear ∨ s.fire.state = .prealarm) ∧ (s.fire.loops[l].kind ≠ .smoke ∨ (∃ k : Fin 6, k ≠ l ∧ s.fire.loops[k].band = .alarm) ∨ s.corroborated = true ∨ s.modes.mode ≠ .pub)) (inMode .closed demo) 0 20000)
    ∧ ((fun (s : State) (l : Fin 6) (a : Nat) => s.hearing = true ∧ s.fire.loops[l].kind ≠ .unused ∧ 20000 ≤ a ∧ a < 40000 ∧ s.fire.loops[l].band ≠ .alarm ∧ s.fire.state = .verify ∧ s.fire.firstLoop ≠ some l) (inVerify .ackWindow demo) 1 20000)
    ∧ ((fun (s : State) (l : Fin 6) (a : Nat) => s.hearing = true ∧ s.fire.loops[l].kind ≠ .unused ∧ 20000 ≤ a ∧ a < 40000 ∧ s.fire.loops[l].band ≠ .alarm ∧ ((s.fire.state = .verify ∧ s.fire.firstLoop = some l) ∨ s.fire.state = .fire)) (inVerify .investigation demo) 0 20000)
    ∧ ((fun (s : State) => s.live = true ∧ s.fire.state = .verify ∧ s.fire.phase = .ackWindow ∧ (s.channel .t0).mayExpire = true) (timed .t0 (inVerify .ackWindow demo)))
    ∧ ((fun (s : State) => s.live = true ∧ s.fire.state = .verify ∧ s.fire.phase = .investigation ∧ (s.channel .pair).mayExpire = true) (timed .pair (inVerify .investigation demo))) := by
  refine ⟨?_, ?_, ?_, ?_, ?_, ?_, ?_⟩ <;> (beta_reduce; decide +kernel)

theorem witness_AckAnswersVerificationSounderAndBuzzer :
    ((fun (s : State) => s.keyed = true ∧ s.keys.ack.pressed = false) (inVerify .ackWindow demo))
    ∧ ((fun (s : State) => s.keyed = true ∧ s.keys.ack.pressed = false) (inPhase .unconfigured demo))
    ∧ ((fun (s : State) => s.keyed = true ∧ s.keys.ack.pressed = true) (demo.setKeyRec .ack .held))
    ∧ ((fun (s : State) => s.keyed = false) State.reset) := by
  refine ⟨?_, ?_, ?_, ?_⟩ <;> (beta_reduce; decide +kernel)

theorem witness_RestoreTakesItsThreeParts :
    ((fun (s : State) => s.keyed = true ∧ s.keys.restore.pressed = false) demo)
    ∧ ((fun (s : State) => s.keyed = true ∧ s.keys.restore.pressed = false) (inFire demo))
    ∧ ((fun (s : State) => s.keyed = true ∧ s.keys.restore.pressed = true) (demo.setKeyRec .restore .held))
    ∧ ((fun (s : State) => s.keyed = false) State.reset) := by
  refine ⟨?_, ?_, ?_, ?_⟩ <;> (beta_reduce; decide +kernel)

theorem witness_WatchInputIsAnswered :
    ((fun (s : State) (i : Fin 8) (r : WatchReading) => s.hearing = true ∧ s.watch.inputs[i].kind ≠ .unused ∧ s.watch.inputs[i].band ≠ watchBandOf r) demo 0 .tripped)
    ∧ ((fun (s : State) (i : Fin 8) (r : WatchReading) => s.hearing = true ∧ s.watch.inputs[i].kind ≠ .unused ∧ s.watch.inputs[i].band ≠ watchBandOf r) demo 3 .cut)
    ∧ ((fun (s : State) (i : Fin 8) (r : WatchReading) => s.hearing = true ∧ s.watch.inputs[i].kind ≠ .unused ∧ s.watch.inputs[i].band = watchBandOf r) demo 0 .endOfLine)
    ∧ ((fun (s : State) (i : Fin 8) (_ : WatchReading) => (s.hearing = false ∨ s.watch.inputs[i].kind = .unused)) demo 7 .tripped) := by
  refine ⟨?_, ?_, ?_, ?_⟩ <;> (beta_reduce; decide +kernel)

theorem witness_CallButtonIsAnsweredByTheHour :
    ((fun (s : State) (p : Fin 4) => s.hearing = true ∧ s.pointFitted p = true ∧ s.watch.buttons[p].pressed = false ∧ responseTable .callButton s.column = .call ∧ (s.point p).state = .idle) demo 2)
    ∧ ((fun (s : State) (p : Fin 4) => s.hearing = true ∧ s.pointFitted p = true ∧ s.watch.buttons[p].pressed = false ∧ responseTable .callButton s.column = .call ∧ (s.point p).state ≠ .idle) (calling demo) 0)
    ∧ ((fun (s : State) (p : Fin 4) => s.hearing = true ∧ s.pointFitted p = true ∧ s.watch.buttons[p].pressed = false ∧ responseTable .callButton s.column = .local) (guarded .setting demo) 0)
    ∧ ((fun (s : State) (p : Fin 4) => s.hearing = true ∧ s.pointFitted p = true ∧ s.watch.buttons[p].pressed = false ∧ responseTable .callButton s.column = .alert) (guarded .watching demo) 2)
    ∧ ((fun (s : State) (p : Fin 4) => s.hearing = true ∧ s.pointFitted p = true ∧ s.watch.buttons[p].pressed = true) (demo.setButton 2 .held) 2)
    ∧ ((fun (s : State) (p : Fin 4) => (s.hearing = false ∨ s.pointFitted p = false)) demo 3) := by
  refine ⟨?_, ?_, ?_, ?_, ?_, ?_⟩ <;> (beta_reduce; decide +kernel)

theorem witness_GuardKeyAndItsTimerWalkTheRoundAndAttendTheCalls :
    ((fun (s : State) => s.keyed = true ∧ s.keys.guard.pressed = false) (calling (guarded .watching demo)))
    ∧ ((fun (s : State) => s.keyed = true ∧ s.keys.guard.pressed = true) (demo.setKeyRec .guard .held))
    ∧ ((fun (s : State) => s.keyed = false) State.reset)
    ∧ ((fun (s : State) => s.live = true ∧ s.watch.guard = .setting ∧ (s.channel .t18).mayExpire = true) (timed .t18 (guarded .setting demo)))
    ∧ ((fun (s : State) => s.live = true ∧ s.watch.guard = .watching ∧ s.watch.round = true ∧ (s.channel .t18).mayExpire = true) (timed .t18 (rounding demo)))
    ∧ ((fun (s : State) => s.watch.guard ≠ .setting) demo)
    ∧ ((fun (s : State) => (s.watch.guard ≠ .watching ∨ s.watch.round = false)) demo) := by
  refine ⟨?_, ?_, ?_, ?_, ?_, ?_, ?_⟩ <;> (beta_reduce; decide +kernel)

theorem witness_PositionChangeMovesTheDoor :
    ((fun (s : State) (d : Fin 4) (r : ContactReading) => s.hearing = true ∧ (s.door d).desc.isOwned = true ∧ ((s.door d).position = some .opened ∨ (s.door d).position = some .unknown) ∧ positionOf r = .closed) (doorAt (some .opened) (some .closing) demo) 0 .atRest)
    ∧ ((fun (s : State) (d : Fin 4) (r : ContactReading) => s.hearing = true ∧ (s.door d).desc.isOwned = true ∧ ((s.door d).position = some .opened ∨ (s.door d).position = some .unknown) ∧ positionOf r = .closed) (doorAt (some .unknown) (some .unsensed) demo) 0 .atRest)
    ∧ ((fun (s : State) (d : Fin 4) (r : ContactReading) => s.hearing = true ∧ (s.door d).desc.isOwned = true ∧ ((s.door d).position = some .closed ∨ (s.door d).position = some .unknown) ∧ phaseFits (s.door d).position (s.door d).phase = true ∧ positionOf r = .opened) (doorAt (some .closed) (some .shut) demo) 0 .away)
    ∧ ((fun (s : State) (d : Fin 4) (r : ContactReading) => s.hearing = true ∧ (s.door d).desc.isOwned = true ∧ ((s.door d).position = some .closed ∨ (s.door d).position = some .unknown) ∧ phaseFits (s.door d).position (s.door d).phase = true ∧ positionOf r = .opened) (doorAt (some .unknown) (some .unsensed) demo) 0 .away)
    ∧ ((fun (s : State) (d : Fin 4) (r : ContactReading) => s.hearing = true ∧ (s.door d).desc.isOwned = true ∧ ((s.door d).position = some .closed ∨ (s.door d).position = some .opened) ∧ positionOf r = .unknown) (doorAt (some .closed) (some .shut) demo) 0 .cut)
    ∧ ((fun (s : State) (d : Fin 4) (r : ContactReading) => s.hearing = true ∧ (s.door d).desc.isOwned = true ∧ ((s.door d).position = some .closed ∨ (s.door d).position = some .opened) ∧ positionOf r = .unknown) (doorAt (some .opened) (some .held) demo) 0 .shorted)
    ∧ ((fun (s : State) (d : Fin 4) (r : ContactReading) => s.hearing = true ∧ (s.door d).desc.isOwned = true ∧ (s.door d).position = some (positionOf r)) (doorAt (some .closed) (some .shut) demo) 0 .atRest)
    ∧ ((fun (s : State) (d : Fin 4) (_ : ContactReading) => (s.hearing = false ∨ (s.door d).desc.isOwned = false ∨ (s.door d).position = none)) demo 2 .away) := by
  refine ⟨?_, ?_, ?_, ?_, ?_, ?_, ?_, ?_⟩ <;> (beta_reduce; decide +kernel)

theorem witness_FirstReadingDrivesTheDoor :
    ((fun (s : State) (d : Fin 4) (_ : ContactReading) => s.hearing = true ∧ (s.door d).desc.isOwned = true ∧ (s.door d).position = none ∧ s.DoorSound d) demo 0 .atRest)
    ∧ ((fun (s : State) (d : Fin 4) (_ : ContactReading) => s.hearing = true ∧ (s.door d).desc.isOwned = true ∧ (s.door d).position = none ∧ s.DoorSound d) demo 1 .away)
    ∧ ((fun (s : State) (d : Fin 4) (_ : ContactReading) => (s.hearing = false ∨ (s.door d).desc.isOwned = false ∨ (s.door d).position.isSome = true)) demo 3 .atRest) := by
  refine ⟨?_, ?_, ?_⟩ <;> (beta_reduce; decide +kernel)

theorem witness_DoorTimersBlockAndReportTheDoor :
    ((fun (s : State) (d : Fin 4) => s.hearing = true ∧ (s.door d).desc.isOwned = true ∧ (s.door d).position = some .opened ∧ (s.door d).phase = some .closing ∧ (s.channel (.door d)).mayExpire = true) (timed (.door 0) (doorAt (some .opened) (some .closing) demo)) 0)
    ∧ ((fun (s : State) (d : Fin 4) => ((s.door d).phase ≠ some .closing ∨ (s.channel (.door d)).mayExpire = false)) demo 0)
    ∧ ((fun (s : State) (d : Fin 4) => s.live = true ∧ (s.door d).ajar = true ∧ (s.door d).phase ≠ some .closing ∧ (s.channel (.door d)).compareDue = true) (ajarDoor demo) 0)
    ∧ ((fun (s : State) (d : Fin 4) => ((s.door d).ajar = false ∨ (s.door d).phase = some .closing ∨ (s.channel (.door d)).compareDue = false)) demo 0)
    ∧ ((fun (s : State) (d : Fin 4) => s.live = true ∧ (s.door d).ajar = true ∧ (s.door d).phase ≠ some .closing ∧ (s.channel (.door d)).mayExpire = true) (ajarDoor demo) 0)
    ∧ ((fun (s : State) (d : Fin 4) => ((s.door d).ajar = false ∨ (s.door d).phase = some .closing ∨ (s.channel (.door d)).mayExpire = false)) demo 0) := by
  refine ⟨?_, ?_, ?_, ?_, ?_, ?_⟩ <;> (beta_reduce; decide +kernel)

theorem witness_PassageKeyOpensTheDoorsForItsTime :
    ((fun (s : State) => s.hearing = true ∧ s.keys.passage.pressed = false ∧ s.doors.passage = false) demo)
    ∧ ((fun (s : State) => s.hearing = true ∧ s.keys.passage.pressed = false ∧ s.doors.passage = true) (passing demo))
    ∧ ((fun (s : State) => s.hearing = true ∧ s.keys.passage.pressed = true) (demo.setKeyRec .passage .held))
    ∧ ((fun (s : State) => s.hearing = false) State.reset)
    ∧ ((fun (s : State) => s.live = true ∧ (s.channel .t21).mayExpire = true) (timed .t21 (passing demo)))
    ∧ ((fun (s : State) => (s.channel .t21).mayExpire = false) demo) := by
  refine ⟨?_, ?_, ?_, ?_, ?_, ?_⟩ <;> (beta_reduce; decide +kernel)

theorem witness_CallTimersHurryEscalateAndReturn :
    ((fun (s : State) (p : Fin 4) => s.live = true ∧ (s.point p).state = .waiting ∧ (s.channel (.point p)).compareDue = true) (timedHalf (.point 0) (calling demo)) 0)
    ∧ ((fun (s : State) (p : Fin 4) => ((s.point p).state ≠ .waiting ∨ (s.channel (.point p)).compareDue = false)) demo 0)
    ∧ ((fun (s : State) (p : Fin 4) => s.hearing = true ∧ (s.point p).state = .waiting ∧ (s.channel (.point p)).mayExpire = true ∧ (∀ e ∈ s.calls.list, e.id = s.ownCall p → e.level = (s.point p).level)) (timed (.point 0) (calling demo)) 0)
    ∧ ((fun (s : State) (p : Fin 4) => ((s.point p).state ≠ .waiting ∨ (s.channel (.point p)).mayExpire = false)) demo 0)
    ∧ ((fun (s : State) (p : Fin 4) => s.hearing = true ∧ (s.point p).state = .answered ∧ (s.channel (.point p)).mayExpire = true ∧ (∀ e ∈ s.calls.list, e.id = s.ownCall p → e.level = (s.point p).level)) (timed (.point 1) (calling demo)) 1)
    ∧ ((fun (s : State) (p : Fin 4) => ((s.point p).state ≠ .answered ∨ (s.channel (.point p)).mayExpire = false)) demo 0) := by
  refine ⟨?_, ?_, ?_, ?_, ?_, ?_⟩ <;> (beta_reduce; decide +kernel)

theorem witness_NoticesKeepTheCallList :
    ((fun (s : State) (f : CallFrame) => s.hearing = true ∧ s.link.receives = true ∧ (Frame.call f).isBad s.own = false ∧ f.state = 2) (calling demo) (demoNotice 12 0 2 0))
    ∧ ((fun (s : State) (f : CallFrame) => s.hearing = true ∧ s.link.receives = true ∧ (Frame.call f).isBad s.own = false ∧ f.state ≠ 2 ∧ (∀ e ∈ s.calls.list, e.id ≠ { origin := f.source, point := pointOfCode f.point : CallId }) ∧ s.calls.list.length < 16) (calling demo) (demoNotice 12 3 0 7))
    ∧ ((fun (s : State) (f : CallFrame) (e : CallEntry) => s.hearing = true ∧ s.link.receives = true ∧ (Frame.call f).isBad s.own = false ∧ f.state ≠ 2 ∧ (s.calls.list.map CallEntry.id).Nodup ∧ e ∈ s.calls.list ∧ e.id = { origin := f.source, point := pointOfCode f.point : CallId }) (calling demo) (demoNotice 12 0 1 1) remoteEntry)
    ∧ ((fun (s : State) (f : CallFrame) => s.hearing = true ∧ s.link.receives = true ∧ (Frame.call f).isBad s.own = false ∧ f.state ≠ 2 ∧ (∀ e ∈ s.calls.list, e.id ≠ { origin := f.source, point := pointOfCode f.point : CallId }) ∧ 16 ≤ s.calls.list.length ∧ (∀ v, lastRemote s.calls.list = some v → levelOfCode f.level ≤ v.level)) (crowded demo) (demoNotice 20 0 0 2))
    ∧ ((fun (s : State) (f : CallFrame) (v : CallEntry) => s.hearing = true ∧ s.link.receives = true ∧ (Frame.call f).isBad s.own = false ∧ f.state ≠ 2 ∧ (∀ e ∈ s.calls.list, e.id ≠ { origin := f.source, point := pointOfCode f.point : CallId }) ∧ 16 ≤ s.calls.list.length ∧ lastRemote s.calls.list = some v ∧ v.level < levelOfCode f.level) (crowded demo) (demoNotice 20 0 0 3) (crowdEntry 15)) := by
  refine ⟨?_, ?_, ?_, ?_, ?_⟩
  · beta_reduce
    decide +kernel
  · beta_reduce
    decide +kernel
  · beta_reduce
    decide +kernel
  · beta_reduce
    refine ⟨by decide +kernel, by decide +kernel, by decide +kernel, by decide +kernel, by decide +kernel, by decide +kernel, ?_⟩
    intro v h
    have hv : lastRemote (crowded demo).calls.list = some (crowdEntry 15) := by decide +kernel
    rw [hv] at h
    cases h
    decide +kernel
  · beta_reduce
    decide +kernel

theorem witness_CallsAreAnsweredByOffersAndByAccept :
    ((fun (s : State) (f : AnswerFrame) => s.hearing = true ∧ s.link.receives = true ∧ (Frame.answer f).isBad s.own = false ∧ f.origin = s.own ∧ s.pointFitted (pointOfCode f.point) = true ∧ (s.point (pointOfCode f.point)).state = .waiting) (calling demo) (demoOffer 12 13 0))
    ∧ ((fun (s : State) (f : AnswerFrame) => s.hearing = true ∧ s.link.receives = true ∧ (Frame.answer f).isBad s.own = false ∧ f.origin = s.own ∧ s.pointFitted (pointOfCode f.point) = true ∧ (s.point (pointOfCode f.point)).state = .answered ∧ f.source.toNat < (s.point (pointOfCode f.point)).answerer.toNat) (calling demo) (demoOffer 12 13 1))
    ∧ ((fun (s : State) (f : AnswerFrame) => s.hearing = true ∧ s.link.receives = true ∧ (Frame.answer f).isBad s.own = false ∧ f.origin = s.own ∧ s.pointFitted (pointOfCode f.point) = true ∧ (s.point (pointOfCode f.point)).state = .answered ∧ (s.point (pointOfCode f.point)).answerer.toNat ≤ f.source.toNat) (calling demo) (demoOffer 14 13 1))
    ∧ ((fun (s : State) (f : AnswerFrame) => s.hearing = true ∧ s.link.receives = true ∧ (Frame.answer f).isBad s.own = false ∧ f.origin = s.own ∧ s.pointFitted (pointOfCode f.point) = true ∧ (s.point (pointOfCode f.point)).state = .answered ∧ (s.point (pointOfCode f.point)).answerer.toNat ≤ f.source.toNat) (calling demo) (demoOffer 15 13 1))
    ∧ ((fun (s : State) (f : AnswerFrame) => s.hearing = true ∧ s.link.receives = true ∧ (Frame.answer f).isBad s.own = false ∧ (f.origin ≠ s.own ∨ s.pointFitted (pointOfCode f.point) = false ∨ (s.point (pointOfCode f.point)).state = .idle)) (calling demo) (demoOffer 12 13 2))
    ∧ ((fun (s : State) (f : AnswerFrame) => s.hearing = true ∧ s.link.receives = true ∧ (Frame.answer f).isBad s.own = false ∧ (f.origin ≠ s.own ∨ s.pointFitted (pointOfCode f.point) = false ∨ (s.point (pointOfCode f.point)).state = .idle)) (calling demo) (demoOffer 12 13 3))
    ∧ ((fun (s : State) (f : AnswerFrame) => s.hearing = true ∧ s.link.receives = true ∧ (Frame.answer f).isBad s.own = false ∧ (f.origin ≠ s.own ∨ s.pointFitted (pointOfCode f.point) = false ∨ (s.point (pointOfCode f.point)).state = .idle)) (calling demo) (demoOffer 12 14 0))
    ∧ ((fun (s : State) => s.keyed = true ∧ s.keys.accept.pressed = false ∧ s.calls.list.find? (fun x => !x.answered && !x.offered) = none) demo)
    ∧ ((fun (s : State) (e : CallEntry) => s.keyed = true ∧ s.keys.accept.pressed = false ∧ s.calls.list.find? (fun x => !x.answered && !x.offered) = some e ∧ e.isLocal = true ∧ (s.point e.id.point).state = .waiting) (calling demo) localEntry)
    ∧ ((fun (s : State) (e : CallEntry) => s.keyed = true ∧ s.keys.accept.pressed = false ∧ s.calls.list.find? (fun x => !x.answered && !x.offered) = some e ∧ e.isLocal = false) (demo.setList [remoteEntry]) remoteEntry)
    ∧ ((fun (s : State) => s.keyed = true ∧ s.keys.accept.pressed = true) (demo.setKeyRec .accept .held))
    ∧ ((fun (s : State) => s.keyed = false) State.reset) := by
  refine ⟨?_, ?_, ?_, ?_, ?_, ?_, ?_, ?_, ?_, ?_, ?_, ?_⟩ <;> (beta_reduce; decide +kernel)

theorem witness_SweepForgetsTheUnconfirmed :
    ((fun (s : State) => s.live = true ∧ (s.channel .t17).mayExpire = true ∧ s.EvacuationSound ∧ s.CallsSound) (timed .t17 (calling demo)))
    ∧ ((fun (s : State) => (s.channel .t17).mayExpire = false) demo) := by
  refine ⟨?_, ?_⟩ <;> (beta_reduce; decide +kernel)

theorem witness_StatusUpdatesEntryRosterAndFire :
    ((fun (s : State) (f : StatusFrame) (k : Fin 4) (e : NbEntry) => s.hearing = true ∧ s.link.receives = true ∧ (Frame.status f).isBad s.own = false ∧ s.table.entries[k] = some e ∧ e.station = f.source) demo (demoStatus 0 0) 0 (NbEntry.unheard 12))
    ∧ ((fun (s : State) (f : StatusFrame) => s.hearing = true ∧ s.link.receives = true ∧ (Frame.status f).isBad s.own = false) demo (demoStatus 0 0))
    ∧ ((fun (s : State) (k : Fin 4) (e : NbEntry) => s.live = true ∧ s.table.entries[k] = some e ∧ e.state ≠ .mute ∧ (s.channel (.silence k)).mayExpire = true) (timed (.silence 0) demo) 0 (NbEntry.unheard 12))
    ∧ ((fun (s : State) (k : Fin 4) => (∀ e, s.table.entries[k] = some e → e.state = .mute)) demo 3)
    ∧ ((fun (s : State) (k : Fin 4) => (s.table.entries[k] = none ∨ (s.channel (.silence k)).mayExpire = false)) demo 0) := by
  refine ⟨?_, ?_, ?_, ?_, ?_⟩
  · beta_reduce
    decide +kernel
  · beta_reduce
    decide +kernel
  · beta_reduce
    decide +kernel
  · beta_reduce
    intro e h
    have h0 : demo.table.entries[(3 : Fin 4)] = none := by decide +kernel
    rw [h0] at h
    cases h
  · beta_reduce
    decide +kernel

theorem witness_TestPushesItsSceneForTenSeconds :
    ((fun (s : State) => s.keyed = true ∧ s.keys.test.pressed = false ∧ s.StackSound) demo)
    ∧ ((fun (s : State) => s.keyed = true ∧ s.keys.test.pressed = true) (demo.setKeyRec .test .held))
    ∧ ((fun (s : State) => s.keyed = false) State.reset)
    ∧ ((fun (s : State) => s.live = true ∧ (s.channel .t20).mayExpire = true) (timed .t20 demo))
    ∧ ((fun (s : State) => (s.channel .t20).mayExpire = false) demo) := by
  refine ⟨?_, ?_, ?_, ?_, ?_⟩ <;> (beta_reduce; decide +kernel)

theorem witness_BeginFrameSendsTheMostUrgentSlot :
    ((fun (s : State) => s.live = true ∧ s.start.phase = .run ∧ s.link.quiet = false ∧ s.link.bus = .idle ∧ s.link.sending = none ∧ s.link.status = true ∧ s.timers.t16.running = false ∧ ((s.fire.state ≠ .clear ∨ s.watch.intrusion = true ∨ s.fire.evac = true) ∨ (s.link.offer = none ∧ ∀ p : Fin 4, s.link.calls[p] = false))) (marked true [] none demo))
    ∧ ((fun (s : State) => s.live = true ∧ s.start.phase = .run ∧ s.link.quiet = false ∧ s.link.bus = .idle ∧ s.link.sending = none ∧ s.link.status = true ∧ s.timers.t16.running = false ∧ ((s.fire.state ≠ .clear ∨ s.watch.intrusion = true ∨ s.fire.evac = true) ∨ (s.link.offer = none ∧ ∀ p : Fin 4, s.link.calls[p] = false))) (marked true [1] none (inFire demo)))
    ∧ ((fun (s : State) (p : Fin 4) => s.live = true ∧ s.start.phase = .run ∧ s.link.quiet = false ∧ s.link.bus = .idle ∧ s.link.sending = none ∧ (¬(s.link.status = true ∧ s.timers.t16.running = false ∧ (s.fire.state ≠ .clear ∨ s.watch.intrusion = true ∨ s.fire.evac = true))) ∧ s.link.calls[p] = true ∧ (∀ q : Fin 4, q < p → s.link.calls[q] = false)) (marked true [1, 2] none demo) 1)
    ∧ ((fun (s : State) (id : CallId) => s.live = true ∧ s.start.phase = .run ∧ s.link.quiet = false ∧ s.link.bus = .idle ∧ s.link.sending = none ∧ (¬(s.link.status = true ∧ s.timers.t16.running = false ∧ (s.fire.state ≠ .clear ∨ s.watch.intrusion = true ∨ s.fire.evac = true))) ∧ (∀ q : Fin 4, s.link.calls[q] = false) ∧ s.link.offer = some id) (marked true [] (some ⟨12, 0⟩) demo) ⟨12, 0⟩)
    ∧ ((fun (s : State) => (s.live = false ∨ s.start.phase ≠ .run ∨ s.link.quiet = true ∨ s.link.bus ≠ .idle ∨ s.link.sending.isSome = true ∨ ((∀ q : Fin 4, s.link.calls[q] = false) ∧ s.link.offer = none ∧ (s.link.status = false ∨ s.timers.t16.running = true)))) (marked false [] none demo)) := by
  refine ⟨?_, ?_, ?_, ?_, ?_⟩ <;> (beta_reduce; decide +kernel)

theorem witness_FrameOutcomesKeepOrLoseTheMark :
    ((fun (s : State) (f : Sending) => s.live = true ∧ s.start.request = .none ∧ s.link.sending = some f) (sendingStatus demo) statusSending)
    ∧ ((fun (s : State) => s.link.sending = none) demo)
    ∧ ((fun (s : State) (f : Sending) (b : Fin 8) => s.live = true ∧ s.start.request = .none ∧ s.link.sending = some f ∧ f.slot ≠ .answer ∧ (headerByte f.frame.kindCode f.frame.source).getLsbD b = true) (sendingStatus demo) statusSending 3)
    ∧ ((fun (s : State) (f : Sending) (b : Fin 8) (id : CallId) => s.live = true ∧ s.start.request = .none ∧ s.link.sending = some f ∧ f.slot = .answer ∧ f.offer = some id ∧ (headerByte f.frame.kindCode f.frame.source).getLsbD b = true) (sendingOffer false none (calling demo)) (offerSending false) 1 ⟨12, 0⟩)
    ∧ ((fun (s : State) (f : Sending) (b : Fin 8) (id : CallId) => s.live = true ∧ s.start.request = .none ∧ s.link.sending = some f ∧ f.slot = .answer ∧ f.offer = some id ∧ (headerByte f.frame.kindCode f.frame.source).getLsbD b = true) (sendingOffer true (some ⟨14, 1⟩) (calling demo)) (offerSending true) 1 ⟨12, 0⟩)
    ∧ ((fun (s : State) (b : Fin 8) => (s.live = false ∨ s.link.sending = none ∨ (∃ f, s.link.sending = some f ∧ (headerByte f.frame.kindCode f.frame.source).getLsbD b = false))) (sendingStatus demo) 4)
    ∧ ((fun (s : State) (f : Sending) (b : Nat) => s.live = true ∧ s.start.request = .none ∧ s.link.sending = some f ∧ f.slot ≠ .answer ∧ f.mayFault b = true ∧ s.link.faults < 2) (faulty 1 (sendingStatus demo)) statusSending 72)
    ∧ ((fun (s : State) (f : Sending) (b : Nat) => s.live = true ∧ s.start.request = .none ∧ s.link.sending = some f ∧ f.slot ≠ .answer ∧ f.mayFault b = true ∧ s.link.faults < 2) (sendingStatus demo) statusSending 0)
    ∧ ((fun (s : State) (f : Sending) (b : Nat) (id : CallId) => s.live = true ∧ s.start.request = .none ∧ s.link.sending = some f ∧ f.slot = .answer ∧ f.offer = some id ∧ f.mayFault b = true ∧ s.link.faults < 2) (faulty 1 (sendingOffer true none demo)) (offerSending true) 0 ⟨12, 0⟩)
    ∧ ((fun (s : State) (f : Sending) (b : Nat) => s.live = true ∧ s.start.request = .none ∧ s.link.sending = some f ∧ f.mayFault b = true ∧ 2 ≤ s.link.faults) (faulty 2 (sendingStatus demo)) statusSending 0)
    ∧ ((fun (s : State) (b : Nat) => (s.live = false ∨ s.link.sending = none ∨ (∃ f, s.link.sending = some f ∧ f.mayFault b = false))) (sendingStatus demo) 73) := by
  refine ⟨?_, ?_, ?_, ?_, ?_, ?_, ?_, ?_, ?_, ?_, ?_⟩
  · beta_reduce
    decide +kernel
  · beta_reduce
    decide +kernel
  · beta_reduce
    decide +kernel
  · beta_reduce
    decide +kernel
  · beta_reduce
    decide +kernel
  · beta_reduce
    exact Or.inr (Or.inr ⟨_, rfl, by decide +kernel⟩)
  · beta_reduce
    decide +kernel
  · beta_reduce
    decide +kernel
  · beta_reduce
    decide +kernel
  · beta_reduce
    decide +kernel
  · beta_reduce
    exact Or.inr (Or.inr ⟨_, rfl, by decide +kernel⟩)

theorem witness_LinkTimersBusAndBuzzerRunOn :
    ((fun (s : State) => s.live = true ∧ (s.channel .t15).mayExpire = true) (timed .t15 demo))
    ∧ ((fun (s : State) => (s.channel .t15).mayExpire = false) demo)
    ∧ ((fun (s : State) => s.live = true ∧ (s.channel .t16).mayExpire = true) (timed .t16 demo))
    ∧ ((fun (s : State) => (s.channel .t16).mayExpire = false) demo)
    ∧ ((fun (s : State) => s.live = true ∧ s.link.quiet = true ∧ (s.channel .t19).mayExpire = true) (timed .t19 (quieted demo)))
    ∧ ((fun (s : State) => (s.link.quiet = false ∨ (s.channel .t19).mayExpire = false)) demo)
    ∧ ((fun (s : State) => s.live = true ∧ s.link.sending = none ∧ s.link.bus ≠ .following) (onBus (.waiting false) demo))
    ∧ ((fun (s : State) => s.live = true ∧ s.link.sending = none ∧ s.link.bus ≠ .following) (onBus .recessive demo))
    ∧ ((fun (s : State) => (s.live = false ∨ s.link.sending.isSome = true ∨ s.link.bus = .following)) (sendingStatus demo))
    ∧ ((fun (s : State) => (s.live = false ∨ s.link.sending.isSome = true ∨ s.link.bus = .following)) (onBus .following demo))
    ∧ ((fun (s : State) (o : OneShot) => s.live = true ∧ (s.buzzer.oneShot o).age.isSome = true) (demo.present .warning) .warning)
    ∧ ((fun (s : State) (o : OneShot) => s.live = true ∧ (s.buzzer.oneShot o).age = none) demo .refuse)
    ∧ ((fun (s : State) (_ : OneShot) => s.live = false) State.reset .refuse) := by
  refine ⟨?_, ?_, ?_, ?_, ?_, ?_, ?_, ?_, ?_, ?_, ?_, ?_, ?_⟩ <;> (beta_reduce; decide +kernel)

theorem witness_DiscardedFramesAreCountedAndDeliverNothing :
    ((fun (s : State) (l : List Bool) => s.hearing = true ∧ s.link.receives = true ∧ Frame.ofBits l = none) (onBus .following demo) (((Frame.answer (demoOffer 14 12 0)).wire.drop 1).set 8 false))
    ∧ ((fun (s : State) (f : StatusFrame) => s.hearing = true ∧ s.link.receives = true ∧ (Frame.status f).isBad s.own = true) demo { demoStatus 0 0 with check := 0 })
    ∧ ((fun (s : State) (f : CallFrame) => s.hearing = true ∧ s.link.receives = true ∧ (Frame.call f).isBad s.own = true) demo (demoNotice 12 0 3 0))
    ∧ ((fun (s : State) (f : AnswerFrame) => s.hearing = true ∧ s.link.receives = true ∧ (Frame.answer f).isBad s.own = true) demo (demoOffer 13 13 0))
    ∧ ((fun (s : State) (c : Instr) => s.hearing = true ∧ s.link.sending = none ∧ s.link.bus = .waiting false ∧ ((∃ f, c = .receivedStatus f) ∨ (∃ f, c = .receivedNotice f) ∨ (∃ f, c = .receivedOffer f) ∨ ∃ a, c = .frameDiscarded a)) (onBus (.waiting false) demo) (.frameDiscarded .stray))
    ∧ ((fun (s : State) (c : Instr) => (s.link.bus = .waiting true ∨ s.link.sending.isSome = true) ∧ ((∃ f, c = .receivedStatus f) ∨ (∃ f, c = .receivedNotice f) ∨ (∃ f, c = .receivedOffer f) ∨ ∃ a, c = .frameDiscarded a)) (onBus (.waiting true) demo) (.frameDiscarded .stray))
    ∧ ((fun (s : State) => (s.link.bus = .idle ∨ s.link.bus = .following ∨ s.link.bus = .recessive)) demo)
    ∧ ((fun (s : State) => (s.link.bus = .idle ∨ s.link.bus = .following ∨ s.link.bus = .recessive)) (onBus .recessive demo))
    ∧ ((fun (s : State) => s.live = true ∧ s.link.sending = none ∧ (s.link.bus = .idle ∨ s.link.bus = .recessive)) demo)
    ∧ ((fun (s : State) => s.live = true ∧ s.link.sending = none ∧ (s.link.bus = .idle ∨ s.link.bus = .recessive)) (onBus .recessive demo))
    ∧ ((fun (s : State) => s.link.bus = .following) (onBus .following demo))
    ∧ ((fun (s : State) (c : Instr) => s.hearing = false ∧ s.link.receives = true ∧ ((∃ f, c = .receivedStatus f) ∨ (∃ f, c = .receivedNotice f) ∨ (∃ f, c = .receivedOffer f) ∨ ∃ l, c = .frameDiscarded (.bits l))) (inPhase .unconfigured demo) (.receivedStatus (demoStatus 0 0)))
    ∧ ((fun (s : State) (c : Instr) => s.hearing = false ∧ s.live = true ∧ s.link.sending = none ∧ s.link.bus = .waiting false ∧ ((∃ f, c = .receivedStatus f) ∨ (∃ f, c = .receivedNotice f) ∨ (∃ f, c = .receivedOffer f) ∨ ∃ a, c = .frameDiscarded a)) (onBus (.waiting false) (inPhase .unconfigured demo)) (.frameDiscarded .stray)) := by
  refine ⟨?_, ?_, ?_, ?_, ?_, ?_, ?_, ?_, ?_, ?_, ?_, ?_, ?_⟩
  · beta_reduce
    decide +kernel
  · beta_reduce
    decide +kernel
  · beta_reduce
    decide +kernel
  · beta_reduce
    decide +kernel
  · beta_reduce
    exact ⟨by decide +kernel, by decide +kernel, by decide +kernel, Or.inr (Or.inr (Or.inr ⟨_, rfl⟩))⟩
  · beta_reduce
    exact ⟨by decide +kernel, Or.inr (Or.inr (Or.inr ⟨_, rfl⟩))⟩
  · beta_reduce
    decide +kernel
  · beta_reduce
    decide +kernel
  · beta_reduce
    decide +kernel
  · beta_reduce
    decide +kernel
  · beta_reduce
    decide +kernel
  · beta_reduce
    exact ⟨by decide +kernel, by decide +kernel, Or.inl ⟨_, rfl⟩⟩
  · beta_reduce
    exact ⟨by decide +kernel, by decide +kernel, by decide +kernel, by decide +kernel, Or.inr (Or.inr (Or.inr ⟨_, rfl⟩))⟩

/-- An expiry that waits, so that the idle station has an event of its own to take. -/
def waitingTest : State := demo.setChannel .t20 { Channel.initial with waiting := [.expiry] }

theorem witness_IdleStepTicksOrTakesOneEvent :
    (demo.pending = [] ∧ demo.waitingEvents = []) ∧ (waitingTest.pending = [] ∧ waitingTest.waitingEvents ≠ []) := by
  decide +kernel

theorem witness_ResetConditionTakesNoOtherCommand :
    State.reset.start.condition ≠ .none ∧ (∀ high, Instr.ack ≠ .resetAsserted high) ∧ Instr.ack ≠ .holdFalls
      ∧ (∀ k1 k2 k3, Instr.ack ≠ .coldStart k1 k2 k3) ∧ Instr.ack ≠ .warmRestart :=
  ⟨by decide, fun _ h => (nomatch h), by decide, fun _ _ _ h => (nomatch h), by decide⟩

theorem witness_ConfigurationValuesAreClamped : demoBytes.length = 41 := by decide

theorem witness_FailedReadsEndUnconfigured_judgement :
    ((List.replicate 41 (1 : Byte)).length = 41 ∧ byteSum (List.replicate 41 1) ≠ 0)
      ∧ (byteSum (List.replicate 41 0) = 0 ∧ bitsAt (List.replicate 41 0) 0 0 6 = 0)
      ∧ (byteSum demoBytes = 0 ∧ bitsAt demoBytes 0 0 6 ≠ 0 ∧ bitsAt demoBytes 0 0 6 ≠ 63) := by
  decide +kernel

theorem witness_AdoptionIsNeverMutual :
    adopts true .pub .closed 7 7 = true ∧ adopts true .night .pub 200 71 = true ∧ adopts true .night .pub 200 201 = true := by
  decide

theorem witness_LoopSamplesPassTheThreeSampleFilter :
    LoopBand.alarm ≠ .normal ∧ (Machine.Filter.clear : Machine.Filter LoopBand).candidate ≠ some .alarm := by decide

theorem witness_FireIsLatched :
    (inFire demo).fire.state = .fire ∧ (nextOf (exec .restore (inFire demo))).fire.state ≠ .fire := by decide +kernel

theorem witness_HighestClaimDecidesTheDoor :
    (3 ≤ demo.cfg.lockdownLevel ∧ demo.cfg.lockdownLevel ≤ 15 ∧ 3 ≤ demo.cfg.passageLevel ∧ demo.cfg.passageLevel ≤ 15)
      ∧ ((demo.slotStands 0 .schedule = true
            ∧ (slotLock demo.modes.mode (demo.door 0).desc.kind .schedule).isSome = true)
          ∧ ∀ other ∈ ClaimSlot.inOrder, other ≠ .schedule → demo.slotStands 0 other = true →
              demo.slotLevel other < demo.slotLevel .schedule) := by decide +kernel

theorem witness_AnOpenCallsLevelNeverFalls :
    ((calling demo).point 0).isOpen = true
      ∧ ((nextOf (exec (.escalationExpiry 0) (timed (.point 0) (calling demo)))).point 0).isOpen = true := by decide +kernel

/-- The demonstration state with a FRESH report of cost 7 from station 12. -/
def informed : State := demo.setEntry 0 (entryOfStatus (demoStatus 0 0))

theorem witness_CandidatesFollowTheExclusions :
    ((demo.door 3).desc.kind = .blank ∧ (demo.door 1).desc.kind = .exit ∧ (informed.door 0).desc.kind = .interior)
      ∧ (informed.candidate 0 = some 10 ∧ (informed.door 0).desc.weight ≤ 15
          ∧ (informed.entryFor (informed.door 0).desc.neighbour).map NbEntry.cost = some 7)
      ∧ demo.candidate 1 = some 5 := by decide +kernel

theorem witness_CostDoorAndVerdictsFollowTheCandidates :
    informed.computeEgress.cost = 5 ∧ informed.computeEgress.chosen = some 1 ∧ informed.egress.chosen ≠ some 1
      ∧ (informed.recomputeEgress.egress.chosen = none) ∧ informed.firstEgress.egress.chosen = some 1
      ∧ informed.firstEgress.candidate 1 = some informed.firstEgress.computeEgress.cost
      ∧ State.reset.computeEgress.cost = 255 := by decide +kernel

theorem witness_ScenesSetTheOutputsOfTheTable :
    (demo.door 1).desc.kind ≠ .blank ∧ (demo.door 3).desc.kind = .blank ∧ demo.light.top = .opened
      ∧ (demo.pushScene .evacuate).light.top = .evacuate ∧ (demo.pushScene .test).light.top = .test
      ∧ (demo.pushScene .intrusion).light.top = .intrusion := by decide +kernel

theorem witness_DiscardedFramesAreCountedAndDeliverNothing_bits :
    Frame.ofBits ((Frame.status (demoStatus 0 0)).wire.drop 1) = some (.status (demoStatus 0 0))
      ∧ Frame.ofBits ((Frame.call (demoNotice 12 0 0 1)).wire.drop 1) = some (.call (demoNotice 12 0 0 1))
      ∧ Frame.ofBits ((Frame.answer (demoOffer 14 12 0)).wire.drop 1) = some (.answer (demoOffer 14 12 0)) := by
  decide +kernel

theorem witness_CheckByteFindsEveryChangedByte : (0x00 : Byte) ≠ 0x80 := by decide

theorem witness_ChannelsCountTheirReloadDown :
    (1 ≤ 1 ∧ 0 < 1) ∧ (1 ≤ 255 ∧ 254 < 255) ∧ Channel.initial.running = false
      ∧ ((Channel.fresh 2 .s1 .oneShot 0).stop.running = false ∧ (Channel.fresh 2 .s1 .oneShot 0).stop.count ≠ 0) := by decide

/-- Two agreeing samples of a loop, an input, two doors, two buttons and the keys (presses held on, a release) and the MODE key, before the tick
of the third. -/
def thirdSample : State :=
  let s : State :=
    { demo with
      order := 63
      clock := { demo.clock with sampling := 9, keySampling := 1 }
      pins := { demo.pins with
        loops := demo.pins.loops.set 0 20000, watch := demo.pins.watch.set 0 .tripped, doors := demo.pins.doors.set 0 .away
        buttons := demo.pins.buttons.set 0 true, ack := true, restore := true, accept := true, guard := true, passage := true
        mode := readingOf .night }
      watch := { demo.watch with
        inputs := demo.watch.inputs.set 0 { kind := .showcase, band := .normal, filter := { candidate := some .active, count := 2 } }
        buttons := (demo.watch.buttons.set 0 thirdPress).set 1 thirdRelease }
      keys := ⟨thirdPress, thirdPress, thirdPress, thirdPress, thirdPress, thirdRelease⟩
      modes := { demo.modes with keyFilter := { candidate := some (readingOf .night), count := 2 } } }
  ((s.setLoop 0 { kind := .smoke, band := .normal, filter := { candidate := some .alarm, count := 2 } }).setDoor 0
    { s.door 0 with filter := { candidate := some .opened, count := 2 } }).setDoor 1
    { s.door 1 with position := some .opened, phase := some .opened, filter := { candidate := some .closed, count := 2 } }

theorem witness_TickCountsAndSamplesAndDecidesNothing :
    (thirdSample.live = true ∧ thirdSample.hearing = true ∧ thirdSample.keyed = true ∧ thirdSample.clock.sampling = 9
        ∧ thirdSample.clock.keySampling = 1 ∧ State.reset.live = false)
      ∧ (thirdSample.fire.loops[(0 : Fin 6)].kind ≠ .unused
        ∧ readByKind .smoke (loopBandOf thirdSample.pins.loops[(0 : Fin 6)]) ≠ .normal
        ∧ thirdSample.fire.loops[(0 : Fin 6)].filter =
            { candidate := some (readByKind .smoke (loopBandOf thirdSample.pins.loops[(0 : Fin 6)])), count := 2 })
      ∧ (thirdSample.watch.inputs[(0 : Fin 8)].kind ≠ .unused
        ∧ watchBandOf thirdSample.pins.watch[(0 : Fin 8)] ≠ thirdSample.watch.inputs[(0 : Fin 8)].band
        ∧ thirdSample.watch.inputs[(0 : Fin 8)].filter =
            { candidate := some (watchBandOf thirdSample.pins.watch[(0 : Fin 8)]), count := 2 })
      ∧ (∀ d : Fin 4, d.val < 2 → (thirdSample.door d).desc.isOwned = true
        ∧ (thirdSample.door d).position ≠ some (positionOf thirdSample.pins.doors[d])
        ∧ (thirdSample.door d).filter = { candidate := some (positionOf thirdSample.pins.doors[d]), count := 2 })
      ∧ (thirdSample.pointFitted 0 = true ∧ thirdSample.tick.pins.buttons[(0 : Fin 4)] = true
        ∧ thirdSample.watch.buttons[(0 : Fin 4)] = thirdPress)
      ∧ (thirdSample.pointFitted 1 = true ∧ thirdSample.tick.pins.buttons[(1 : Fin 4)] = false
        ∧ thirdSample.watch.buttons[(1 : Fin 4)] = thirdRelease ∧ thirdSample.tick.watch.buttons[(0 : Fin 4)].pressed = false
        ∧ (thirdSample.setButton 2 .held).tick.watch.buttons[(2 : Fin 4)].pressed = true
        ∧ Instr.callButtonPressed 2 ∈ ((thirdSample.setButton 2 .held).raise (.callButtonPressed 2)).tick.raised)
      ∧ ({ thirdSample with order := 0 }.tick.pins.buttons[(0 : Fin 4)] ≠ thirdSample.pins.buttons[(0 : Fin 4)]
        ∧ ∀ p : Fin 4, demo.pins.buttons[p] = false)
      ∧ (thirdSample.pins.mode ≠ thirdSample.modes.keyReading
        ∧ thirdSample.modes.keyFilter = { candidate := some thirdSample.pins.mode, count := 2 }
        ∧ keyPositionOf thirdSample.pins.mode = some .night ∧ Mode.night ≠ thirdSample.modes.keyPosition) := by decide +kernel

theorem witness_TickCountsAndSamplesAndDecidesNothing_keys :
    (thirdSample.tick.pins.key .ack = true ∧ thirdSample.keys.get .ack = thirdPress
        ∧ thirdSample.tick.pins.key .passage = true ∧ thirdSample.keys.get .passage = thirdPress
        ∧ thirdSample.tick.pins.key .test = false ∧ thirdSample.keys.get .test = thirdRelease)
      ∧ (((thirdSample.setKeyRec .guard .held).tick.keys.get .guard).pressed = true
        ∧ Instr.guard ∈ ((thirdSample.setKeyRec .guard .held).raise .guard).tick.raised
        ∧ { thirdSample with order := 0 }.tick.pins.key .accept ≠ thirdSample.pins.key .accept
        ∧ State.reset.keyed = false ∧ State.reset.hearing = false
        ∧ demo.live = true ∧ demo.pins.key .ack = false ∧ demo.pins.key .restore = false ∧ demo.pins.key .accept = false
        ∧ demo.pins.key .guard = false ∧ demo.pins.key .passage = false ∧ demo.pins.key .test = false) := by decide +kernel

/-- The demonstration state with a command waiting, for the statements that every step keeps something. -/
def stepping : State := { demo with pending := [.ack] }

theorem witness_steps : ∃ t, step stepping = .next t := ⟨_, rfl⟩

theorem witness_EvacuationFlagFollowsFireAndRoster : stepping.EvacuationSound := by decide +kernel
theorem witness_VerificationStandsInPublicAlone : stepping.VerificationSound := by decide +kernel
theorem witness_GuardStateFitsTheMode :
    ({ sendingStatus demo with pending := [.frameSent] } : State).SendingSound ∧ (sendingStatus demo).link.sending.isSome = true
      ∧ stepping.SendingSound ∧ stepping.GuardSound := by decide +kernel
theorem witness_SceneStackKeepsItsOrder : stepping.StackSound := by decide +kernel
theorem witness_RosterNamesOtherStationsOnce : stepping.RosterSound := by decide +kernel
theorem witness_EgressResultStaysTrue : stepping.EgressSound := by decide +kernel
theorem witness_DoorsStayFreeInAFire : stepping.DoorsSound := by decide +kernel
theorem witness_CallListStandsForTheOpenPoints : stepping.CallsSound := by decide +kernel

/-- The same with its doors read and driven: door 0 held open, door 1 free and shut. -/
def followed : State :=
  { nextOf (exec (.firstReading 1 .atRest) (nextOf (exec (.firstReading 0 .away) demo))) with pending := [.passage] }

theorem witness_DoorOutputsFollowTheResolution :
    followed.RosterSound ∧ followed.DoorsSound ∧ followed.DoorsFollow ∧ followed.drivable 0 = true
      ∧ followed.drivable 1 = true :=
  ⟨by decide +kernel, by decide +kernel, by decide +kernel, by decide +kernel, by decide +kernel⟩
theorem witness_followed_steps : ∃ t, step followed = .next t := ⟨_, rfl⟩

/-- The demonstration state with the outputs of its scene. -/
def lit : State := { demo.refreshLights with pending := [.test] }

theorem witness_LightingFollowsTheSceneOnTop : lit.LightsFollow ∧ lit.forced = false ∧ lit.start.freeze = false := by
  decide +kernel
theorem witness_lit_steps : ∃ t, step lit = .next t := ⟨_, rfl⟩

/-- A WARNING chirp present with TROUBLE under it. -/
def warned : Buzzer := { Buzzer.silent with trouble := some 5, warning := { age := some 12, queued := 0 } }

theorem witness_LampsAndBuzzerShowTheirConditions :
    stepping.BuzzerSound ∧ (warned.verify = none ∧ warned.refuse.age = none ∧ warned.callChirp.age = none
      ∧ warned.warning.age = some 12) ∧ warned.on = false ∧ { warned with warning := OneShotRec.absent }.on = true
      ∧ { warned with verify := some 24, trouble := none }.on = true := by decide +kernel

/-- Two doors toward station 12, one toward 14: entry 0 stands for 12, entry 1 for 14. -/
theorem witness_ConfigurationValuesAreClamped_entries :
    (entriesOf #v[(imageOf demoBytes).doors[(0 : Fin 4)], (imageOf demoBytes).doors[(2 : Fin 4)],
      (imageOf demoBytes).doors[(0 : Fin 4)], DoorDesc.none]).toList.map (fun e => e.map NbEntry.station)
      = [some 12, some 14, none, none] := by decide +kernel

theorem witness_BeginFrameSendsTheMostUrgentSlot_content :
    ((demo.door 0).desc.kind ≠ .blank ∧ (demo.door 0).desc.owned = true) ∧ (demo.door 2).desc.owned = false
      ∧ ((calling demo).point 0).state = .waiting ∧ ((calling demo).point 1).state = .answered
      ∧ ((calling demo).point 2).state = .idle := by decide +kernel

/-! ### Well-formedness: an ill-formed command for each check -/

theorem test_transfer_of_40_bytes_is_refused : (Instr.configReadAttempt (.bytes (List.replicate 40 0))).wf = false := by decide
theorem test_transfer_of_41_bytes_fits : (Instr.configReadAttempt (.bytes (List.replicate 41 0))).wf = true := by decide
theorem test_fault_past_the_longest_frame_is_refused : (Instr.transmitFault 73).wf = false := by decide
theorem test_73_bits_after_a_start_bit_are_refused :
    (Instr.frameDiscarded (.bits (List.replicate 73 true))).wf = false := by decide

/-! ### Frames written out from R168 and R173 -/

/-- R168's own example. -/
theorem test_check_byte_of_the_spec : crc [0x8E, 0x0C, 0x00] = 0xDB := by decide +kernel

/-- R160's example compares headers bit by bit; R173: kind 01 and source 001100 make 0x4C; point 2, state 1, level 5 make 0x95; answerer 14
makes 0x0E. -/
theorem test_call_bytes :
    (Frame.call { source := 12, point := 2, state := 1, level := 5, spare := 0, answerer := 14, check := 0xA5 }).bytes
      = [0x4C, 0x95, 0x0E, 0xA5] := by decide

/-- R173: kind 00, source 13; fire 3, guard 2, intrusion, round clear, evacuation, trouble clear make 0xEA; epoch 41; cost 19; mode 2 and via 12
make 0x8C; door fields 1100, 1001 and 0000, 1010. -/
theorem test_status_bytes :
    (Frame.status
      { urgent := true, source := 13, fire := 3, guard := 2, intrusion := true, round := false, evacuation := true, trouble := false
        epoch := 41, cost := 19, mode := 2, via := 12, doors := #v[0b1100, 0b1001, 0b0000, 0b1010], check := 0x5A }).bytes
      = [0x0D, 0xEA, 0x29, 0x13, 0x8C, 0xC9, 0x0A, 0x5A] := by decide

/-- R167: a separator read dominant makes no frame. -/
theorem test_dominant_separator :
    Frame.ofBits (((Frame.answer (demoOffer 14 12 0)).wire.drop 1).set 8 false) = none := by decide +kernel

/-! ### Single commands, with results worked out by hand from the rules -/

/-- R17: 20 mA belongs to the higher band; R22: a lone SMOKE loop in PUBLIC gives VERIFY. -/
theorem test_smoke_in_public_is_verified :
    (nextOf (exec (.bandChange 0 20000) demo)).fire.state = .verify
      ∧ (nextOf (exec (.bandChange 0 20000) demo)).fire.evac = false := by decide +kernel

/-- R22: a MANUAL loop is trusted; R61, R67: the fire frees the held door. -/
theorem test_manual_call_is_fire :
    (nextOf (exec (.bandChange 3 25000) demo)).fire.evac = true
      ∧ (nextOf (exec (.bandChange 3 25000) demo)).light.top = .evacuate := by decide +kernel

/-- R17: PREALARM on a HEAT loop is read as NORMAL, which it has already. -/
theorem test_prealarm_on_heat_changes_nothing :
    (nextOf (exec (.bandChange 2 15000) demo)).fire.loops[(2 : Fin 6)].band = .normal := by decide +kernel

/-- R13: a showcase opened is an alarm at every hour. -/
theorem test_showcase_alerts :
    (nextOf (exec (.watchBandChange 0 .tripped) demo)).watch.intrusion = true := by decide +kernel

/-- R61, R67: an INTERIOR door with a magnet, first read OPEN in PUBLIC, is held. -/
theorem test_first_reading_holds :
    ((nextOf (exec (.firstReading 0 .away) demo)).door 0).phase = some .held := by decide +kernel

/-- R61, R66: the EXIT door, first read CLOSED in CLOSED, is locked. -/
theorem test_first_reading_locks_the_exit :
    ((nextOf (exec (.firstReading 1 .atRest) (inMode .closed demo))).door 1).lock = .locked := by decide +kernel

/-- R70, R13: a locked door found open is FORCED, answered ALERT in CLOSED. -/
theorem test_forced_exit_alerts :
    (nextOf (exec (.positionChange 1 .away)
      ((inMode .closed demo).setDoor 1
        { demo.door 1 with position := some .closed, phase := some .shut, lock := .locked }))).watch.intrusion = true := by
  decide +kernel

/-- R5: a key turn ages the epoch by 1, here from 255 to 0. -/
theorem test_key_turn_wraps_the_epoch :
    (nextOf (exec (.keyChange .closed) { demo with modes := { demo.modes with epoch := 255 } })).modes.epoch = 0 := by
  decide +kernel

/-- R86, R87: a press in PUBLIC raises a call at level 1 that is first in the list. -/
theorem test_button_calls :
    (nextOf (exec (.callButtonPressed 2) demo)).calls.list.map CallEntry.id = [⟨13, 2⟩] := by decide +kernel

/-- R44: a press while the filter holds pressed raises nothing. -/
theorem test_held_button_raises_one_event :
    (nextOf (exec (.callButtonPressed 2) (demo.setButton 2 .held))).calls.list = [] := by decide +kernel

/-- R96: a notice of level 3 is placed before the entries of level 1. -/
theorem test_notice_is_placed_by_level :
    (nextOf (exec (.receivedNotice (demoNotice 11 3 0 3)) (calling demo))).calls.list.map CallEntry.level = [3, 1, 1, 1] := by
  decide +kernel

/-- R164: a pending CALL goes before a STATUS that is not urgent. -/
theorem test_call_goes_first :
    (nextOf (exec .beginFrame (marked true [2] none demo))).link.sending.map Sending.slot = some (.call 2) := by decide +kernel

/-- R176: number 0 leaves the station UNCONFIGURED. -/
theorem test_number_0_is_unconfigured :
    (nextOf (exec (.configReadAttempt (.bytes (List.replicate 41 0))) (reading .cold 0))).start.phase = .unconfigured := by
  decide +kernel

/-- R175, R179: the demonstration image is read good and LISTEN begins. -/
theorem test_good_read_begins_listen :
    (nextOf (exec (.configReadAttempt (.bytes demoBytes)) (reading .cold 0))).start.phase = .listen
      ∧ (imageOf demoBytes).station = 13 := by decide +kernel

/-- R18: the third agreeing sample raises the band change. -/
theorem test_third_sample_raises : .bandChange 0 20000 ∈ thirdSample.tick.raised := by decide +kernel

/-- R160: another station's start bit is followed, and nothing begins. -/
theorem test_start_bit_is_followed :
    (nextOf (exec (.frameDiscarded .startBit) (marked true [] none demo))).link.bus = .following := by decide +kernel

/-- R167: after a frame's end a second stray bit counts no more than the first. -/
theorem test_strays_count_once :
    (nextOf (exec (.frameDiscarded .stray) (nextOf (exec (.frameDiscarded .stray) (onBus (.waiting false) demo))))).link.discards
      = 1 := by decide +kernel

/-- R102: an overtaken offer that fails is lost, though the newer one has left the slot again. -/
theorem test_overtaken_offer_is_lost :
    (nextOf (exec (.lostArbitration 1) (sendingOffer true none demo))).link.offer = none := by decide +kernel

/-- R39: a PREALARM held without its SMOKE loop is CLEAR at the next RESTORE. -/
theorem test_restore_clears_a_held_prealarm :
    (nextOf (exec .restore { demo with fire := { demo.fire with state := .prealarm } })).fire.state = .clear := by decide +kernel

/-- R161: after a fault at the start bit the station begins again at the next idle, and nothing has been discarded. -/
theorem test_start_bit_fault_waits_for_idle :
    (nextOf (exec (.transmitFault 0) (sendingStatus demo))).mayBegin = false
      ∧ (nextOf (exec .busIdle (nextOf (exec (.transmitFault 0) (sendingStatus demo))))).mayBegin = true := by decide +kernel

/-- R188: a key held down gives one press. -/
theorem test_held_key_gives_one_press :
    (nextOf (exec .ack (nextOf (exec .ack (inVerify .ackWindow demo))))).fire.phase = .investigation
      ∧ (nextOf (exec .ack ((inVerify .ackWindow demo).setKeyRec .ack .held))).fire.phase = .ackWindow := by decide +kernel

/-- R162: the third fault in a row begins QUIET. -/
theorem test_third_fault_quiets :
    (nextOf (exec (.transmitFault 0) (faulty 2 (sendingStatus demo)))).link.quiet = true := by decide +kernel

end Sys2Proof.Tests
end

section
/-! The response table (R13), row by row. -/

namespace Sys2Proof.Proofs.ResponseTable

open Sys2Proof Sys2Proof.Machine

/-- Settles O16. The table of R13 is split as the spec prints it: the showcase row is the same in every column, and each
other row is read column by column. -/
theorem responseTableIsTheSpecs : Obligations.ResponseTableIsTheSpecs := by
  intro c
  refine ⟨?showcase, ?motion, ?beam, ?tamper, ?fault, ?callButton, ?forced, ?held⟩
  case showcase => rfl
  case motion | beam | tamper | fault | callButton | forced | held => cases c <;> rfl

end Sys2Proof.Proofs.ResponseTable
end

section
/-! The candidates of the egress computation (R126, R127): one rule for each kind of door, and what follows from a
candidate of any kind. -/

namespace Sys2Proof.Proofs.EgressCandidates

open Sys2Proof Sys2Proof.Machine

/-- R126: which fire states give a hazard value, and the greatest value. -/
theorem hazard_eq_some {strict : Bool} {f : FireState} {h : Nat} (hz : hazard strict f = some h) :
    f ≠ .fire ∧ (f = .verify → strict = false) ∧ h ≤ 48 := by
  cases f with
  | clear | prealarm => simp [hazard] at hz; simp [← hz]
  | verify => cases strict <;> simp [hazard] at hz; simp [← hz]
  | fire => simp [hazard] at hz

/-- R127: `e` is the entry that stands for the neighbour behind `d`, with hazard `h`, and no exclusion holds of it. -/
structure NotExcluded (s : State) (d : Fin 4) (e : NbEntry) (h : Nat) : Prop where
  entry : s.entryFor (s.door d).desc.neighbour = some e
  fresh : e.state = .fresh
  cost : e.cost ≠ 255
  via : e.via ≠ s.own
  hazard : hazard s.cfg.strict e.fire = some h

theorem passable_of_candidate {s : State} {d : Fin 4} {c : Nat} (hc : s.candidate d = some c) : s.passable d = true := by
  by_contra hp
  simp [State.candidate, hp] at hc

theorem candidate_blank {s : State} {d : Fin 4} (hk : (s.door d).desc.kind = .blank) : s.candidate d = none := by
  simp [State.candidate, hk]

theorem candidate_exit {s : State} {d : Fin 4} (hk : (s.door d).desc.kind = .exit) :
    s.candidate d = if s.passable d then some (s.door d).desc.weight else none := by
  cases hp : s.passable d <;> simp [State.candidate, hk, hp]

theorem candidate_interior {s : State} {d : Fin 4} (hk : (s.door d).desc.kind = .interior) (c : Nat) :
    s.candidate d = some c ↔
      s.passable d = true ∧ ∃ e h, NotExcluded s d e h ∧ c = (s.door d).desc.weight + e.cost + h := by
  constructor
  · intro hc
    have hp := passable_of_candidate hc
    refine ⟨hp, ?_⟩
    cases he : s.entryFor (s.door d).desc.neighbour with
    | none => simp [State.candidate, hk, he] at hc
    | some e =>
      by_cases hx : e.state ≠ .fresh ∨ e.cost = 255 ∨ e.via = s.own
      · simp [State.candidate, hk, hp, he, hx] at hc
      · obtain ⟨hfresh, hcost, hvia⟩ : e.state = .fresh ∧ e.cost ≠ 255 ∧ e.via ≠ s.own := by simpa using hx
        obtain ⟨h, hz, rfl⟩ : ∃ h, hazard s.cfg.strict e.fire = some h ∧ (s.door d).desc.weight + e.cost + h = c := by
          simpa [State.candidate, hk, hp, he, hx] using hc
        exact ⟨e, h, ⟨he, hfresh, hcost, hvia, hz⟩, rfl⟩
  · rintro ⟨hp, e, h, way, rfl⟩
    simp [State.candidate, hk, hp, way.entry, way.fresh, way.cost, way.via, way.hazard]

/-- R127: a candidate is at least the weight of its door. -/
theorem weight_le_candidate {s : State} {d : Fin 4} {c : Nat} (hc : s.candidate d = some c) :
    (s.door d).desc.weight ≤ c := by
  cases hk : (s.door d).desc.kind with
  | blank => simp [candidate_blank hk] at hc
  | exit => simp [candidate_exit hk, passable_of_candidate hc] at hc; exact hc.le
  | interior =>
    obtain ⟨-, e, h, -, rfl⟩ := (candidate_interior hk c).1 hc
    omega

/-- R127: the bound 15 + 200 + 48. -/
theorem candidate_le {s : State} {d : Fin 4} {c : Nat} (hw : (s.door d).desc.weight ≤ 15)
    (hcost : ∀ e, s.entryFor (s.door d).desc.neighbour = some e → e.cost ≤ 200 ∨ e.cost = 255)
    (hc : s.candidate d = some c) : c ≤ 263 := by
  cases hk : (s.door d).desc.kind with
  | blank => simp [candidate_blank hk] at hc
  | exit => simp [candidate_exit hk, passable_of_candidate hc] at hc; omega
  | interior =>
    obtain ⟨-, e, h, way, rfl⟩ := (candidate_interior hk c).1 hc
    have hcost200 : e.cost ≤ 200 := (hcost e way.entry).resolve_right way.cost
    obtain ⟨-, -, hh⟩ := hazard_eq_some way.hazard
    omega

/-- Settles O37: the rules of the three kinds of door, with the exclusions of R126 read off the hazard. -/
theorem candidatesFollowTheExclusions : Obligations.CandidatesFollowTheExclusions := by
  refine ⟨?hazard, fun _ _ => candidate_blank, fun _ _ => candidate_exit, ?interior, fun _ _ _ => candidate_le⟩
  case hazard => exact fun strict => ⟨rfl, rfl, rfl, rfl⟩
  case interior =>
    intro s d c hk
    rw [candidate_interior hk]
    constructor
    · rintro ⟨hp, e, h, way, hc⟩
      obtain ⟨hfire, hverify, -⟩ := hazard_eq_some way.hazard
      exact ⟨hp, e, h, way.entry, way.fresh, way.cost, way.via, hfire, hverify, way.hazard, hc⟩
    · rintro ⟨hp, e, h, he, hfresh, hcost, hvia, -, -, hz, hc⟩
      exact ⟨hp, e, h, ⟨he, hfresh, hcost, hvia, hz⟩, hc⟩

end Sys2Proof.Proofs.EgressCandidates
end

section
/-! The egress computation (R128, R129): the least remaining candidate, the door chosen for it, and the verdicts. -/

namespace Sys2Proof.Proofs.EgressComputation

open Sys2Proof Sys2Proof.Machine Sys2Proof.Proofs.EgressCandidates

theorem remaining_eq_some {s : State} {d : Fin 4} {c : Nat} :
    s.remaining d = some c ↔ s.candidate d = some c ∧ c ≤ 200 := by
  simp [State.remaining, Option.filter_eq_some_iff]

/-! ### The least cost -/

/-- One step of the search of `State.leastCost`. -/
def lesser {α : Type} (f : α → Option Nat) (best : Nat) (a : α) : Nat :=
  match f a with
  | some c => min best c
  | none => best

theorem leastCost_eq_foldl (s : State) : s.leastCost = (List.finRange 4).foldl (lesser s.remaining) 255 := rfl

theorem lesser_le {α : Type} (f : α → Option Nat) (best : Nat) (a : α) : lesser f best a ≤ best := by
  cases h : f a <;> simp [lesser, h]

theorem lesser_le_of_eq_some {α : Type} {f : α → Option Nat} {a : α} {c : Nat} (h : f a = some c) (best : Nat) :
    lesser f best a ≤ c := by
  simp [lesser, h]

theorem lesser_eq_or {α : Type} (f : α → Option Nat) (best : Nat) (a : α) :
    lesser f best a = best ∨ f a = some (lesser f best a) := by
  cases h : f a with
  | none => simp [lesser, h]
  | some c => simp only [lesser, h, Option.some.injEq]; omega

theorem foldl_lesser_le {α : Type} (f : α → Option Nat) (l : List α) (best : Nat) : l.foldl (lesser f) best ≤ best := by
  induction l generalizing best with
  | nil => exact le_rfl
  | cons a l ih => exact (ih _).trans (lesser_le f best a)

theorem foldl_lesser_le_of_mem {α : Type} {f : α → Option Nat} {l : List α} {a : α} {c : Nat} (ha : a ∈ l)
    (hc : f a = some c) (best : Nat) : l.foldl (lesser f) best ≤ c := by
  induction ha generalizing best with
  | head l => exact (foldl_lesser_le f l _).trans (lesser_le_of_eq_some hc best)
  | tail b _ ih => exact ih _

theorem foldl_lesser_eq_or {α : Type} (f : α → Option Nat) (l : List α) (best : Nat) :
    l.foldl (lesser f) best = best ∨ ∃ a ∈ l, f a = some (l.foldl (lesser f) best) := by
  induction l generalizing best with
  | nil => exact .inl rfl
  | cons b l ih =>
    rw [List.foldl_cons]
    rcases ih (lesser f best b) with hkept | ⟨a, ha, hc⟩
    · rw [hkept]
      exact (lesser_eq_or f best b).imp_right fun hb => ⟨b, List.mem_cons_self, hb⟩
    · exact .inr ⟨a, List.mem_cons_of_mem b ha, hc⟩

theorem leastCost_le {s : State} {d : Fin 4} {c : Nat} (hc : s.remaining d = some c) : s.leastCost ≤ c := by
  rw [leastCost_eq_foldl]
  exact foldl_lesser_le_of_mem (List.mem_finRange d) hc 255

/-- R128: the least cost is a remaining candidate, or 255. -/
theorem leastCost_eq_or (s : State) : s.leastCost = 255 ∨ ∃ d, s.remaining d = some s.leastCost := by
  rw [leastCost_eq_foldl]
  exact (foldl_lesser_eq_or s.remaining (List.finRange 4) 255).imp_right fun ⟨d, _, hd⟩ => ⟨d, hd⟩

theorem leastCost_ne_255 {s : State} {d : Fin 4} (hd : s.remaining d = some s.leastCost) : s.leastCost ≠ 255 := by
  obtain ⟨-, hle⟩ := remaining_eq_some.1 hd
  omega

/-! ### The chosen door -/

theorem chooseDoor_of_255 {s : State} (h : s.leastCost = 255) : s.chooseDoor = none := by
  simp [State.chooseDoor, h]

/-- R128: the current door is kept while it gives the least cost. -/
theorem chooseDoor_keeps {s : State} {d : Fin 4} (hd : s.egress.chosen = some d) (hc : s.remaining d = some s.leastCost) :
    s.chooseDoor = some d := by
  simp [State.chooseDoor, hd, hc, leastCost_ne_255 hc]

/-- R128: a chosen door is the current one, kept because it gives the least cost, or the first that gives it. -/
theorem chooseDoor_cases {s : State} {d : Fin 4} (h : s.chooseDoor = some d) :
    (s.egress.chosen = some d ∧ s.remaining d = some s.leastCost) ∨
      (List.finRange 4).find? (fun d => s.remaining d == some s.leastCost) = some d := by
  simp only [State.chooseDoor] at h
  split at h
  next => cases h
  next =>
    split at h
    next hkept => exact .inl ⟨h, by simpa [h] using hkept⟩
    next => exact .inr h

/-- R128: a chosen door gives the least cost. -/
theorem remaining_of_chooseDoor {s : State} {d : Fin 4} (h : s.chooseDoor = some d) :
    s.remaining d = some s.leastCost := by
  rcases chooseDoor_cases h with ⟨-, hd⟩ | hfirst
  · exact hd
  · simpa using List.find?_some hfirst

/-- R128: no door below a newly chosen one gives the least cost. -/
theorem remaining_ne_of_lt_chooseDoor {s : State} {d e : Fin 4} (h : s.chooseDoor = some d)
    (hnew : s.egress.chosen ≠ some d) (hlt : e < d) : s.remaining e ≠ some s.leastCost := by
  have hfirst := (chooseDoor_cases h).resolve_left fun ⟨hold, _⟩ => hnew hold
  obtain ⟨-, i, hi, rfl, hbefore⟩ := List.find?_eq_some_iff_getElem.1 hfirst
  have he : (e : Nat) < i := by simpa [Fin.lt_def] using hlt
  simpa using hbefore e he

/-- R128: below 255 some door is chosen. -/
theorem exists_chooseDoor {s : State} (h : s.leastCost ≠ 255) : ∃ d, s.chooseDoor = some d := by
  obtain ⟨d, hd⟩ := (leastCost_eq_or s).resolve_left h
  rw [← Option.isSome_iff_exists]
  simp only [State.chooseDoor, h, if_false]
  split
  next hkept =>
    obtain ⟨e, he, -⟩ := Option.bind_eq_some_iff.1 hkept
    simp [he]
  next => exact List.find?_isSome.2 ⟨d, List.mem_finRange d, by simp [hd]⟩

/-! ### The parts of a computation -/

@[simp] theorem computeEgress_cost (s : State) : s.computeEgress.cost = s.leastCost := rfl

@[simp] theorem computeEgress_chosen (s : State) : s.computeEgress.chosen = s.chooseDoor := rfl

@[simp] theorem computeEgress_verdict (s : State) (d : Fin 4) :
    s.computeEgress.verdicts[d] = s.verdictOn s.leastCost s.chooseDoor d := by
  simp [State.computeEgress]

/-- R128: with weights of at least 1 a least cost of 0 cannot come about. -/
theorem leastCost_range {s : State} (hw : ∀ d : Fin 4, 1 ≤ (s.door d).desc.weight) :
    s.leastCost = 255 ∨ (1 ≤ s.leastCost ∧ s.leastCost ≤ 200) := by
  refine (leastCost_eq_or s).imp_right fun ⟨d, hd⟩ => ?_
  obtain ⟨hc, hle⟩ := remaining_eq_some.1 hd
  exact ⟨(hw d).trans (weight_le_candidate hc), hle⟩

/-- R127, R128: a chosen door is a way out that no exclusion holds of. -/
theorem chosen_is_a_way {s : State} {d : Fin 4} (h : s.chooseDoor = some d) :
    s.passable d = true ∧ ((s.door d).desc.kind = .interior → ∃ e h, NotExcluded s d e h) := by
  obtain ⟨hc, -⟩ := remaining_eq_some.1 (remaining_of_chooseDoor h)
  refine ⟨passable_of_candidate hc, fun hk => ?_⟩
  obtain ⟨-, e, h, way, -⟩ := (candidate_interior hk _).1 hc
  exact ⟨e, h, way⟩

/-- Settles O38: the facts about the least cost, the chosen door and the candidates, clause by clause. -/
theorem costDoorAndVerdictsFollowTheCandidates : Obligations.CostDoorAndVerdictsFollowTheCandidates := by
  refine ⟨?verdicts, ?least, ?given, ?none, ?kept, ?lowest, ?via, fun s => leastCost_range, ?way⟩
  case verdicts =>
    intro s d
    rw [computeEgress_verdict]
    exact if_congr .rfl rfl <| if_congr .rfl rfl <| if_congr .rfl rfl <|
      if_congr (and_congr_right' Option.map_eq_some_iff) rfl rfl
  case least => exact fun s d c hc hle => leastCost_le (remaining_eq_some.2 ⟨hc, hle⟩)
  case given =>
    intro s hne
    obtain ⟨d, hd⟩ := exists_chooseDoor hne
    obtain ⟨hc, hle⟩ := remaining_eq_some.1 (remaining_of_chooseDoor hd)
    exact ⟨d, s.leastCost, hd, hc, hle, rfl⟩
  case none => exact fun s => chooseDoor_of_255
  case kept =>
    rintro s d c hd hc hle rfl
    exact chooseDoor_keeps hd (remaining_eq_some.2 ⟨hc, hle⟩)
  case lowest =>
    intro s d e hd hnew hlt he
    obtain ⟨-, hle⟩ := remaining_eq_some.1 (remaining_of_chooseDoor hd)
    exact remaining_ne_of_lt_chooseDoor hd hnew hlt (remaining_eq_some.2 ⟨he, hle⟩)
  case via =>
    intro s
    rw [computeEgress_chosen]
    change s.viaOf s.chooseDoor = _
    cases s.chooseDoor <;> rfl
  case way =>
    intro s d hd
    obtain ⟨hp, hway⟩ := chosen_is_a_way hd
    refine ⟨hp, fun hk => ?_⟩
    obtain ⟨e, h, way⟩ := hway hk
    obtain ⟨hfire, -, -⟩ := hazard_eq_some way.hazard
    exact ⟨e, way.entry, way.fresh, hfire, way.via⟩

end Sys2Proof.Proofs.EgressComputation
end

section
/-! The outputs of the lighting unit (R137): each column of the table of scenes, read row by row. -/

namespace Sys2Proof.Proofs.SceneOutputs

open Sys2Proof Sys2Proof.Machine

/-! ### Lights, lamp and sounder -/

/-- R137: the scenes in which the gallery is dark. -/
theorem sceneOutputs_lights_eq_false {s : State} :
    s.sceneOutputs.lights = false ↔ s.light.top = .dark ∨ s.light.top = .dim := by
  simp only [State.sceneOutputs]
  cases s.light.top <;> simp

/-- R137: the lamp tells a gallery whose way out is lost, in EVACUATE alone. -/
theorem sceneOutputs_lamp (s : State) :
    s.sceneOutputs.lamp =
      if s.light.top = .test then .on
      else if s.light.top = .evacuate then
        if s.egress.computed = true ∧ s.egress.cost = 255 then .flash else .on
      else .off := by
  simp only [State.sceneOutputs]
  cases s.light.top with
  | evacuate => simp
  | _ => rfl

/-- R137: the silenced flag acts in EVACUATE alone, and leaves the pulse of INTRUSION. -/
theorem sceneOutputs_sounder (s : State) :
    s.sceneOutputs.sounder =
      if s.light.top = .intrusion then .pulse
      else if s.light.top = .evacuate ∧ s.fire.silenced = false then .on
      else .off := by
  simp only [State.sceneOutputs]
  cases s.light.top with
  | evacuate => cases s.fire.silenced <;> rfl
  | _ => simp

/-! ### Signs -/

/-- R136: no sign hangs over a BLANK position. -/
theorem sceneOutputs_sign_of_blank {s : State} {d : Fin 4} (h : (s.door d).desc.kind = .blank) :
    s.sceneOutputs.signs[d] = .dark := by
  simp [State.sceneOutputs, h]

theorem sceneOutputs_sign_of_fitted {s : State} {d : Fin 4} (h : (s.door d).desc.kind ≠ .blank) :
    s.sceneOutputs.signs[d] = sceneSign s.light.top s.egress.verdicts[d] := by
  simp [State.sceneOutputs, h]

/-- R137: these scenes do not read the verdicts. -/
theorem sceneSign_dark {sc : Scene} (h : sc = .dark ∨ sc = .intrusion) (v : Verdict) :
    sceneSign sc v = .dark := by
  obtain rfl | rfl := h <;> rfl

/-- R137: outside EVACUATE a BAR shows as DARK. -/
theorem sceneSign_go_alone {sc : Scene} (h : sc = .opened ∨ sc = .dim ∨ sc = .round) (v : Verdict) :
    sceneSign sc v = if v = .go then .arrow else .dark := by
  obtain rfl | rfl | rfl := h <;> rfl

/-- Settles O40, output by output; the signs by the scene on top. -/
theorem scenesSetTheOutputsOfTheTable : Obligations.ScenesSetTheOutputsOfTheTable := by
  refine fun s => ⟨sceneOutputs_lights_eq_false, sceneOutputs_lamp s, sceneOutputs_sounder s,
    fun d => sceneOutputs_sign_of_blank, fun d hfitted => ?_⟩
  rw [sceneOutputs_sign_of_fitted hfitted]
  refine ⟨fun h => sceneSign_dark h _, fun htest => ?test, fun h => sceneSign_go_alone h _,
    fun hevacuate => ?evacuate⟩
  case test => rw [htest]; rfl
  case evacuate => rw [hevacuate]; rfl

end Sys2Proof.Proofs.SceneOutputs
end

section
/-! What the operations that deliver to several units leave of the blocks they write in part: the start unit but for the freeze
flag, the link unit but for the marks, a door's descriptor, position, filter and freeze mark, the base scene. -/

namespace Sys2Proof.Proofs.PartFrames

open Sys2Proof Sys2Proof.Machine

/-! ### Deliveries -/

@[simp] theorem deliver_setup (fs : List (State → State)) (h : ∀ f ∈ fs, ∀ s : State, (f s).start.phase = s.start.phase
    ∧ (f s).start.kind = s.start.kind ∧ (f s).start.image = s.start.image ∧ (f s).start.condition = s.start.condition
    ∧ (f s).start.attempts = s.start.attempts ∧ (f s).start.request = s.start.request) (s : State) :
    (deliver fs s).start.phase = s.start.phase ∧ (deliver fs s).start.kind = s.start.kind
      ∧ (deliver fs s).start.image = s.start.image ∧ (deliver fs s).start.condition = s.start.condition
      ∧ (deliver fs s).start.attempts = s.start.attempts ∧ (deliver fs s).start.request = s.start.request :=
  ⟨deliver_keeps (·.start.phase) (fun _ _ => rfl) fs (fun f hf t => (h f hf t).1) s,
   deliver_keeps (·.start.kind) (fun _ _ => rfl) fs (fun f hf t => (h f hf t).2.1) s,
   deliver_keeps (·.start.image) (fun _ _ => rfl) fs (fun f hf t => (h f hf t).2.2.1) s,
   deliver_keeps (·.start.condition) (fun _ _ => rfl) fs (fun f hf t => (h f hf t).2.2.2.1) s,
   deliver_keeps (·.start.attempts) (fun _ _ => rfl) fs (fun f hf t => (h f hf t).2.2.2.2.1) s,
   deliver_keeps (·.start.request) (fun _ _ => rfl) fs (fun f hf t => (h f hf t).2.2.2.2.2) s⟩

@[simp] theorem deliver_traffic (fs : List (State → State)) (h : ∀ f ∈ fs, ∀ s : State, (f s).link.offer = s.link.offer
    ∧ (f s).link.sending = s.link.sending ∧ (f s).link.faults = s.link.faults ∧ (f s).link.quiet = s.link.quiet
    ∧ (f s).link.discards = s.link.discards ∧ (f s).link.bus = s.link.bus) (s : State) :
    (deliver fs s).link.offer = s.link.offer ∧ (deliver fs s).link.sending = s.link.sending
      ∧ (deliver fs s).link.faults = s.link.faults ∧ (deliver fs s).link.quiet = s.link.quiet
      ∧ (deliver fs s).link.discards = s.link.discards ∧ (deliver fs s).link.bus = s.link.bus :=
  ⟨deliver_keeps (·.link.offer) (fun _ _ => rfl) fs (fun f hf t => (h f hf t).1) s,
   deliver_keeps (·.link.sending) (fun _ _ => rfl) fs (fun f hf t => (h f hf t).2.1) s,
   deliver_keeps (·.link.faults) (fun _ _ => rfl) fs (fun f hf t => (h f hf t).2.2.1) s,
   deliver_keeps (·.link.quiet) (fun _ _ => rfl) fs (fun f hf t => (h f hf t).2.2.2.1) s,
   deliver_keeps (·.link.discards) (fun _ _ => rfl) fs (fun f hf t => (h f hf t).2.2.2.2.1) s,
   deliver_keeps (·.link.bus) (fun _ _ => rfl) fs (fun f hf t => (h f hf t).2.2.2.2.2) s⟩

@[simp] theorem deliver_site (fs : List (State → State)) (e : Fin 4)
    (h : ∀ f ∈ fs, ∀ s : State, ((f s).door e).desc = (s.door e).desc ∧ ((f s).door e).position = (s.door e).position
      ∧ ((f s).door e).filter = (s.door e).filter ∧ ((f s).door e).keep = (s.door e).keep) (s : State) :
    ((deliver fs s).door e).desc = (s.door e).desc ∧ ((deliver fs s).door e).position = (s.door e).position
      ∧ ((deliver fs s).door e).filter = (s.door e).filter ∧ ((deliver fs s).door e).keep = (s.door e).keep :=
  ⟨deliver_keeps (fun t => (t.door e).desc) (fun _ _ => rfl) fs (fun f hf t => (h f hf t).1) s,
   deliver_keeps (fun t => (t.door e).position) (fun _ _ => rfl) fs (fun f hf t => (h f hf t).2.1) s,
   deliver_keeps (fun t => (t.door e).filter) (fun _ _ => rfl) fs (fun f hf t => (h f hf t).2.2.1) s,
   deliver_keeps (fun t => (t.door e).keep) (fun _ _ => rfl) fs (fun f hf t => (h f hf t).2.2.2) s⟩

@[simp] theorem deliver_passage (fs : List (State → State)) (h : ∀ f ∈ fs, ∀ s : State, (f s).doors.passage = s.doors.passage)
    (s : State) : (deliver fs s).doors.passage = s.doors.passage := deliver_keeps (·.doors.passage) (fun _ _ => rfl) fs h s

@[simp] theorem deliver_base (fs : List (State → State)) (h : ∀ f ∈ fs, ∀ s : State, (f s).light.base = s.light.base)
    (s : State) : (deliver fs s).light.base = s.light.base := deliver_keeps (·.light.base) (fun _ _ => rfl) fs h s

@[simp] theorem deliver_above (fs : List (State → State)) (h : ∀ f ∈ fs, ∀ s : State, (f s).light.above = s.light.above)
    (s : State) : (deliver fs s).light.above = s.light.above := deliver_keeps (·.light.above) (fun _ _ => rfl) fs h s

@[simp] theorem deliver_oneShots (fs : List (State → State)) (o : OneShot)
    (h : ∀ f ∈ fs, ∀ s : State, (f s).buzzer.oneShot o = s.buzzer.oneShot o) (s : State) :
    (deliver fs s).buzzer.oneShot o = s.buzzer.oneShot o := deliver_keeps (·.buzzer.oneShot o) (fun _ _ => rfl) fs h s

/-! ### Troubles, calls and scenes -/

@[simp] theorem enterTrouble_traffic (s : State) (x : Trouble) :
    (s.enterTrouble x).link.offer = s.link.offer ∧ (s.enterTrouble x).link.sending = s.link.sending
      ∧ (s.enterTrouble x).link.faults = s.link.faults ∧ (s.enterTrouble x).link.quiet = s.link.quiet
      ∧ (s.enterTrouble x).link.discards = s.link.discards ∧ (s.enterTrouble x).link.bus = s.link.bus
      ∧ (s.enterTrouble x).link.calls = s.link.calls := by
  obtain ⟨h, -⟩ := s.enterTrouble_link x
  rw [h]; simp

@[simp] theorem removeTroubles_traffic (s : State) (g : Trouble → Bool) :
    (s.removeTroubles g).link.offer = s.link.offer ∧ (s.removeTroubles g).link.sending = s.link.sending
      ∧ (s.removeTroubles g).link.faults = s.link.faults ∧ (s.removeTroubles g).link.quiet = s.link.quiet
      ∧ (s.removeTroubles g).link.discards = s.link.discards ∧ (s.removeTroubles g).link.bus = s.link.bus
      ∧ (s.removeTroubles g).link.calls = s.link.calls := by
  obtain ⟨h, -⟩ := s.removeTroubles_link g
  rw [h]; simp

@[simp] theorem relevel_traffic (s : State) (p : Fin 4) :
    (s.relevel p).link.offer = s.link.offer ∧ (s.relevel p).link.sending = s.link.sending
      ∧ (s.relevel p).link.faults = s.link.faults ∧ (s.relevel p).link.quiet = s.link.quiet
      ∧ (s.relevel p).link.discards = s.link.discards ∧ (s.relevel p).link.bus = s.link.bus
      ∧ (s.relevel p).link.status = s.link.status := by
  unfold State.relevel; dsimp only; split <;> simp

@[simp] theorem relevelAll_traffic (s : State) :
    s.relevelAll.link.offer = s.link.offer ∧ s.relevelAll.link.sending = s.link.sending
      ∧ s.relevelAll.link.faults = s.link.faults ∧ s.relevelAll.link.quiet = s.link.quiet
      ∧ s.relevelAll.link.discards = s.link.discards ∧ s.relevelAll.link.bus = s.link.bus := by
  simp [State.relevelAll]

/-! ### Egress and doors -/

@[simp] theorem takeEgress_parts (s : State) (new : EgressUnit) (first : Bool) :
    (s.takeEgress new first).link.offer = s.link.offer ∧ (s.takeEgress new first).link.sending = s.link.sending
      ∧ (s.takeEgress new first).link.faults = s.link.faults ∧ (s.takeEgress new first).link.quiet = s.link.quiet
      ∧ (s.takeEgress new first).link.discards = s.link.discards ∧ (s.takeEgress new first).link.bus = s.link.bus
      ∧ (s.takeEgress new first).light.base = s.light.base ∧ (s.takeEgress new first).light.above = s.light.above
      ∧ (s.takeEgress new first).egress = new := by
  unfold State.takeEgress; dsimp only; (repeat' split) <;> simp

@[simp] theorem recomputeEgress_parts (s : State) :
    s.recomputeEgress.link.offer = s.link.offer ∧ s.recomputeEgress.link.sending = s.link.sending
      ∧ s.recomputeEgress.link.faults = s.link.faults ∧ s.recomputeEgress.link.quiet = s.link.quiet
      ∧ s.recomputeEgress.link.discards = s.link.discards ∧ s.recomputeEgress.link.bus = s.link.bus
      ∧ s.recomputeEgress.light.base = s.light.base ∧ s.recomputeEgress.light.above = s.light.above := by
  unfold State.recomputeEgress; (repeat' split) <;> simp

@[simp] theorem firstEgress_parts (s : State) :
    s.firstEgress.link.offer = s.link.offer ∧ s.firstEgress.link.sending = s.link.sending
      ∧ s.firstEgress.link.faults = s.link.faults ∧ s.firstEgress.link.quiet = s.link.quiet
      ∧ s.firstEgress.link.discards = s.link.discards ∧ s.firstEgress.link.bus = s.link.bus
      ∧ s.firstEgress.light.base = s.light.base ∧ s.firstEgress.light.above = s.light.above
      ∧ s.firstEgress.egress = s.computeEgress := by
  simp [State.firstEgress]

@[simp] theorem driveLock_parts (s : State) (d : Fin 4) :
    (s.driveLock d).link.offer = s.link.offer ∧ (s.driveLock d).link.sending = s.link.sending
      ∧ (s.driveLock d).link.faults = s.link.faults ∧ (s.driveLock d).link.quiet = s.link.quiet
      ∧ (s.driveLock d).link.discards = s.link.discards ∧ (s.driveLock d).link.bus = s.link.bus
      ∧ (s.driveLock d).light.base = s.light.base ∧ (s.driveLock d).light.above = s.light.above
      ∧ (s.driveLock d).doors.passage = s.doors.passage := by
  unfold State.driveLock; dsimp only; split <;> simp

@[simp] theorem driveHold_passage (s : State) (d : Fin 4) : (s.driveHold d).doors.passage = s.doors.passage := by
  unfold State.driveHold State.holdChanged; dsimp only; (repeat' split) <;> simp

@[simp] theorem ajarUpdate_passage (s : State) (d : Fin 4) : (s.ajarUpdate d).doors.passage = s.doors.passage := by
  unfold State.ajarUpdate; dsimp only; (repeat' split) <;> simp

@[simp] theorem resolve_parts (s : State) (d : Fin 4) :
    (s.resolve d).link.offer = s.link.offer ∧ (s.resolve d).link.sending = s.link.sending
      ∧ (s.resolve d).link.faults = s.link.faults ∧ (s.resolve d).link.quiet = s.link.quiet
      ∧ (s.resolve d).link.discards = s.link.discards ∧ (s.resolve d).link.bus = s.link.bus
      ∧ (s.resolve d).light.base = s.light.base ∧ (s.resolve d).light.above = s.light.above
      ∧ (s.resolve d).doors.passage = s.doors.passage := by
  unfold State.resolve; split <;> simp

@[simp] theorem resolve_site (s : State) (d e : Fin 4) :
    ((s.resolve d).door e).desc = (s.door e).desc ∧ ((s.resolve d).door e).position = (s.door e).position
      ∧ ((s.resolve d).door e).filter = (s.door e).filter ∧ ((s.resolve d).door e).keep = (s.door e).keep :=
  s.resolve_fixed d e

/-- Resolutions of some doors, in any order. -/
theorem resolves_parts (l : List (Fin 4)) (s : State) :
    (deliver (l.map fun d t => t.resolve d) s).link.offer = s.link.offer
      ∧ (deliver (l.map fun d t => t.resolve d) s).link.sending = s.link.sending
      ∧ (deliver (l.map fun d t => t.resolve d) s).link.faults = s.link.faults
      ∧ (deliver (l.map fun d t => t.resolve d) s).link.quiet = s.link.quiet
      ∧ (deliver (l.map fun d t => t.resolve d) s).link.discards = s.link.discards
      ∧ (deliver (l.map fun d t => t.resolve d) s).link.bus = s.link.bus
      ∧ (deliver (l.map fun d t => t.resolve d) s).light.base = s.light.base
      ∧ (deliver (l.map fun d t => t.resolve d) s).light.above = s.light.above
      ∧ (deliver (l.map fun d t => t.resolve d) s).doors.passage = s.doors.passage
      ∧ (deliver (l.map fun d t => t.resolve d) s).start = s.start := by
  simp

theorem resolves_site (l : List (Fin 4)) (s : State) (e : Fin 4) :
    ((deliver (l.map fun d t => t.resolve d) s).door e).desc = (s.door e).desc
      ∧ ((deliver (l.map fun d t => t.resolve d) s).door e).position = (s.door e).position
      ∧ ((deliver (l.map fun d t => t.resolve d) s).door e).filter = (s.door e).filter
      ∧ ((deliver (l.map fun d t => t.resolve d) s).door e).keep = (s.door e).keep := by
  simp

@[simp] theorem resolveAll_parts (s : State) :
    s.resolveAll.link.offer = s.link.offer ∧ s.resolveAll.link.sending = s.link.sending
      ∧ s.resolveAll.link.faults = s.link.faults ∧ s.resolveAll.link.quiet = s.link.quiet
      ∧ s.resolveAll.link.discards = s.link.discards ∧ s.resolveAll.link.bus = s.link.bus
      ∧ s.resolveAll.light.base = s.light.base ∧ s.resolveAll.light.above = s.light.above
      ∧ s.resolveAll.doors.passage = s.doors.passage := by
  simp [State.resolveAll]

@[simp] theorem resolveAll_site (s : State) (e : Fin 4) :
    (s.resolveAll.door e).desc = (s.door e).desc ∧ (s.resolveAll.door e).position = (s.door e).position
      ∧ (s.resolveAll.door e).filter = (s.door e).filter ∧ (s.resolveAll.door e).keep = (s.door e).keep :=
  resolves_site _ s e

@[simp] theorem resolveToward_parts (s : State) (n : Station) :
    (s.resolveToward n).link.offer = s.link.offer ∧ (s.resolveToward n).link.sending = s.link.sending
      ∧ (s.resolveToward n).link.faults = s.link.faults ∧ (s.resolveToward n).link.quiet = s.link.quiet
      ∧ (s.resolveToward n).link.discards = s.link.discards ∧ (s.resolveToward n).link.bus = s.link.bus
      ∧ (s.resolveToward n).light.base = s.light.base ∧ (s.resolveToward n).light.above = s.light.above
      ∧ (s.resolveToward n).doors.passage = s.doors.passage := by
  unfold State.resolveToward
  simp only [resolves_parts, and_self]

@[simp] theorem resolveToward_site (s : State) (n : Station) (e : Fin 4) :
    ((s.resolveToward n).door e).desc = (s.door e).desc ∧ ((s.resolveToward n).door e).position = (s.door e).position
      ∧ ((s.resolveToward n).door e).filter = (s.door e).filter ∧ ((s.resolveToward n).door e).keep = (s.door e).keep :=
  resolves_site _ s e

@[simp] theorem refreshLights_door (s : State) (e : Fin 4) : s.refreshLights.door e = s.door e := by simp [State.door]

@[simp] theorem release_setup (s : State) :
    s.release.start.phase = s.start.phase ∧ s.release.start.kind = s.start.kind ∧ s.release.start.image = s.start.image
      ∧ s.release.start.condition = s.start.condition ∧ s.release.start.attempts = s.start.attempts
      ∧ s.release.start.request = s.start.request ∧ s.release.start.freeze = false := by
  unfold State.release
  split
  · simp_all
  · simp [resolves_parts]

@[simp] theorem release_parts (s : State) :
    s.release.link.offer = s.link.offer ∧ s.release.link.sending = s.link.sending
      ∧ s.release.link.faults = s.link.faults ∧ s.release.link.quiet = s.link.quiet
      ∧ s.release.link.discards = s.link.discards ∧ s.release.link.bus = s.link.bus
      ∧ s.release.light.base = s.light.base ∧ s.release.light.above = s.light.above
      ∧ s.release.doors.passage = s.doors.passage := by
  unfold State.release
  split
  · simp
  · simp [resolves_parts]

@[simp] theorem release_site (s : State) (e : Fin 4) :
    (s.release.door e).desc = (s.door e).desc ∧ (s.release.door e).position = (s.door e).position
      ∧ (s.release.door e).filter = (s.door e).filter ∧ (s.release.door e).keep = (s.door e).keep := by
  unfold State.release
  split
  · simp
  · simp only [refreshLights_door]
    exact resolves_site _ _ e

/-! ### The evacuation flag and the fire state -/

@[simp] theorem setSounderSilenced_parts (s : State) (b : Bool) :
    (s.setSounderSilenced b).fire = { s.fire with silenced := b } ∧ (s.setSounderSilenced b).light.base = s.light.base
      ∧ (s.setSounderSilenced b).light.above = s.light.above := by
  simp [State.setSounderSilenced]

/-- R34: the freeze ends with the rising flag. -/
def releaseInEvac (t : State) : State := if t.fire.evac then t.release else t

/-- R33, R35: the flag as it is recomputed; the rising flag clears the sounder-silenced flag. -/
def flagSet (s : State) : State :=
  { s with fire := { s.fire with evac := s.evacDue, silenced := if s.evacDue then false else s.fire.silenced } }

/-- R34: the flag set and delivered to the door unit, the call unit and the start unit. -/
def flagDelivered (s : State) : State :=
  deliver [State.resolveAll, State.relevelAll, releaseInEvac] (flagSet s)

/-- R34: the scene of the flag is pushed or removed. -/
def evacScene (s : State) (evac : Bool) : State := if evac then s.pushScene .evacuate else s.removeScene .evacuate

/-- R34, R166: the link unit is told. -/
def statusTold (s : State) : State := if s.start.phase = .run then s.markStatus.startRefresh else s.markStatus

theorem recomputeEvac_same {s : State} (h : s.evacDue = s.fire.evac) : s.recomputeEvac = s := by
  simp [State.recomputeEvac, h]

theorem recomputeEvac_changed {s : State} (h : s.evacDue ≠ s.fire.evac) :
    s.recomputeEvac = statusTold (evacScene (flagDelivered s) s.evacDue) := by
  simp only [State.recomputeEvac, h, if_false]
  rfl

@[simp] theorem flagSet_keeps (s : State) :
    (flagSet s).clock = s.clock ∧ (flagSet s).pins = s.pins ∧ (flagSet s).timers = s.timers ∧ (flagSet s).modes = s.modes
      ∧ (flagSet s).watch = s.watch ∧ (flagSet s).doors = s.doors ∧ (flagSet s).calls = s.calls
      ∧ (flagSet s).table = s.table ∧ (flagSet s).egress = s.egress ∧ (flagSet s).light = s.light
      ∧ (flagSet s).link = s.link ∧ (flagSet s).start = s.start ∧ (flagSet s).troubles = s.troubles
      ∧ (flagSet s).buzzer = s.buzzer ∧ (flagSet s).keys = s.keys ∧ (flagSet s).raised = s.raised
      ∧ (flagSet s).pending = s.pending ∧ (flagSet s).fire.loops = s.fire.loops ∧ (flagSet s).fire.state = s.fire.state
      ∧ (flagSet s).fire.phase = s.fire.phase ∧ (flagSet s).fire.firstLoop = s.fire.firstLoop
      ∧ (flagSet s).fire.evac = s.evacDue := by
  simp [flagSet]

@[simp] theorem releaseInEvac_keeps (s : State) :
    (releaseInEvac s).modes = s.modes ∧ (releaseInEvac s).fire = s.fire ∧ (releaseInEvac s).watch = s.watch
      ∧ (releaseInEvac s).table = s.table ∧ (releaseInEvac s).troubles = s.troubles ∧ (releaseInEvac s).buzzer = s.buzzer
      ∧ (releaseInEvac s).start.phase = s.start.phase ∧ (releaseInEvac s).start.kind = s.start.kind
      ∧ (releaseInEvac s).start.image = s.start.image ∧ (releaseInEvac s).start.condition = s.start.condition
      ∧ (releaseInEvac s).start.attempts = s.start.attempts ∧ (releaseInEvac s).start.request = s.start.request
      ∧ (releaseInEvac s).link.offer = s.link.offer ∧ (releaseInEvac s).link.sending = s.link.sending
      ∧ (releaseInEvac s).link.faults = s.link.faults ∧ (releaseInEvac s).link.quiet = s.link.quiet
      ∧ (releaseInEvac s).link.discards = s.link.discards ∧ (releaseInEvac s).link.bus = s.link.bus
      ∧ (releaseInEvac s).light.base = s.light.base ∧ (releaseInEvac s).light.above = s.light.above
      ∧ (releaseInEvac s).doors.passage = s.doors.passage := by
  unfold releaseInEvac; split <;> simp

@[simp] theorem releaseInEvac_site (s : State) (e : Fin 4) :
    ((releaseInEvac s).door e).desc = (s.door e).desc ∧ ((releaseInEvac s).door e).position = (s.door e).position
      ∧ ((releaseInEvac s).door e).filter = (s.door e).filter ∧ ((releaseInEvac s).door e).keep = (s.door e).keep := by
  unfold releaseInEvac; split <;> simp

@[simp] theorem flagDelivered_keeps (s : State) :
    (flagDelivered s).modes = s.modes ∧ (flagDelivered s).fire = (flagSet s).fire ∧ (flagDelivered s).watch = s.watch
      ∧ (flagDelivered s).table = s.table ∧ (flagDelivered s).troubles = s.troubles ∧ (flagDelivered s).buzzer = s.buzzer
      ∧ (flagDelivered s).start.phase = s.start.phase ∧ (flagDelivered s).start.kind = s.start.kind
      ∧ (flagDelivered s).start.image = s.start.image ∧ (flagDelivered s).start.condition = s.start.condition
      ∧ (flagDelivered s).start.attempts = s.start.attempts ∧ (flagDelivered s).start.request = s.start.request
      ∧ (flagDelivered s).link.offer = s.link.offer ∧ (flagDelivered s).link.sending = s.link.sending
      ∧ (flagDelivered s).link.faults = s.link.faults ∧ (flagDelivered s).link.quiet = s.link.quiet
      ∧ (flagDelivered s).link.discards = s.link.discards ∧ (flagDelivered s).link.bus = s.link.bus
      ∧ (flagDelivered s).light.base = s.light.base ∧ (flagDelivered s).light.above = s.light.above
      ∧ (flagDelivered s).doors.passage = s.doors.passage := by
  simp [flagDelivered]

@[simp] theorem flagDelivered_site (s : State) (e : Fin 4) :
    ((flagDelivered s).door e).desc = (s.door e).desc ∧ ((flagDelivered s).door e).position = (s.door e).position
      ∧ ((flagDelivered s).door e).filter = (s.door e).filter ∧ ((flagDelivered s).door e).keep = (s.door e).keep := by
  have h : (flagSet s).door e = s.door e := rfl
  rw [← h]
  exact deliver_site _ e (by simp) _

@[simp] theorem evacScene_keeps (s : State) (b : Bool) :
    (evacScene s b).timers = s.timers ∧ (evacScene s b).modes = s.modes ∧ (evacScene s b).fire = s.fire
      ∧ (evacScene s b).watch = s.watch ∧ (evacScene s b).doors = s.doors ∧ (evacScene s b).calls = s.calls
      ∧ (evacScene s b).table = s.table ∧ (evacScene s b).egress = s.egress ∧ (evacScene s b).link = s.link
      ∧ (evacScene s b).start = s.start ∧ (evacScene s b).troubles = s.troubles ∧ (evacScene s b).buzzer = s.buzzer
      ∧ (evacScene s b).light.base = s.light.base
      ∧ (evacScene s b).light.above
          = (if b then pushed s.cfg.depth .evacuate s.light.above else s.light.above.erase .evacuate) := by
  unfold evacScene; split <;> simp

@[simp] theorem statusTold_keeps (s : State) :
    (statusTold s).modes = s.modes ∧ (statusTold s).fire = s.fire ∧ (statusTold s).watch = s.watch
      ∧ (statusTold s).doors = s.doors ∧ (statusTold s).calls = s.calls ∧ (statusTold s).table = s.table
      ∧ (statusTold s).egress = s.egress ∧ (statusTold s).link = { s.link with status := true }
      ∧ (statusTold s).light = s.light ∧ (statusTold s).start = s.start ∧ (statusTold s).troubles = s.troubles
      ∧ (statusTold s).buzzer = s.buzzer := by
  unfold statusTold; split <;> simp

/-- R33, R34: what a recomputation of the evacuation flag leaves. -/
@[simp] theorem recomputeEvac_parts (s : State) :
    s.recomputeEvac.start.phase = s.start.phase ∧ s.recomputeEvac.start.kind = s.start.kind
      ∧ s.recomputeEvac.start.image = s.start.image ∧ s.recomputeEvac.start.condition = s.start.condition
      ∧ s.recomputeEvac.start.attempts = s.start.attempts ∧ s.recomputeEvac.start.request = s.start.request
      ∧ s.recomputeEvac.link.offer = s.link.offer ∧ s.recomputeEvac.link.sending = s.link.sending
      ∧ s.recomputeEvac.link.faults = s.link.faults ∧ s.recomputeEvac.link.quiet = s.link.quiet
      ∧ s.recomputeEvac.link.discards = s.link.discards ∧ s.recomputeEvac.link.bus = s.link.bus
      ∧ s.recomputeEvac.light.base = s.light.base ∧ s.recomputeEvac.doors.passage = s.doors.passage
      ∧ s.recomputeEvac.fire.loops = s.fire.loops ∧ s.recomputeEvac.fire.state = s.fire.state
      ∧ s.recomputeEvac.fire.phase = s.fire.phase ∧ s.recomputeEvac.fire.firstLoop = s.fire.firstLoop
      ∧ s.recomputeEvac.fire.evac = s.evacDue := by
  by_cases h : s.evacDue = s.fire.evac
  · simp [recomputeEvac_same h, h]
  · simp [recomputeEvac_changed h]

@[simp] theorem recomputeEvac_site (s : State) (e : Fin 4) :
    (s.recomputeEvac.door e).desc = (s.door e).desc ∧ (s.recomputeEvac.door e).position = (s.door e).position
      ∧ (s.recomputeEvac.door e).filter = (s.door e).filter ∧ (s.recomputeEvac.door e).keep = (s.door e).keep := by
  by_cases h : s.evacDue = s.fire.evac
  · simp [recomputeEvac_same h]
  · have hd : s.recomputeEvac.door e = (flagDelivered s).door e := by
      simp [recomputeEvac_changed h, State.door]
    simp [hd]

/-- R20: a change of the fire state alone, as the link unit is told of it. -/
def fireStateSet (s : State) (f : FireState) : State :=
  State.markStatus { s with fire := { s.fire with state := f } }

theorem setFireState_cases (s : State) (f : FireState) :
    (s.fire.state = f ∧ s.setFireState f = s)
      ∨ (s.fire.state ≠ f ∧ f ≠ .fire ∧ s.fire.state ≠ .fire ∧ s.setFireState f = fireStateSet s f)
      ∨ (s.fire.state ≠ f ∧ (f = .fire ∨ s.fire.state = .fire) ∧ s.setFireState f = (fireStateSet s f).recomputeEvac) := by
  by_cases h : s.fire.state = f
  · exact .inl ⟨h, by simp [State.setFireState, h]⟩
  · by_cases hf : f = .fire ∨ s.fire.state = .fire
    · refine .inr (.inr ⟨h, hf, ?_⟩)
      simp only [State.setFireState, h, hf, if_true, if_false]
      rfl
    · obtain ⟨hne, hs⟩ := not_or.1 hf
      refine .inr (.inl ⟨h, hne, hs, ?_⟩)
      simp only [State.setFireState, h, hf, if_false]
      rfl

@[simp] theorem fireStateSet_keeps (s : State) (f : FireState) :
    (fireStateSet s f).timers = s.timers ∧ (fireStateSet s f).modes = s.modes
      ∧ (fireStateSet s f).fire = { s.fire with state := f } ∧ (fireStateSet s f).watch = s.watch
      ∧ (fireStateSet s f).doors = s.doors ∧ (fireStateSet s f).calls = s.calls ∧ (fireStateSet s f).table = s.table
      ∧ (fireStateSet s f).egress = s.egress ∧ (fireStateSet s f).link = { s.link with status := true }
      ∧ (fireStateSet s f).light = s.light ∧ (fireStateSet s f).start = s.start
      ∧ (fireStateSet s f).troubles = s.troubles ∧ (fireStateSet s f).buzzer = s.buzzer :=
  ⟨rfl, rfl, rfl, rfl, rfl, rfl, rfl, rfl, rfl, rfl, rfl, rfl, rfl⟩

@[simp] theorem setFireState_parts (s : State) (f : FireState) :
    (s.setFireState f).start.phase = s.start.phase ∧ (s.setFireState f).start.kind = s.start.kind
      ∧ (s.setFireState f).start.image = s.start.image ∧ (s.setFireState f).start.condition = s.start.condition
      ∧ (s.setFireState f).start.attempts = s.start.attempts ∧ (s.setFireState f).start.request = s.start.request
      ∧ (s.setFireState f).link.offer = s.link.offer ∧ (s.setFireState f).link.sending = s.link.sending
      ∧ (s.setFireState f).link.faults = s.link.faults ∧ (s.setFireState f).link.quiet = s.link.quiet
      ∧ (s.setFireState f).link.discards = s.link.discards ∧ (s.setFireState f).link.bus = s.link.bus
      ∧ (s.setFireState f).light.base = s.light.base ∧ (s.setFireState f).doors.passage = s.doors.passage
      ∧ (s.setFireState f).fire.loops = s.fire.loops ∧ (s.setFireState f).fire.state = f
      ∧ (s.setFireState f).fire.phase = s.fire.phase ∧ (s.setFireState f).fire.firstLoop = s.fire.firstLoop := by
  rcases setFireState_cases s f with ⟨h, he⟩ | ⟨-, -, -, he⟩ | ⟨-, -, he⟩ <;> simp [*]

@[simp] theorem setFireState_site (s : State) (f : FireState) (e : Fin 4) :
    ((s.setFireState f).door e).desc = (s.door e).desc ∧ ((s.setFireState f).door e).position = (s.door e).position
      ∧ ((s.setFireState f).door e).filter = (s.door e).filter ∧ ((s.setFireState f).door e).keep = (s.door e).keep := by
  have h : (fireStateSet s f).door e = s.door e := rfl
  rcases setFireState_cases s f with ⟨-, he⟩ | ⟨-, -, -, he⟩ | ⟨-, -, he⟩ <;> simp [he, h]

@[simp] theorem endVerification_fire (s : State) :
    s.endVerification.fire = { s.fire with phase := .none, firstLoop := none } := by
  simp [State.endVerification]

@[simp] theorem enterFire_parts (s : State) :
    s.enterFire.start.phase = s.start.phase ∧ s.enterFire.start.kind = s.start.kind
      ∧ s.enterFire.start.image = s.start.image ∧ s.enterFire.start.condition = s.start.condition
      ∧ s.enterFire.start.attempts = s.start.attempts ∧ s.enterFire.start.request = s.start.request
      ∧ s.enterFire.link.offer = s.link.offer ∧ s.enterFire.link.sending = s.link.sending
      ∧ s.enterFire.link.faults = s.link.faults ∧ s.enterFire.link.quiet = s.link.quiet
      ∧ s.enterFire.link.discards = s.link.discards ∧ s.enterFire.link.bus = s.link.bus
      ∧ s.enterFire.light.base = s.light.base ∧ s.enterFire.doors.passage = s.doors.passage
      ∧ s.enterFire.fire.loops = s.fire.loops ∧ s.enterFire.fire.state = .fire := by
  unfold State.enterFire; split <;> simp_all

theorem endVerification_door (s : State) (e : Fin 4) : s.endVerification.door e = s.door e := by simp [State.door]

theorem setSounderSilenced_door (s : State) (b : Bool) (e : Fin 4) : (s.setSounderSilenced b).door e = s.door e := by
  simp [State.door]

@[simp] theorem enterFire_site (s : State) (e : Fin 4) :
    (s.enterFire.door e).desc = (s.door e).desc ∧ (s.enterFire.door e).position = (s.door e).position
      ∧ (s.enterFire.door e).filter = (s.door e).filter ∧ (s.enterFire.door e).keep = (s.door e).keep := by
  unfold State.enterFire; split <;> simp [endVerification_door, setSounderSilenced_door]

@[simp] theorem enterVerify_parts (s : State) (l : Fin 6) :
    (s.enterVerify l).start.phase = s.start.phase ∧ (s.enterVerify l).start.kind = s.start.kind
      ∧ (s.enterVerify l).start.image = s.start.image ∧ (s.enterVerify l).start.condition = s.start.condition
      ∧ (s.enterVerify l).start.attempts = s.start.attempts ∧ (s.enterVerify l).start.request = s.start.request
      ∧ (s.enterVerify l).link.offer = s.link.offer ∧ (s.enterVerify l).link.sending = s.link.sending
      ∧ (s.enterVerify l).link.faults = s.link.faults ∧ (s.enterVerify l).link.quiet = s.link.quiet
      ∧ (s.enterVerify l).link.discards = s.link.discards ∧ (s.enterVerify l).link.bus = s.link.bus
      ∧ (s.enterVerify l).light.base = s.light.base ∧ (s.enterVerify l).fire.loops = s.fire.loops
      ∧ (s.enterVerify l).fire.state = .verify ∧ (s.enterVerify l).fire.phase = .ackWindow
      ∧ (s.enterVerify l).fire.firstLoop = some l := by
  simp [State.enterVerify]

@[simp] theorem fireModeChange_parts (s : State) :
    s.fireModeChange.start.phase = s.start.phase ∧ s.fireModeChange.start.kind = s.start.kind
      ∧ s.fireModeChange.start.image = s.start.image ∧ s.fireModeChange.start.condition = s.start.condition
      ∧ s.fireModeChange.start.attempts = s.start.attempts ∧ s.fireModeChange.start.request = s.start.request
      ∧ s.fireModeChange.link.offer = s.link.offer ∧ s.fireModeChange.link.sending = s.link.sending
      ∧ s.fireModeChange.link.faults = s.link.faults ∧ s.fireModeChange.link.quiet = s.link.quiet
      ∧ s.fireModeChange.link.discards = s.link.discards ∧ s.fireModeChange.link.bus = s.link.bus
      ∧ s.fireModeChange.light.base = s.light.base ∧ s.fireModeChange.doors.passage = s.doors.passage
      ∧ s.fireModeChange.fire.loops = s.fire.loops := by
  unfold State.fireModeChange; split <;> simp

@[simp] theorem fireModeChange_site (s : State) (e : Fin 4) :
    (s.fireModeChange.door e).desc = (s.door e).desc ∧ (s.fireModeChange.door e).position = (s.door e).position
      ∧ (s.fireModeChange.door e).filter = (s.door e).filter ∧ (s.fireModeChange.door e).keep = (s.door e).keep := by
  unfold State.fireModeChange; split <;> simp

@[simp] theorem corroborate_parts (s : State) :
    s.corroborate.start.phase = s.start.phase ∧ s.corroborate.start.kind = s.start.kind
      ∧ s.corroborate.start.image = s.start.image ∧ s.corroborate.start.condition = s.start.condition
      ∧ s.corroborate.start.attempts = s.start.attempts ∧ s.corroborate.start.request = s.start.request
      ∧ s.corroborate.link.offer = s.link.offer ∧ s.corroborate.link.sending = s.link.sending
      ∧ s.corroborate.link.faults = s.link.faults ∧ s.corroborate.link.quiet = s.link.quiet
      ∧ s.corroborate.link.discards = s.link.discards ∧ s.corroborate.link.bus = s.link.bus
      ∧ s.corroborate.light.base = s.light.base ∧ s.corroborate.doors.passage = s.doors.passage
      ∧ s.corroborate.fire.loops = s.fire.loops := by
  unfold State.corroborate; split <;> simp

@[simp] theorem corroborate_site (s : State) (e : Fin 4) :
    (s.corroborate.door e).desc = (s.door e).desc ∧ (s.corroborate.door e).position = (s.door e).position
      ∧ (s.corroborate.door e).filter = (s.door e).filter ∧ (s.corroborate.door e).keep = (s.door e).keep := by
  unfold State.corroborate; split <;> simp

/-! ### The mode, the watch and the neighbour table -/

@[simp] theorem setGuard_parts (s : State) (g : GuardState) :
    (s.setGuard g).link.offer = s.link.offer ∧ (s.setGuard g).link.sending = s.link.sending
      ∧ (s.setGuard g).link.faults = s.link.faults ∧ (s.setGuard g).link.quiet = s.link.quiet
      ∧ (s.setGuard g).link.discards = s.link.discards ∧ (s.setGuard g).link.bus = s.link.bus
      ∧ (s.setGuard g).link.calls = s.link.calls ∧ (s.setGuard g).watch = { s.watch with guard := g } := by
  unfold State.setGuard
  split
  next h => rw [← h]; simp
  next => simp

@[simp] theorem setRound_parts (s : State) (b : Bool) :
    (s.setRound b).link.offer = s.link.offer ∧ (s.setRound b).link.sending = s.link.sending
      ∧ (s.setRound b).link.faults = s.link.faults ∧ (s.setRound b).link.quiet = s.link.quiet
      ∧ (s.setRound b).link.discards = s.link.discards ∧ (s.setRound b).link.bus = s.link.bus
      ∧ (s.setRound b).link.calls = s.link.calls ∧ (s.setRound b).watch = { s.watch with round := b } := by
  unfold State.setRound
  split
  next h => rw [← h]; simp
  next => simp

@[simp] theorem endRound_parts (s : State) :
    s.endRound.link.offer = s.link.offer ∧ s.endRound.link.sending = s.link.sending
      ∧ s.endRound.link.faults = s.link.faults ∧ s.endRound.link.quiet = s.link.quiet
      ∧ s.endRound.link.discards = s.link.discards ∧ s.endRound.link.bus = s.link.bus
      ∧ s.endRound.link.calls = s.link.calls ∧ s.endRound.light.base = s.light.base
      ∧ s.endRound.watch = { s.watch with round := false } := by
  unfold State.endRound
  split
  next => simp
  next h =>
    have hr : s.watch.round = false := by simpa using h
    simp [← hr]

@[simp] theorem watchModeChange_parts (s : State) (old : Mode) :
    (s.watchModeChange old).link.offer = s.link.offer ∧ (s.watchModeChange old).link.sending = s.link.sending
      ∧ (s.watchModeChange old).link.faults = s.link.faults ∧ (s.watchModeChange old).link.quiet = s.link.quiet
      ∧ (s.watchModeChange old).link.discards = s.link.discards ∧ (s.watchModeChange old).link.bus = s.link.bus
      ∧ (s.watchModeChange old).light.base = s.light.base
      ∧ (s.watchModeChange old).watch.inputs = s.watch.inputs
      ∧ (s.watchModeChange old).watch.localLatch = s.watch.localLatch
      ∧ (s.watchModeChange old).watch.intrusion = s.watch.intrusion
      ∧ (s.watchModeChange old).watch.buttons = s.watch.buttons := by
  unfold State.watchModeChange; (repeat' split) <;> simp

/-- R10: the mode value replaced and delivered to the door unit and the fire unit. -/
def modeDelivered (s : State) (m : Mode) : State :=
  deliver [State.resolveAll, State.fireModeChange] { s with modes := { s.modes with mode := m } }

theorem changeMode_same (s : State) : s.changeMode s.modes.mode = s := by simp [State.changeMode]

theorem changeMode_changed {s : State} {m : Mode} (h : s.modes.mode ≠ m) :
    s.changeMode m = (modeDelivered s m).replaceBase.watchModeChange s.modes.mode := by
  simp only [State.changeMode, h, if_false]
  rfl

@[simp] theorem modeDelivered_keeps (s : State) (m : Mode) :
    (modeDelivered s m).modes = { s.modes with mode := m } ∧ (modeDelivered s m).watch = s.watch
      ∧ (modeDelivered s m).table = s.table ∧ (modeDelivered s m).troubles = s.troubles
      ∧ (modeDelivered s m).start.phase = s.start.phase ∧ (modeDelivered s m).start.kind = s.start.kind
      ∧ (modeDelivered s m).start.image = s.start.image ∧ (modeDelivered s m).start.condition = s.start.condition
      ∧ (modeDelivered s m).start.attempts = s.start.attempts ∧ (modeDelivered s m).start.request = s.start.request
      ∧ (modeDelivered s m).link.offer = s.link.offer ∧ (modeDelivered s m).link.sending = s.link.sending
      ∧ (modeDelivered s m).link.faults = s.link.faults ∧ (modeDelivered s m).link.quiet = s.link.quiet
      ∧ (modeDelivered s m).link.discards = s.link.discards ∧ (modeDelivered s m).link.bus = s.link.bus
      ∧ (modeDelivered s m).light.base = s.light.base ∧ (modeDelivered s m).doors.passage = s.doors.passage := by
  simp [modeDelivered]

@[simp] theorem modeDelivered_site (s : State) (m : Mode) (e : Fin 4) :
    ((modeDelivered s m).door e).desc = (s.door e).desc ∧ ((modeDelivered s m).door e).position = (s.door e).position
      ∧ ((modeDelivered s m).door e).filter = (s.door e).filter
      ∧ ((modeDelivered s m).door e).keep = (s.door e).keep := by
  unfold modeDelivered
  exact deliver_site _ e (by simp) _

@[simp] theorem changeMode_parts (s : State) (m : Mode) :
    (s.changeMode m).modes = { s.modes with mode := m }
      ∧ (s.changeMode m).start.phase = s.start.phase ∧ (s.changeMode m).start.kind = s.start.kind
      ∧ (s.changeMode m).start.image = s.start.image ∧ (s.changeMode m).start.condition = s.start.condition
      ∧ (s.changeMode m).start.attempts = s.start.attempts ∧ (s.changeMode m).start.request = s.start.request
      ∧ (s.changeMode m).link.offer = s.link.offer ∧ (s.changeMode m).link.sending = s.link.sending
      ∧ (s.changeMode m).link.faults = s.link.faults ∧ (s.changeMode m).link.quiet = s.link.quiet
      ∧ (s.changeMode m).link.discards = s.link.discards ∧ (s.changeMode m).link.bus = s.link.bus
      ∧ (s.changeMode m).doors.passage = s.doors.passage
      ∧ (s.changeMode m).watch.inputs = s.watch.inputs ∧ (s.changeMode m).watch.localLatch = s.watch.localLatch
      ∧ (s.changeMode m).watch.intrusion = s.watch.intrusion ∧ (s.changeMode m).watch.buttons = s.watch.buttons := by
  by_cases h : s.modes.mode = m
  · subst h; simp [changeMode_same]
  · simp [changeMode_changed h]

@[simp] theorem changeMode_site (s : State) (m : Mode) (e : Fin 4) :
    ((s.changeMode m).door e).desc = (s.door e).desc ∧ ((s.changeMode m).door e).position = (s.door e).position
      ∧ ((s.changeMode m).door e).filter = (s.door e).filter ∧ ((s.changeMode m).door e).keep = (s.door e).keep := by
  by_cases h : s.modes.mode = m
  · subst h; simp [changeMode_same]
  · have hd : (s.changeMode m).door e = (modeDelivered s m).door e := by simp [changeMode_changed h, State.door]
    simp [hd]

@[simp] theorem hearPair_parts (s : State) (m : Mode) (e : Byte) :
    (s.hearPair m e).start.phase = s.start.phase ∧ (s.hearPair m e).start.kind = s.start.kind
      ∧ (s.hearPair m e).start.image = s.start.image ∧ (s.hearPair m e).start.condition = s.start.condition
      ∧ (s.hearPair m e).start.attempts = s.start.attempts ∧ (s.hearPair m e).start.request = s.start.request
      ∧ (s.hearPair m e).link.offer = s.link.offer ∧ (s.hearPair m e).link.sending = s.link.sending
      ∧ (s.hearPair m e).link.faults = s.link.faults ∧ (s.hearPair m e).link.quiet = s.link.quiet
      ∧ (s.hearPair m e).link.discards = s.link.discards ∧ (s.hearPair m e).link.bus = s.link.bus
      ∧ (s.hearPair m e).doors.passage = s.doors.passage := by
  unfold State.hearPair; dsimp only; (repeat' split) <;> simp

@[simp] theorem settle_parts (s : State) :
    s.settle.start.phase = s.start.phase ∧ s.settle.start.kind = s.start.kind ∧ s.settle.start.image = s.start.image
      ∧ s.settle.start.condition = s.start.condition ∧ s.settle.start.attempts = s.start.attempts
      ∧ s.settle.start.request = s.start.request ∧ s.settle.link.offer = s.link.offer
      ∧ s.settle.link.sending = s.link.sending ∧ s.settle.link.faults = s.link.faults
      ∧ s.settle.link.quiet = s.link.quiet ∧ s.settle.link.discards = s.link.discards ∧ s.settle.link.bus = s.link.bus
      ∧ s.settle.doors.passage = s.doors.passage := by
  unfold State.settle; split <;> simp

/-- R113: the entry replaced, and its MUTE trouble entered or removed. -/
def entryReplaced (s : State) (k : Fin 4) (old new : NbEntry) : State :=
  if old.state = .mute ∧ new.state ≠ .mute then (s.setEntry k new).removeTrouble (.neighbourMute new.station)
  else if old.state ≠ .mute ∧ new.state = .mute then (s.setEntry k new).enterTrouble (.neighbourMute new.station)
  else s.setEntry k new

/-- R113, R27: the fire unit's share of a changed entry. -/
def corroborateBy (old new : NbEntry) (t : State) : State :=
  if new.corroborating && !old.corroborating then t.corroborate else t

/-- R113, R63: the door unit's share. -/
def resolveBy (old new : NbEntry) (t : State) : State :=
  if old.intrusion != new.intrusion then t.resolveToward new.station else t

/-- R113, R130: the egress unit's share. -/
def recomputeIf (b : Bool) (t : State) : State := if b then t.recomputeEgress else t

theorem changeEntry_eq (s : State) (k : Fin 4) (old new : NbEntry) :
    s.changeEntry k old new = deliver [corroborateBy old new, resolveBy old new, recomputeIf (s.egressInputChanged old new)]
      (entryReplaced s k old new) := rfl

@[simp] theorem entryReplaced_keeps (s : State) (k : Fin 4) (old new : NbEntry) :
    (entryReplaced s k old new).modes = s.modes ∧ (entryReplaced s k old new).fire = s.fire
      ∧ (entryReplaced s k old new).watch = s.watch ∧ (entryReplaced s k old new).doors = s.doors
      ∧ (entryReplaced s k old new).calls = s.calls ∧ (entryReplaced s k old new).table = (s.setEntry k new).table
      ∧ (entryReplaced s k old new).egress = s.egress ∧ (entryReplaced s k old new).light = s.light
      ∧ (entryReplaced s k old new).start = s.start ∧ (entryReplaced s k old new).timers = s.timers
      ∧ (entryReplaced s k old new).link.offer = s.link.offer ∧ (entryReplaced s k old new).link.sending = s.link.sending
      ∧ (entryReplaced s k old new).link.faults = s.link.faults ∧ (entryReplaced s k old new).link.quiet = s.link.quiet
      ∧ (entryReplaced s k old new).link.discards = s.link.discards
      ∧ (entryReplaced s k old new).link.bus = s.link.bus := by
  unfold entryReplaced; (repeat' split) <;> simp [State.removeTrouble]

@[simp] theorem corroborateBy_parts (old new : NbEntry) (s : State) :
    (corroborateBy old new s).modes = s.modes ∧ (corroborateBy old new s).watch = s.watch
      ∧ (corroborateBy old new s).table = s.table ∧ (corroborateBy old new s).troubles = s.troubles
      ∧ (corroborateBy old new s).start.phase = s.start.phase
      ∧ (corroborateBy old new s).start.kind = s.start.kind ∧ (corroborateBy old new s).start.image = s.start.image
      ∧ (corroborateBy old new s).start.condition = s.start.condition
      ∧ (corroborateBy old new s).start.attempts = s.start.attempts
      ∧ (corroborateBy old new s).start.request = s.start.request
      ∧ (corroborateBy old new s).link.offer = s.link.offer ∧ (corroborateBy old new s).link.sending = s.link.sending
      ∧ (corroborateBy old new s).link.faults = s.link.faults ∧ (corroborateBy old new s).link.quiet = s.link.quiet
      ∧ (corroborateBy old new s).link.discards = s.link.discards ∧ (corroborateBy old new s).link.bus = s.link.bus
      ∧ (corroborateBy old new s).light.base = s.light.base ∧ (corroborateBy old new s).doors.passage = s.doors.passage
      ∧ (corroborateBy old new s).fire.loops = s.fire.loops := by
  unfold corroborateBy; split <;> simp

@[simp] theorem resolveBy_parts (old new : NbEntry) (s : State) :
    (resolveBy old new s).modes = s.modes ∧ (resolveBy old new s).watch = s.watch ∧ (resolveBy old new s).table = s.table
      ∧ (resolveBy old new s).troubles = s.troubles ∧ (resolveBy old new s).fire = s.fire
      ∧ (resolveBy old new s).start = s.start ∧ (resolveBy old new s).buzzer = s.buzzer
      ∧ (resolveBy old new s).link.offer = s.link.offer ∧ (resolveBy old new s).link.sending = s.link.sending
      ∧ (resolveBy old new s).link.faults = s.link.faults ∧ (resolveBy old new s).link.quiet = s.link.quiet
      ∧ (resolveBy old new s).link.discards = s.link.discards ∧ (resolveBy old new s).link.bus = s.link.bus
      ∧ (resolveBy old new s).light.base = s.light.base ∧ (resolveBy old new s).light.above = s.light.above
      ∧ (resolveBy old new s).doors.passage = s.doors.passage := by
  unfold resolveBy; split <;> simp

@[simp] theorem recomputeIf_parts (b : Bool) (s : State) :
    (recomputeIf b s).modes = s.modes ∧ (recomputeIf b s).watch = s.watch ∧ (recomputeIf b s).table = s.table
      ∧ (recomputeIf b s).troubles = s.troubles ∧ (recomputeIf b s).fire = s.fire ∧ (recomputeIf b s).start = s.start
      ∧ (recomputeIf b s).buzzer = s.buzzer ∧ (recomputeIf b s).doors = s.doors ∧ (recomputeIf b s).timers = s.timers
      ∧ (recomputeIf b s).link.offer = s.link.offer ∧ (recomputeIf b s).link.sending = s.link.sending
      ∧ (recomputeIf b s).link.faults = s.link.faults ∧ (recomputeIf b s).link.quiet = s.link.quiet
      ∧ (recomputeIf b s).link.discards = s.link.discards ∧ (recomputeIf b s).link.bus = s.link.bus
      ∧ (recomputeIf b s).light.base = s.light.base ∧ (recomputeIf b s).light.above = s.light.above := by
  unfold recomputeIf; split <;> simp

@[simp] theorem corroborateBy_site (old new : NbEntry) (s : State) (e : Fin 4) :
    ((corroborateBy old new s).door e).desc = (s.door e).desc
      ∧ ((corroborateBy old new s).door e).position = (s.door e).position
      ∧ ((corroborateBy old new s).door e).filter = (s.door e).filter
      ∧ ((corroborateBy old new s).door e).keep = (s.door e).keep := by
  unfold corroborateBy; split <;> simp

@[simp] theorem resolveBy_site (old new : NbEntry) (s : State) (e : Fin 4) :
    ((resolveBy old new s).door e).desc = (s.door e).desc
      ∧ ((resolveBy old new s).door e).position = (s.door e).position
      ∧ ((resolveBy old new s).door e).filter = (s.door e).filter
      ∧ ((resolveBy old new s).door e).keep = (s.door e).keep := by
  unfold resolveBy; split <;> simp

@[simp] theorem recomputeIf_door (b : Bool) (s : State) (e : Fin 4) : (recomputeIf b s).door e = s.door e := by
  simp [State.door]

@[simp] theorem changeEntry_parts (s : State) (k : Fin 4) (old new : NbEntry) :
    (s.changeEntry k old new).start.phase = s.start.phase ∧ (s.changeEntry k old new).start.kind = s.start.kind
      ∧ (s.changeEntry k old new).start.image = s.start.image
      ∧ (s.changeEntry k old new).start.condition = s.start.condition
      ∧ (s.changeEntry k old new).start.attempts = s.start.attempts
      ∧ (s.changeEntry k old new).start.request = s.start.request
      ∧ (s.changeEntry k old new).link.offer = s.link.offer ∧ (s.changeEntry k old new).link.sending = s.link.sending
      ∧ (s.changeEntry k old new).link.faults = s.link.faults ∧ (s.changeEntry k old new).link.quiet = s.link.quiet
      ∧ (s.changeEntry k old new).link.discards = s.link.discards ∧ (s.changeEntry k old new).link.bus = s.link.bus
      ∧ (s.changeEntry k old new).light.base = s.light.base ∧ (s.changeEntry k old new).doors.passage = s.doors.passage
      ∧ (s.changeEntry k old new).fire.loops = s.fire.loops
      ∧ (s.changeEntry k old new).table = (s.setEntry k new).table := by
  have hl : (deliver [corroborateBy old new, resolveBy old new, recomputeIf (s.egressInputChanged old new)]
      (entryReplaced s k old new)).fire.loops = (entryReplaced s k old new).fire.loops :=
    deliver_keeps (·.fire.loops) (fun _ _ => rfl) _ (by simp) _
  simp [changeEntry_eq, hl]

@[simp] theorem changeEntry_site (s : State) (k : Fin 4) (old new : NbEntry) (e : Fin 4) :
    ((s.changeEntry k old new).door e).desc = (s.door e).desc
      ∧ ((s.changeEntry k old new).door e).position = (s.door e).position
      ∧ ((s.changeEntry k old new).door e).filter = (s.door e).filter
      ∧ ((s.changeEntry k old new).door e).keep = (s.door e).keep := by
  have h : (entryReplaced s k old new).door e = s.door e := by simp [State.door]
  rw [changeEntry_eq, ← h]
  exact deliver_site _ e (by simp) _

@[simp] theorem entryTakes_parts (s : State) (f : StatusFrame) (k : Fin 4) :
    (s.entryTakes f k).start.phase = s.start.phase ∧ (s.entryTakes f k).start.kind = s.start.kind
      ∧ (s.entryTakes f k).start.image = s.start.image ∧ (s.entryTakes f k).start.condition = s.start.condition
      ∧ (s.entryTakes f k).start.attempts = s.start.attempts ∧ (s.entryTakes f k).start.request = s.start.request
      ∧ (s.entryTakes f k).link.offer = s.link.offer ∧ (s.entryTakes f k).link.sending = s.link.sending
      ∧ (s.entryTakes f k).link.faults = s.link.faults ∧ (s.entryTakes f k).link.quiet = s.link.quiet
      ∧ (s.entryTakes f k).link.discards = s.link.discards ∧ (s.entryTakes f k).link.bus = s.link.bus
      ∧ (s.entryTakes f k).light.base = s.light.base ∧ (s.entryTakes f k).doors.passage = s.doors.passage
      ∧ (s.entryTakes f k).fire.loops = s.fire.loops ∧ (s.entryTakes f k).table.roster = s.table.roster := by
  unfold State.entryTakes; (repeat' split) <;> simp

@[simp] theorem rosterTakes_parts (s : State) (f : StatusFrame) :
    (s.rosterTakes f).start.phase = s.start.phase ∧ (s.rosterTakes f).start.kind = s.start.kind
      ∧ (s.rosterTakes f).start.image = s.start.image ∧ (s.rosterTakes f).start.condition = s.start.condition
      ∧ (s.rosterTakes f).start.attempts = s.start.attempts ∧ (s.rosterTakes f).start.request = s.start.request
      ∧ (s.rosterTakes f).link.offer = s.link.offer ∧ (s.rosterTakes f).link.sending = s.link.sending
      ∧ (s.rosterTakes f).link.faults = s.link.faults ∧ (s.rosterTakes f).link.quiet = s.link.quiet
      ∧ (s.rosterTakes f).link.discards = s.link.discards ∧ (s.rosterTakes f).link.bus = s.link.bus
      ∧ (s.rosterTakes f).light.base = s.light.base ∧ (s.rosterTakes f).doors.passage = s.doors.passage
      ∧ (s.rosterTakes f).fire.loops = s.fire.loops ∧ (s.rosterTakes f).table.entries = s.table.entries
      ∧ (s.rosterTakes f).fire.state = s.fire.state ∧ (s.rosterTakes f).fire.phase = s.fire.phase
      ∧ (s.rosterTakes f).fire.firstLoop = s.fire.firstLoop := by
  unfold State.rosterTakes; dsimp only; (repeat' split) <;> simp

@[simp] theorem sweepRoster_parts (s : State) :
    s.sweepRoster.start.phase = s.start.phase ∧ s.sweepRoster.start.kind = s.start.kind
      ∧ s.sweepRoster.start.image = s.start.image ∧ s.sweepRoster.start.condition = s.start.condition
      ∧ s.sweepRoster.start.attempts = s.start.attempts ∧ s.sweepRoster.start.request = s.start.request
      ∧ s.sweepRoster.link.offer = s.link.offer ∧ s.sweepRoster.link.sending = s.link.sending
      ∧ s.sweepRoster.link.faults = s.link.faults ∧ s.sweepRoster.link.quiet = s.link.quiet
      ∧ s.sweepRoster.link.discards = s.link.discards ∧ s.sweepRoster.link.bus = s.link.bus
      ∧ s.sweepRoster.light.base = s.light.base ∧ s.sweepRoster.doors.passage = s.doors.passage
      ∧ s.sweepRoster.fire.loops = s.fire.loops ∧ s.sweepRoster.table.entries = s.table.entries
      ∧ s.sweepRoster.fire.state = s.fire.state ∧ s.sweepRoster.fire.phase = s.fire.phase
      ∧ s.sweepRoster.fire.firstLoop = s.fire.firstLoop := by
  unfold State.sweepRoster; dsimp only; split <;> simp

end Sys2Proof.Proofs.PartFrames
end

section
/-! What one command and one step keep. `Quiet` says that nothing has changed that an invariant of the station reads; `Kept` lists
the shared operations that the commands are made of, each keeping a property; a property so kept is kept by every command and
by every step. -/

namespace Sys2Proof.Proofs.Steps

open Sys2Proof Sys2Proof.Machine Sys2Proof.Proofs.PartFrames

/-- The state a command answers; no command faults or refuses. -/
def taken (c : Instr) (s : State) : State :=
  match exec c s with
  | .next t => t
  | .fault _ => s
  | .refused _ => s

theorem exec_eq_taken (c : Instr) (s : State) : exec c s = .next (taken c s) := by
  cases c <;> rfl

/-- At least one delivery takes `Q` to `R`, and every delivery keeps both: the deliveries take `Q` to `R`. -/
theorem deliver_establishes {Q R : State → Prop} (fs : List (State → State)) (f : State → State) (hf : f ∈ fs)
    (hQd : ∀ s n, Q s → Q (s.afterDraw n)) (hRd : ∀ s n, R s → R (s.afterDraw n))
    (hQ : ∀ g ∈ fs, ∀ s, Q s → Q (g s)) (hR : ∀ g ∈ fs, ∀ s, R s → R (g s)) (hfR : ∀ s, Q s → R (f s))
    (s : State) (hs : Q s) : R (deliver fs s) := by
  have key : ∀ (n : Nat) (gs : List (State → State)), gs.length = n → (∀ g ∈ gs, g ∈ fs) → ∀ s,
      (R s ∨ (Q s ∧ f ∈ gs)) → R (deliverFuel n gs s) := by
    intro n
    induction n with
    | zero =>
      intro gs hlen _ s h
      rcases h with h | ⟨-, hmem⟩
      · exact h
      · simp [List.length_eq_zero_iff.1 hlen] at hmem
    | succ n ih =>
      intro gs hlen hsub s h
      have hlt : s.drawn gs.length < gs.length := Nat.mod_lt _ (by omega)
      have hget : gs[s.drawn gs.length]? = some gs[s.drawn gs.length] := List.getElem?_eq_getElem hlt
      simp only [deliverFuel, hget]
      refine ih _ (by rw [List.length_eraseIdx_of_lt hlt]; omega) (fun g hg => hsub g (List.mem_of_mem_eraseIdx hg)) _ ?_
      have hin := hsub _ (List.getElem_mem hlt)
      rcases h with h | ⟨hq, hmem⟩
      · exact .inl (hR _ hin _ (hRd _ _ h))
      · by_cases he : gs[s.drawn gs.length] = f
        · rw [he]; exact .inl (hfR _ (hQd _ _ hq))
        · refine .inr ⟨hQ _ hin _ (hQd _ _ hq), ?_⟩
          obtain ⟨i, hi, rfl⟩ := List.getElem_of_mem hmem
          exact List.mem_eraseIdx_iff_getElem.2 ⟨i, hi, fun h => he (by simp [h]), rfl⟩
  exact key fs.length fs rfl (fun _ h => h) s (.inr ⟨hs, hf⟩)

/-! ### Changes that no invariant reads -/

/-- What the invariants of the station read of a state. -/
structure Reading where
  mode     : Mode
  fire     : FireState × VerifyPhase × Option (Fin 6) × Bool × Bool
  watch    : GuardState × Bool × Bool
  doors    : Fin 4 → DoorRec
  passage  : Bool
  points   : Fin 4 → PointRec
  list     : List CallEntry
  table    : NbTable
  egress   : EgressUnit
  light    : LightUnit
  start    : StartPhase × StartKind × Option Image × Bool × Bool
  troubles : TroubleUnit
  buzzer   : Bool × Bool

/-- The filters, the mark of ajar timing and the hurry flags are left out. -/
def reading (s : State) : Reading :=
  { mode := s.modes.mode
    fire := (s.fire.state, s.fire.phase, s.fire.firstLoop, s.fire.evac, s.fire.silenced)
    watch := (s.watch.guard, s.watch.round, s.watch.intrusion)
    doors := fun d => { s.door d with filter := Filter.clear, ajar := false }
    passage := s.doors.passage
    points := fun p => { s.point p with hurry := false }
    list := s.calls.list
    table := s.table
    egress := s.egress
    light := s.light
    start := (s.start.phase, s.start.kind, s.start.image, s.start.freeze, s.start.condition == .cold)
    troubles := s.troubles
    buzzer := (s.buzzer.verify.isSome, s.buzzer.trouble.isSome) }

/-- The invariants read the same before and after, but that a frame of this station may have ended. -/
structure Quiet (s t : State) : Prop where
  reading : reading t = reading s
  sending : t.link.sending.isSome = true → s.link.sending.isSome = true

namespace Quiet

variable {s t u : State}

theorem refl (s : State) : Quiet s s := ⟨rfl, id⟩

theorem trans (h : Quiet s t) (k : Quiet t u) : Quiet s u := ⟨k.reading.trans h.reading, h.sending ∘ k.sending⟩

theorem mode (h : Quiet s t) : t.modes.mode = s.modes.mode := congrArg Reading.mode h.reading
theorem fireState (h : Quiet s t) : t.fire.state = s.fire.state := congrArg (·.fire.1) h.reading
theorem verifyPhase (h : Quiet s t) : t.fire.phase = s.fire.phase := congrArg (·.fire.2.1) h.reading
theorem firstLoop (h : Quiet s t) : t.fire.firstLoop = s.fire.firstLoop := congrArg (·.fire.2.2.1) h.reading
theorem evac (h : Quiet s t) : t.fire.evac = s.fire.evac := congrArg (·.fire.2.2.2.1) h.reading
theorem silenced (h : Quiet s t) : t.fire.silenced = s.fire.silenced := congrArg (·.fire.2.2.2.2) h.reading
theorem guard (h : Quiet s t) : t.watch.guard = s.watch.guard := congrArg (·.watch.1) h.reading
theorem round (h : Quiet s t) : t.watch.round = s.watch.round := congrArg (·.watch.2.1) h.reading
theorem intrusion (h : Quiet s t) : t.watch.intrusion = s.watch.intrusion := congrArg (·.watch.2.2) h.reading
theorem desc (h : Quiet s t) (d : Fin 4) : (t.door d).desc = (s.door d).desc :=
  congrArg (fun r => (r.doors d).desc) h.reading
theorem position (h : Quiet s t) (d : Fin 4) : (t.door d).position = (s.door d).position :=
  congrArg (fun r => (r.doors d).position) h.reading
theorem doorPhase (h : Quiet s t) (d : Fin 4) : (t.door d).phase = (s.door d).phase :=
  congrArg (fun r => (r.doors d).phase) h.reading
theorem lock (h : Quiet s t) (d : Fin 4) : (t.door d).lock = (s.door d).lock :=
  congrArg (fun r => (r.doors d).lock) h.reading
theorem hold (h : Quiet s t) (d : Fin 4) : (t.door d).hold = (s.door d).hold :=
  congrArg (fun r => (r.doors d).hold) h.reading
theorem deferred (h : Quiet s t) (d : Fin 4) : (t.door d).deferred = (s.door d).deferred :=
  congrArg (fun r => (r.doors d).deferred) h.reading
theorem keep (h : Quiet s t) (d : Fin 4) : (t.door d).keep = (s.door d).keep :=
  congrArg (fun r => (r.doors d).keep) h.reading
theorem passage (h : Quiet s t) : t.doors.passage = s.doors.passage := congrArg Reading.passage h.reading
theorem pointState (h : Quiet s t) (p : Fin 4) : (t.point p).state = (s.point p).state :=
  congrArg (fun r => (r.points p).state) h.reading
theorem level (h : Quiet s t) (p : Fin 4) : (t.point p).level = (s.point p).level :=
  congrArg (fun r => (r.points p).level) h.reading
theorem late (h : Quiet s t) (p : Fin 4) : (t.point p).late = (s.point p).late :=
  congrArg (fun r => (r.points p).late) h.reading
theorem answerer (h : Quiet s t) (p : Fin 4) : (t.point p).answerer = (s.point p).answerer :=
  congrArg (fun r => (r.points p).answerer) h.reading
theorem list (h : Quiet s t) : t.calls.list = s.calls.list := congrArg Reading.list h.reading
theorem table (h : Quiet s t) : t.table = s.table := congrArg Reading.table h.reading
theorem egress (h : Quiet s t) : t.egress = s.egress := congrArg Reading.egress h.reading
theorem light (h : Quiet s t) : t.light = s.light := congrArg Reading.light h.reading
theorem startPhase (h : Quiet s t) : t.start.phase = s.start.phase := congrArg (·.start.1) h.reading
theorem kind (h : Quiet s t) : t.start.kind = s.start.kind := congrArg (·.start.2.1) h.reading
theorem image (h : Quiet s t) : t.start.image = s.start.image := congrArg (·.start.2.2.1) h.reading
theorem freeze (h : Quiet s t) : t.start.freeze = s.start.freeze := congrArg (·.start.2.2.2.1) h.reading
theorem cold (h : Quiet s t) : (t.start.condition == .cold) = (s.start.condition == .cold) :=
  congrArg (·.start.2.2.2.2) h.reading
theorem troubles (h : Quiet s t) : t.troubles = s.troubles := congrArg Reading.troubles h.reading
theorem verifyPattern (h : Quiet s t) : t.buzzer.verify.isSome = s.buzzer.verify.isSome :=
  congrArg (·.buzzer.1) h.reading
theorem troublePattern (h : Quiet s t) : t.buzzer.trouble.isSome = s.buzzer.trouble.isSome :=
  congrArg (·.buzzer.2) h.reading
theorem cfg (h : Quiet s t) : t.cfg = s.cfg := by simp only [State.cfg, h.image]
theorem own (h : Quiet s t) : t.own = s.own := by simp only [State.own, h.cfg]

end Quiet

/-! ### Operations that change nothing of it -/

theorem quiet_setChannel (s : State) (c : Chan) (ch : Channel) : Quiet s (s.setChannel c ch) := ⟨rfl, id⟩

theorem quiet_startTimer (s : State) (c : Chan) (n : Nat) (rate : TickRate) (kind : ChanKind) (m : Nat) :
    Quiet s (s.startTimer c n rate kind m) := by
  unfold State.startTimer; split <;> exact quiet_setChannel s _ _

theorem quiet_markStatus (s : State) : Quiet s s.markStatus := ⟨rfl, id⟩

theorem quiet_afterDraw (s : State) (n : Nat) : Quiet s (s.afterDraw n) := ⟨rfl, id⟩

theorem quiet_present (s : State) (p : OneShot) : Quiet s (s.present p) := by
  refine ⟨?_, id⟩
  cases p <;> rfl

theorem quiet_setKeyLine (s : State) (k : PanelKey) (b : Bool) : Quiet s (s.setKeyLine k b) := ⟨rfl, id⟩

theorem quiet_setKeyRec (s : State) (k : PanelKey) (r : ButtonRec) : Quiet s (s.setKeyRec k r) := ⟨rfl, id⟩

theorem quiet_setButtonLine (s : State) (p : Fin 4) (b : Bool) : Quiet s (s.setButtonLine p b) := ⟨rfl, id⟩

theorem quiet_setButton (s : State) (p : Fin 4) (r : ButtonRec) : Quiet s (s.setButton p r) := ⟨rfl, id⟩

theorem quiet_setLoop (s : State) (l : Fin 6) (r : LoopRec) : Quiet s (s.setLoop l r) := ⟨rfl, id⟩

theorem quiet_setInput (s : State) (i : Fin 8) (r : WatchRec) : Quiet s (s.setInput i r) := ⟨rfl, id⟩

theorem quiet_raise (s : State) (e : Instr) : Quiet s (s.raise e) := ⟨rfl, id⟩

theorem quiet_respondLocal (s : State) : Quiet s s.respondLocal :=
  Quiet.trans (t := { s with watch := { s.watch with localLatch := true } }) ⟨rfl, id⟩ (quiet_present _ _)

theorem quiet_doorFilter (s : State) (d : Fin 4) (f : Machine.Filter Position) :
    Quiet s (s.setDoor d { s.door d with filter := f }) := by
  refine ⟨?_, id⟩
  have h : ∀ e, ({ (s.setDoor d { s.door d with filter := f }).door e with filter := Filter.clear, ajar := false } : DoorRec)
      = { s.door e with filter := Filter.clear, ajar := false } := by
    intro e
    rw [State.setDoor_door]
    split
    next he => rw [he]
    next => rfl
  simp only [reading, h]
  rfl

theorem quiet_hurry (s : State) (p : Fin 4) : Quiet s (s.hurry p) := by
  unfold State.hurry
  split
  · refine ⟨?_, id⟩
    have h : ∀ q, ({ (s.setPoint p { s.point p with hurry := true }).point q with hurry := false } : PointRec)
        = { s.point q with hurry := false } := by
      intro q
      rw [State.setPoint_point]
      split
      next he => rw [he]
      next => rfl
    simp only [reading, h]
    rfl
  · exact Quiet.refl s

theorem quiet_foldl {β : Type} (f : State → β → State) (h : ∀ s b, Quiet s (f s b)) :
    ∀ (l : List β) (s : State), Quiet s (l.foldl f s)
  | [], s => Quiet.refl s
  | b :: l, s => (h s b).trans (quiet_foldl f h l (f s b))

theorem quiet_markOpenCalls (s : State) : Quiet s s.markOpenCalls := by
  unfold State.markOpenCalls
  exact quiet_foldl State.markCall (fun _ _ => ⟨rfl, id⟩) _ s

/-! ### The tick -/

theorem quiet_letGo (s : State) (b : Bool) (f : State → State) (h : ∀ t, Quiet t (f t)) : Quiet s (s.letGo b f) := by
  rcases s.letGo_cases b f with ⟨-, he⟩ | ⟨-, he | he⟩ <;> rw [he]
  · exact Quiet.refl s
  · exact quiet_afterDraw s 2
  · exact (quiet_afterDraw s 2).trans (h _)

theorem quiet_letKeyGo (s : State) (k : PanelKey) : Quiet s (s.letKeyGo k) :=
  quiet_letGo s _ _ fun t => quiet_setKeyLine t k false

theorem quiet_filterKey (s : State) (k : PanelKey) : Quiet s (s.filterKey k) := by
  unfold State.filterKey
  dsimp only
  split
  · exact (quiet_setKeyRec _ _ _).trans (quiet_raise _ _)
  · exact quiet_setKeyRec _ _ _

theorem quiet_sampleKey (s : State) (k : PanelKey) : Quiet s (s.sampleKey k) :=
  (quiet_letKeyGo s k).trans (quiet_filterKey _ k)

theorem quiet_letButtonGo (s : State) (p : Fin 4) : Quiet s (s.letButtonGo p) :=
  quiet_letGo s _ _ fun t => quiet_setButtonLine t p false

theorem quiet_filterButton (s : State) (p : Fin 4) : Quiet s (s.filterButton p) := by
  unfold State.filterButton
  dsimp only
  split
  · exact (quiet_setButton _ _ _).trans (quiet_raise _ _)
  · exact quiet_setButton _ _ _

theorem quiet_sampleButton (s : State) (p : Fin 4) : Quiet s (s.sampleButton p) := by
  unfold State.sampleButton
  split
  · exact (quiet_letButtonGo s p).trans (quiet_filterButton _ p)
  · exact Quiet.refl s

theorem quiet_sampleLoop (s : State) (l : Fin 6) : Quiet s (s.sampleLoop l) := by
  unfold State.sampleLoop
  dsimp only
  split
  · exact Quiet.refl s
  · split
    · exact quiet_setLoop _ _ _
    · exact (quiet_setLoop _ _ _).trans (quiet_raise _ _)

theorem quiet_sampleInput (s : State) (i : Fin 8) : Quiet s (s.sampleInput i) := by
  unfold State.sampleInput
  dsimp only
  split
  · exact Quiet.refl s
  · split
    · exact quiet_setInput _ _ _
    · exact (quiet_setInput _ _ _).trans (quiet_raise _ _)

theorem quiet_samplePosition (s : State) (d : Fin 4) : Quiet s (s.samplePosition d) := by
  unfold State.samplePosition
  dsimp only
  split
  · exact Quiet.refl s
  · split
    · exact quiet_doorFilter _ _ _
    · exact (quiet_doorFilter _ _ _).trans (quiet_raise _ _)

theorem quiet_sampleLines (s : State) : Quiet s s.sampleLines :=
  (((quiet_foldl _ quiet_sampleLoop _ s).trans (quiet_foldl _ quiet_sampleInput _ _)).trans
    (quiet_foldl _ quiet_samplePosition _ _)).trans (quiet_foldl _ quiet_sampleButton _ _)

theorem quiet_sampleModeKey (s : State) : Quiet s s.sampleModeKey := by
  unfold State.sampleModeKey
  split
  · exact ⟨rfl, id⟩
  · dsimp only
    (repeat' split) <;> exact ⟨rfl, id⟩

theorem quiet_samplePanel (s : State) : Quiet s s.samplePanel := by
  have hkeys : Quiet s (if s.keyed then [PanelKey.ack, .restore, .accept, .guard, .test].foldl State.sampleKey s.sampleModeKey
      else s.sampleModeKey) := by
    split
    · exact (quiet_sampleModeKey s).trans (quiet_foldl _ quiet_sampleKey _ _)
    · exact quiet_sampleModeKey s
  unfold State.samplePanel
  dsimp only
  split
  · exact hkeys.trans (quiet_sampleKey _ _)
  · exact hkeys

/-- R151, R187: a tick samples, counts and moves the rhythms, and decides nothing. -/
theorem quiet_tick (s : State) : Quiet s s.tick := by
  unfold State.tick
  dsimp only
  split
  · exact ⟨rfl, id⟩
  · have hcount : Quiet s { s with
        clock := s.clock.tick, timers := s.timers.tick (s.clock.tick.hundred == 0) (s.clock.tick.second == 0)
        buzzer := s.buzzer.tick, raised := s.raised ++ s.buzzer.endings } := by
      refine ⟨?_, id⟩
      simp only [reading, Buzzer.tick, Option.isSome_map]
      rfl
    have hpanel : ∀ t, Quiet s t → Quiet s (if s.clock.tick.keySampling == 0 then t.samplePanel else t) := by
      intro t ht
      split
      · exact ht.trans (quiet_samplePanel t)
      · exact ht
    split
    · exact (hpanel _ hcount).trans (quiet_sampleLines _)
    · exact hpanel _ hcount

end Sys2Proof.Proofs.Steps
end

section
/-! The operations that the commands are made of, and what a command and a step keep when the operations keep it. -/

namespace Sys2Proof.Proofs.Steps

open Sys2Proof Sys2Proof.Machine Sys2Proof.Proofs.PartFrames

/-- R186: the trouble unit's part of ACK. -/
def buzzerSilenced (s : State) : State := State.syncBuzzer { s with troubles := { s.troubles with silenced := true } }

/-- R64: the PASSAGE slot withdrawn and every door resolved. -/
def passageWithdrawn (s : State) : State := State.resolveAll { s with doors := { s.doors with passage := false } }

/-- The shared operations that the commands take outside the resets, RESTORE's own parts and the raising of a call: each keeps
the property, under what is known where it is taken. -/
structure Kept (P : State → Prop) : Prop where
  quiet : ∀ {s t}, Quiet s t → P s → P t
  enterTrouble : ∀ s x, P s → P (s.enterTrouble x)
  removeTroubles : ∀ s g, P s → P (s.removeTroubles g)
  buzzerSilenced : ∀ s, P s → P (buzzerSilenced s)
  loopAlarm : ∀ s l, P s → P (s.loopAlarm l)
  unlatched : ∀ s, s.fire.state = .clear ∨ s.fire.state = .prealarm → P s → P (s.setFireState s.unlatchedFire)
  enterFire : ∀ s, s.fire.state = .verify → P s → P s.enterFire
  ackVerification : ∀ s, P s → P s.ackVerification
  setSounderSilenced : ∀ s b, P s → P (s.setSounderSilenced b)
  rosterTakes : ∀ s f, s.hearing = true → f.source ≠ s.own → P s → P (s.rosterTakes f)
  entryTakes : ∀ s f k, P s → P (s.entryTakes f k)
  fallMute : ∀ s k, P s → P (s.fallMute k)
  sweepRoster : ∀ s, P s → P s.sweepRoster
  changeMode : ∀ s m, P s → P (s.changeMode m)
  respondAlert : ∀ s, P s → P s.respondAlert
  guardWatch : ∀ s, s.keyed = true → P s → P s.guardWatch
  guardSet : ∀ s, s.watch.guard = .setting → P s → P (s.setGuard .watching)
  endRound : ∀ s, P s → P s.endRound
  pressTest : ∀ s, s.keyed = true → P s → P s.pressTest
  testEnds : ∀ s, P s → P (s.removeScene .test)
  takePassage : ∀ s, s.hearing = true → P s → P s.takePassage
  passageWithdrawn : ∀ s, P s → P (passageWithdrawn s)
  firstReading : ∀ s d p, s.hearing = true → (s.door d).desc.isOwned = true → (s.door d).position = none → P s →
    P (s.firstReading d p)
  doorCloses : ∀ s d, s.hearing = true → (s.door d).desc.isOwned = true → (s.door d).position.isSome = true → P s →
    P (s.doorCloses d)
  doorOpens : ∀ s d, s.hearing = true → (s.door d).desc.isOwned = true → (s.door d).position.isSome = true → P s →
    P (s.doorOpens d)
  doorLost : ∀ s d, s.hearing = true → (s.door d).desc.isOwned = true → (s.door d).position.isSome = true → P s →
    P (s.doorLost d)
  travelLapse : ∀ s d, P s → P (s.travelLapse d)
  takeOffer : ∀ s p n, P s → P (s.takeOffer p n)
  setOffered : ∀ s id b, P s → P (s.setOffered id b)
  clearPoint : ∀ s p, P s → P (s.clearPoint p)
  escalate : ∀ s p, P s → P (s.escalate p)
  attendLapse : ∀ s p, P s → P (s.attendLapse p)
  sweepCalls : ∀ s, P s → P s.sweepCalls
  takeNotice : ∀ s id x level a, id.origin ≠ s.own → P s → P (s.takeNotice id x level a)
  beginFrame : ∀ s, P s → P s.beginFrame
  frameOver : ∀ s t, s.link.sending.isSome = true → t.start = s.start → P s → P t → P t.hold.releaseWarm
  releaseWarm : ∀ s, s.start.condition = .held → s.heldIsCold = false → P s → P s.releaseWarm
  enterUnconfigured : ∀ s, s.live = true → s.start.phase = .configRead → P s → P s.enterUnconfigured
  configGood : ∀ s t img, s.live = true → s.start.phase = .configRead → judgeRead t = .good img → P s → P (s.configGood img)
  beginRun : ∀ s, s.live = true → s.listening = true → P s → P s.beginRun

namespace Kept

variable {P : State → Prop} (K : Kept P)

include K

/-! ### The parts of the commands -/

/-- A change that no invariant reads, written where it is made. -/
theorem still {s t : State} (h : P s) (hr : reading t = reading s)
    (hs : t.link.sending.isSome = true → s.link.sending.isSome = true) : P t := K.quiet ⟨hr, hs⟩ h

theorem deliver (fs : List (State → State)) (h : ∀ f ∈ fs, ∀ s, P s → P (f s)) (s : State) (hs : P s) :
    P (Machine.deliver fs s) :=
  deliver_induct P (fun s n => K.quiet (quiet_afterDraw s n)) fs h s hs

theorem startTimer (s : State) (c : Chan) (n : Nat) (rate : TickRate) (kind : ChanKind) (m : Nat) (h : P s) :
    P (s.startTimer c n rate kind m) := K.quiet (quiet_startTimer s c n rate kind m) h

theorem keyReads (s : State) (k : PanelKey) (press : State → State) (hp : P (s.setKeyRec k .held) → P (press (s.setKeyRec k .held)))
    (h : P s) : P (s.keyReads k press) := by
  have hr := K.quiet (quiet_setKeyRec s k .held) h
  unfold State.keyReads
  dsimp only
  split
  · exact hr
  · exact hp hr

/-- R188: a key pressed down is its line, its filter and, from released, the press. -/
theorem keyDown (s : State) (k : PanelKey) (sampled : Bool) (press : State → State)
    (hp : ∀ t, sampled = true → t.start = s.start → P t → P (press t)) (h : P s) : P (s.keyDown k sampled press) := by
  have hl := K.quiet (quiet_setKeyLine s k true) h
  unfold State.keyDown
  dsimp only
  split
  next hs => exact K.keyReads _ k press (hp _ hs rfl) hl
  next => exact hl

/-- R154: an expiry taken is its channel and then its owner's act. -/
theorem onExpiry (s : State) (c : Chan) (purpose : Bool) (act : State → State)
    (ha : ∀ ch, s.live = true → purpose = true → P (s.setChannel c ch) → P (act (s.setChannel c ch))) (h : P s) :
    P (s.onExpiry c purpose act) := by
  unfold State.onExpiry
  split
  next hlp =>
    obtain ⟨hl, hp⟩ := Bool.and_eq_true_iff.1 hlp
    split
    · exact h
    · exact ha _ hl hp (K.quiet (quiet_setChannel s c _) h)
  next => exact h

theorem onCompare (s : State) (c : Chan) (purpose : Bool) (act : State → State)
    (ha : ∀ ch, P (s.setChannel c ch) → P (act (s.setChannel c ch))) (h : P s) : P (s.onCompare c purpose act) := by
  unfold State.onCompare
  split
  · split
    · exact h
    · exact ha _ (K.quiet (quiet_setChannel s c _) h)
  · exact h

theorem respond (s : State) (r : Response) (h : P s) : P (s.respond r) := by
  cases r with
  | alert => exact K.respondAlert s h
  | nothing | trouble | call => exact h
  | _ => exact K.quiet (quiet_respondLocal s) h

theorem pressAck (s : State) (h : P s) : P s.pressAck := by
  have h1 := K.ackVerification s h
  refine K.buzzerSilenced s.ackVerification.ackSounder ?_
  unfold State.ackSounder
  split
  · exact K.setSounderSilenced _ _ h1
  · exact h1

theorem loadOffer (s : State) (id : CallId) (h : P s) : P (s.loadOffer id) := by
  unfold State.loadOffer
  dsimp only
  split
  · exact K.setOffered _ _ _ (K.still h rfl (by simp))
  · exact K.setOffered _ _ _ (K.still (K.setOffered _ _ _ h) rfl (by simp))

theorem acceptCall (s : State) (h : P s) : P s.acceptCall := by
  unfold State.acceptCall
  split
  · exact K.quiet (quiet_present s _) h
  · split
    · exact K.takeOffer _ _ _ h
    · exact K.loadOffer _ _ h

theorem turnKey (s : State) (m : Mode) (h : P s) : P (s.turnKey m) := by
  unfold State.turnKey
  split
  · exact K.changeMode _ _ (K.still h rfl id)
  · exact K.changeMode _ _ h

theorem keyTaken (s : State) (m : Mode) (h : P s) : P (s.keyTaken m) := by
  unfold State.keyTaken
  split
  · exact h
  · exact K.turnKey _ _ (K.still h rfl id)

theorem bandTaken (s : State) (l : Fin 6) (new : LoopBand) (h : P s) : P (s.bandTaken l new) := by
  have h1 := K.quiet (quiet_setLoop s l { s.fire.loops[l] with band := new, filter := Filter.clear }) h
  have h2 : P ((s.setLoop l { s.fire.loops[l] with band := new, filter := Filter.clear }).loopTrouble l
      s.fire.loops[l].band new) := by
    unfold State.loopTrouble
    (repeat' split)
    · exact h1
    · exact K.enterTrouble _ _ h1
    · exact K.removeTroubles _ _ h1
    · exact h1
  unfold State.bandTaken
  dsimp only
  (repeat' split)
  · exact K.loopAlarm _ _ h2
  next hk => exact K.unlatched _ (by simpa using hk.2) h2
  · exact h2

theorem loopReads (s : State) (l : Fin 6) (n : Nat) (h : P s) : P (s.loopReads l n) := by
  unfold State.loopReads
  dsimp only
  (repeat' split)
  · exact h
  · exact K.quiet (quiet_setLoop _ _ _) h
  · exact K.bandTaken _ _ _ h

theorem watchBandTaken (s : State) (i : Fin 8) (new : WatchBand) (h : P s) : P (s.watchBandTaken i new) := by
  have h1 := K.quiet (quiet_setInput s i { s.watch.inputs[i] with band := new, filter := Filter.clear }) h
  unfold State.watchBandTaken
  dsimp only
  split
  · exact K.removeTroubles _ _ h1
  · exact K.respond _ _ (K.enterTrouble _ _ h1)
  · refine K.respond _ _ ?_
    split
    · exact K.enterTrouble _ _ h1
    · exact h1

theorem inputReads (s : State) (i : Fin 8) (r : WatchReading) (h : P s) : P (s.inputReads i r) := by
  unfold State.inputReads
  dsimp only
  (repeat' split)
  · exact h
  · exact K.quiet (quiet_setInput _ _ _) h
  · exact K.watchBandTaken _ _ _ h

theorem positionTaken (s : State) (d : Fin 4) (p : Position) (hh : s.hearing = true) (ho : (s.door d).desc.isOwned = true)
    (hp : (s.door d).position.isSome = true) (h : P s) : P (s.positionTaken d p) := by
  unfold State.positionTaken
  split
  · exact K.doorCloses s d hh ho hp h
  · exact K.doorLost s d hh ho hp h
  · have h1 := K.doorOpens s d hh ho hp h
    dsimp only
    split
    · exact K.respond _ _ h1
    · exact h1

theorem readAttempt (s : State) (t : ConfigTransfer) (h : P s) : P (s.readAttempt t) := by
  unfold State.readAttempt
  split
  · exact h
  next hg =>
    obtain ⟨hl, hp⟩ : s.live = true ∧ s.start.phase = .configRead := by simpa using hg
    split
    · split
      · exact K.still h rfl id
      · exact K.enterUnconfigured s hl hp h
    · exact K.enterUnconfigured s hl hp h
    next hj => exact K.configGood s t _ hl hp hj h

theorem clearPoints (s : State) (h : P s) : P s.clearPoints := by
  have hall : ∀ (l : List (Fin 4)) t, P t → P (l.foldl State.clearPoint t) := by
    intro l
    induction l with
    | nil => exact fun _ ht => ht
    | cons p l ih => exact fun t ht => ih _ (K.clearPoint t p ht)
  exact hall _ s h

theorem hearPair (s : State) (m : Mode) (e : Byte) (h : P s) : P (s.hearPair m e) := by
  unfold State.hearPair
  dsimp only
  split
  · refine K.changeMode _ _ ?_
    split
    · exact K.still h rfl id
    · exact K.still h rfl id
  · exact h

/-- R172: while a STATUS is delivered the station stays in its phase with its number. -/
theorem dispatchStatus (s : State) (f : StatusFrame) (hh : s.hearing = true) (hs : f.source ≠ s.own) (h : P s) :
    P (s.dispatchStatus f) := by
  have hstart : ∀ t u : State, u.start.phase = t.start.phase → u.start.image = t.start.image →
      u.start.condition = t.start.condition → u.hearing = t.hearing ∧ u.own = t.own := by
    intro t u hph him hco
    simp [State.hearing, State.live, State.own, State.cfg, hph, him, hco]
  have htable : ∀ (l : List (Fin 4)) t, t.hearing = s.hearing ∧ t.own = s.own ∧ P t →
      (l.foldl (fun u k => u.entryTakes f k) t).hearing = s.hearing ∧ (l.foldl (fun u k => u.entryTakes f k) t).own = s.own
        ∧ P (l.foldl (fun u k => u.entryTakes f k) t) := by
    intro l
    induction l with
    | nil => exact fun t ht => ht
    | cons k l ih =>
      rintro t ⟨hth, hto, hp⟩
      obtain ⟨h1, h2⟩ := hstart t (t.entryTakes f k) (by simp) (by simp) (by simp)
      exact ih _ ⟨h1.trans hth, h2.trans hto, K.entryTakes t f k hp⟩
  refine (deliver_induct (fun t => t.hearing = s.hearing ∧ t.own = s.own ∧ P t)
    (fun t n ht => ⟨ht.1, ht.2.1, K.quiet (quiet_afterDraw t n) ht.2.2⟩) _ ?_ s ⟨rfl, rfl, h⟩).2.2
  rintro g hg t ⟨hth, hto, hp⟩
  simp only [List.mem_cons, List.not_mem_nil, or_false] at hg
  obtain rfl | rfl | rfl := hg
  · obtain ⟨h1, h2⟩ := hstart t (t.hearPair (modeOfCode f.mode) f.epoch) (by simp) (by simp) (by simp)
    exact ⟨h1.trans hth, h2.trans hto, K.hearPair t _ _ hp⟩
  · obtain ⟨h1, h2⟩ := hstart t (t.rosterTakes f) (by simp) (by simp) (by simp)
    exact ⟨h1.trans hth, h2.trans hto, K.rosterTakes t f (hth.trans hh) (by rw [hto]; exact hs) hp⟩
  · exact htable _ t ⟨hth, hto, hp⟩

theorem dispatch (s : State) (fr : Frame) (hh : s.hearing = true) (hs : fr.source ≠ s.own) (h : P s) :
    P (s.dispatch fr) := by
  cases fr with
  | status f => exact K.dispatchStatus s f hh hs h
  | call f => exact K.takeNotice s _ _ _ _ hs h
  | answer f =>
    unfold State.dispatch
    dsimp only
    split
    · exact K.takeOffer _ _ _ h
    · exact h

theorem countDiscard (s : State) (h : P s) : P s.countDiscard := by
  have hn : ∀ n, P { s with link := { s.link with discards := n } } := fun n => K.still h rfl id
  unfold State.countDiscard
  dsimp only
  generalize (if s.link.discards < 8 then s.link.discards + 1 else 8) = n
  split
  · exact K.enterTrouble _ _ (hn n)
  · exact hn n

theorem awaitIdle (s : State) (b : Bool) (h : P s) : P (s.awaitIdle b) := K.still h rfl id

theorem discardFrame (s : State) (h : P s) : P s.discardFrame := by
  unfold State.discardFrame
  split
  · exact K.countDiscard s h
  · exact h

theorem straysSeen (s : State) (h : P s) : P s.straysSeen := by
  unfold State.straysSeen
  (repeat' split)
  · exact h
  · exact K.discardFrame _ (K.awaitIdle s true h)
  · exact h

theorem takeFrame (s : State) (fr : Frame) (h : P s) : P (s.takeFrame fr) := by
  have hidle := K.awaitIdle s false h
  unfold State.takeFrame
  split
  · exact K.straysSeen s h
  split
  · exact hidle
  next hh =>
  split
  · unfold State.markDuplicate
    split
    · exact K.enterTrouble _ _ (K.countDiscard _ hidle)
    · exact K.countDiscard _ hidle
  next hbad =>
    have hkeep : ((s.awaitIdle false).countGood).start = s.start := by simp
    refine K.dispatch _ fr ?_ ?_ (K.removeTroubles _ _ (K.still hidle rfl id))
    · simpa only [State.hearing, State.live, hkeep, Bool.not_eq_true', Bool.not_eq_false] using hh
    · have hsrc : fr.source ≠ s.own := by
        rintro hsrc
        simp [Frame.isBad, hsrc] at hbad
      simpa [State.own, State.cfg, hkeep] using hsrc

theorem takeActivity (s : State) (a : BusActivity) (h : P s) : P (s.takeActivity a) := by
  unfold State.takeActivity
  split
  · unfold State.startBitSeen
    split
    · exact K.still h rfl id
    · exact K.straysSeen s h
  · exact K.straysSeen s h
  · split
    · unfold State.frameBroken
      split
      · exact K.straysSeen s h
      · exact K.discardFrame _ (K.awaitIdle s true h)
    · exact K.takeFrame s _ h

theorem hold (s : State) (hl : s.live = true) (h : P s) : P s.hold := by
  have hc : (s.start.condition == .cold) = false := by
    simp only [State.live, beq_iff_eq] at hl
    simp [hl]
  refine K.still h ?_ id
  simp only [reading, hc]
  rfl

theorem frameFailed (s : State) (f : Sending) (v : BusView) (h : P s) : P (s.frameFailed f v) := by
  unfold State.frameFailed
  dsimp only
  (repeat' split)
  · exact K.still h rfl (by simp)
  · exact K.still h rfl (by simp)
  · exact K.setOffered _ _ _ (K.still h rfl (by simp))
  · exact K.still h rfl (by simp)
  · refine K.quiet ⟨?_, ?_⟩ h
    · rfl
    · cases f.slot <;> simp [LinkUnit.setPending]

theorem transmitFault (s : State) (n : Nat) (h : P s) : P (s.transmitFault n) := by
  unfold State.transmitFault
  dsimp only
  (repeat' split)
  · exact h
  · exact K.still (K.frameFailed s _ _ h) rfl id
  · exact K.startTimer _ _ _ _ _ _ (K.enterTrouble _ _ (K.still (K.frameFailed s _ _ h) rfl id))
  · exact h

theorem frameSent (s : State) (h : P s) : P s.frameSent := by
  unfold State.frameSent
  dsimp only
  (repeat' split)
  · exact h
  · exact K.startTimer _ _ _ _ _ _ (K.still h rfl (by simp))
  · exact K.still h rfl (by simp)

/-- R178: where a frame ends, a held reset that waits for the end takes hold, or has been released already. -/
theorem afterFrame (s t : State) (hl : s.live = true) (hstart : t.start = s.start) (h : P s) (ht : P t) :
    P (s.afterFrame t) := by
  have htl : t.live = true := by simpa [State.live, hstart] using hl
  unfold State.afterFrame
  split
  next hsend =>
    unfold State.frameOver
    split
    · exact ht
    · exact K.hold t htl ht
    · exact K.frameOver s t (Bool.and_eq_true_iff.1 hsend).1 hstart h ht
  next => exact ht

/-! ### The commands -/

/-- The commands that are made of the operations of `Kept` alone. -/
def common : Instr → Bool
  | .resetAsserted _ | .holdFalls | .coldStart _ _ _ | .restore | .callButtonPressed _ => false
  | _ => true

/-- A property that the shared operations keep is kept by every command but those of the resets, RESTORE and the call buttons. -/
theorem taken (c : Instr) (hc : common c = true) (s : State) (h : P s) : P (taken c s) := by
  have hlive : ∀ {t : State}, s.live = true → t.start = s.start → t.live = true := by
    intro t hl ht; simpa [State.live, ht] using hl
  have hkeyed : ∀ {t : State}, s.keyed = true → t.start = s.start → t.keyed = true := by
    intro t hk ht; simpa only [State.keyed, State.hearing, State.live, ht] using hk
  have hhear : ∀ {t : State}, s.hearing = true → t.start = s.start → t.hearing = true := by
    intro t hk ht; simpa only [State.hearing, State.live, ht] using hk
  cases c with
  | resetAsserted _ | holdFalls | coldStart _ _ _ | restore | callButtonPressed _ => cases hc
  | warmRestart =>
    show P (if s.warmReleases then _ else _)
    split
    next hw =>
      obtain ⟨hheld, hcold⟩ : s.start.condition = .held ∧ s.heldIsCold = false := by simpa [State.warmReleases] using hw
      exact K.releaseWarm s hheld hcold h
    next => split
            · exact K.still h rfl id
            · exact h
  | configReadAttempt t => exact K.readAttempt s t h
  | startOfRun =>
    refine K.onExpiry s _ _ _ (fun ch hl hp h => ?_) h
    exact K.beginRun _ hl hp h
  | keyChange m =>
    show P (if s.live then _ else _)
    split
    · exact K.keyTaken _ m (K.still h rfl id)
    · exact K.still h rfl id
  | ack => exact K.keyDown s _ _ _ (fun t _ _ => K.pressAck t) h
  | accept => exact K.keyDown s _ _ _ (fun t _ _ => K.acceptCall t) h
  | guard =>
    refine K.keyDown s _ _ _ (fun t hk ht h => ?_) h
    exact K.clearPoints _ (K.guardWatch t (hkeyed hk ht) h)
  | passage => exact K.keyDown s _ _ _ (fun t hk ht => K.takePassage t (hhear hk ht)) h
  | test => exact K.keyDown s _ _ _ (fun t hk ht => K.pressTest t (hkeyed hk ht)) h
  | bandChange l n =>
    show P (if s.hearing then _ else _)
    split
    · exact K.loopReads _ l n (K.still h rfl id)
    · exact K.still h rfl id
  | watchBandChange i r =>
    show P (if s.hearing then _ else _)
    split
    · exact K.inputReads _ i r (K.still h rfl id)
    · exact K.still h rfl id
  | firstReading d r =>
    show P (if s.hearing && (s.door d).desc.isOwned && (s.door d).position.isNone then _ else _)
    split
    next hg =>
      simp only [Bool.and_eq_true, Option.isNone_iff_eq_none] at hg
      obtain ⟨⟨hh, ho⟩, hp⟩ := hg
      exact K.firstReading _ d _ hh ho hp (K.still h rfl id)
    next => exact K.still h rfl id
  | positionChange d r =>
    show P (if s.hearing && (s.door d).desc.isOwned && (s.door d).position.isSome then _ else _)
    split
    next hg =>
      simp only [Bool.and_eq_true] at hg
      obtain ⟨⟨hh, ho⟩, hp⟩ := hg
      split
      · exact K.quiet (quiet_doorFilter _ d Filter.clear) (K.still h rfl id)
      · exact K.positionTaken _ d _ hh ho hp (K.still h rfl id)
    next => exact K.still h rfl id
  | ackWindowExpiry =>
    refine K.onExpiry s _ _ _ (fun ch _ hp h => K.enterFire _ ?_ h) h
    exact beq_iff_eq.1 (Bool.and_eq_true_iff.1 hp).1
  | investigationExpiry =>
    refine K.onExpiry s _ _ _ (fun ch _ hp h => K.enterFire _ ?_ h) h
    exact beq_iff_eq.1 (Bool.and_eq_true_iff.1 hp).1
  | travelLimitExpiry d =>
    show P (s.onExpiry (.door d) (s.travels d) fun t => t.travelLapse d)
    refine K.onExpiry s _ _ _ (fun ch _ _ h => ?_) h
    exact K.travelLapse _ d h
  | ajarCompare d =>
    show P (s.onCompare (.door d) (s.standsAjar d) fun t => t.present .warning)
    refine K.onCompare s _ _ _ (fun ch h => ?_) h
    exact K.quiet (quiet_present _ _) h
  | heldEvent d =>
    show P (s.onExpiry (.door d) (s.standsAjar d) fun t =>
      (if (s.channel (.door d)).compareDue then t.present .warning else t).respond (responseTable .held s.column))
    refine K.onExpiry s _ _ _ (fun ch _ _ h => ?_) h
    refine K.respond _ _ ?_
    split
    · exact K.quiet (quiet_present _ _) h
    · exact h
  | passageExpiry =>
    show P (s.onExpiry .t21 true Steps.passageWithdrawn)
    refine K.onExpiry s _ _ _ (fun ch _ _ h => ?_) h
    exact K.passageWithdrawn _ h
  | escalationCompare p =>
    show P (s.onCompare (.point p) ((s.point p).state == .waiting) fun t => t.hurry p)
    refine K.onCompare s _ _ _ (fun ch h => ?_) h
    exact K.quiet (quiet_hurry _ p) h
  | escalationExpiry p =>
    show P (s.onExpiry (.point p) ((s.point p).state == .waiting) fun t =>
      (if (s.channel (.point p)).compareDue then t.hurry p else t).escalate p)
    refine K.onExpiry s _ _ _ (fun ch _ _ h => ?_) h
    refine K.escalate _ p ?_
    split
    · exact K.quiet (quiet_hurry _ p) h
    · exact h
  | attendLimitExpiry p =>
    show P (s.onExpiry (.point p) ((s.point p).state == .answered) fun t => t.attendLapse p)
    refine K.onExpiry s _ _ _ (fun ch _ _ h => ?_) h
    exact K.attendLapse _ p h
  | silenceExpiry k =>
    show P (s.onExpiry (.silence k) (s.table.entries[k]).isSome fun t => t.fallMute k)
    refine K.onExpiry s _ _ _ (fun ch _ _ h => ?_) h
    exact K.fallMute _ k h
  | sweep =>
    show P (s.onExpiry .t17 true fun t => t.sweepRoster.sweepCalls)
    refine K.onExpiry s _ _ _ (fun ch _ _ h => ?_) h
    exact K.sweepCalls _ (K.sweepRoster _ h)
  | exitDelayExpiry =>
    show P (s.onExpiry .t18 (s.watch.guard == .setting) fun t => t.setGuard .watching)
    refine K.onExpiry s _ _ _ (fun ch _ hp h => ?_) h
    exact K.guardSet _ (beq_iff_eq.1 hp) h
  | roundExpiry =>
    refine K.onExpiry s _ _ _ (fun ch _ _ h => ?_) h
    exact K.endRound _ h
  | lampTestExpiry =>
    show P (s.onExpiry .t20 true fun t => t.removeScene .test)
    refine K.onExpiry s _ _ _ (fun ch _ _ h => ?_) h
    exact K.testEnds _ h
  | refreshExpiry =>
    show P (s.onExpiry .t15 true fun t => t.markStatus.markOpenCalls)
    refine K.onExpiry s _ _ _ (fun ch _ _ h => ?_) h
    exact K.quiet ((quiet_markStatus _).trans (quiet_markOpenCalls _)) h
  | statusPacingExpiry =>
    refine K.onExpiry s _ _ _ (fun ch _ _ h => ?_) h
    exact h
  | quietPeriodExpiry =>
    show P (s.onExpiry .t19 s.link.quiet fun t => { t with link := { t.link with quiet := false } })
    refine K.onExpiry s _ _ _ (fun ch _ _ h => ?_) h
    exact K.still h rfl id
  | buzzerPatternEnd p =>
    show P (if s.live then _ else _)
    split
    · refine K.still h ?_ id
      cases p <;> rfl
    · exact h
  | beginFrame => exact K.beginFrame s h
  | lostArbitration b =>
    show P (if s.live then _ else _)
    split
    next hl =>
      refine K.afterFrame s _ hl (by simp) h ?_
      unfold State.loseArbitration
      (repeat' split)
      · exact h
      · exact K.frameFailed s _ _ h
      · exact h
    next => exact h
  | transmitFault n =>
    show P (if s.live then _ else _)
    split
    next hl => exact K.afterFrame s _ hl (by simp) h (K.transmitFault s n h)
    next => exact h
  | frameSent =>
    show P (if s.live then _ else _)
    split
    next hl => exact K.afterFrame s _ hl (by simp) h (K.frameSent s h)
    next => exact h
  | receivedStatus f => exact K.takeFrame s _ h
  | receivedNotice f => exact K.takeFrame s _ h
  | receivedOffer f => exact K.takeFrame s _ h
  | frameDiscarded a => exact K.takeActivity s a h
  | busIdle =>
    show P s.findIdle
    unfold State.findIdle
    split
    · exact h
    · exact K.still h rfl id

/-- R178: an assertion of RESET that does not begin a cold reset. -/
theorem assertReset (s : State) (high : Bool) (hcold : high = false → P s → P s.cold) (h : P s) : P (s.assertReset high) := by
  unfold State.assertReset
  split
  next hh => exact hcold (by simpa using hh) h
  split
  · exact h
  next hl =>
    dsimp only
    split
    · exact K.still h rfl id
    · exact K.hold _ (by simpa [State.live] using hl) (K.still h rfl id)

theorem dropHold (s : State) (hcold : P s → P s.cold) (h : P s) : P s.dropHold := by
  unfold State.dropHold
  split
  · exact hcold h
  · exact K.still h rfl id

/-- R188: RESTORE is a press in the phases that take it; its parts come in any order. -/
theorem restore (s : State) (hfire : ∀ t, t.keyed = true → P t → P t.restoreFire) (hwatch : ∀ t, P t → P t.restoreWatch)
    (h : P s) : P (Steps.taken .restore s) := by
  have hkeyed : ∀ t u : State, u.start.phase = t.start.phase → u.start.condition = t.start.condition → u.keyed = t.keyed := by
    intro t u hph hco
    simp [State.keyed, State.hearing, State.live, hph, hco]
  refine K.keyDown s _ _ _ (fun t hk hstart ht => ?_) h
  have htk : t.keyed = true := (hkeyed s t (by rw [hstart]) (by rw [hstart])).trans hk
  have h1 : P (if t.fireRefuses || t.watchRefuses then t.present .refuse else t)
      ∧ (if t.fireRefuses || t.watchRefuses then t.present .refuse else t).keyed = true := by
    split
    · exact ⟨K.quiet (quiet_present t _) ht, htk⟩
    · exact ⟨ht, htk⟩
  refine (deliver_induct (fun u => P u ∧ u.keyed = true) (fun u n hu => ⟨K.quiet (quiet_afterDraw u n) hu.1, hu.2⟩) _ ?_ _ h1).1
  simp only [List.mem_cons, List.not_mem_nil, or_false]
  rintro f (rfl | rfl | rfl) u ⟨hu, huk⟩
  · refine ⟨hfire u huk hu, (hkeyed u _ ?_ ?_).trans huk⟩ <;> unfold State.restoreFire <;> (repeat' split) <;> simp
  · refine ⟨hwatch u hu, (hkeyed u _ ?_ ?_).trans huk⟩ <;> simp
  · refine ⟨K.removeTroubles u _ hu, (hkeyed u _ ?_ ?_).trans huk⟩ <;> simp [State.restoreTroubles]

theorem callButton (s : State) (p : Fin 4)
    (hraise : ∀ t : State, (t.point p).isOpen = (s.point p).isOpen → P t → P (t.raiseCall p)) (h : P s) :
    P (Steps.taken (.callButtonPressed p) s) := by
  have hl := K.quiet (quiet_setButtonLine s p true) h
  show P (if s.hearing && s.pointFitted p then _ else _)
  split
  · unfold State.buttonReads
    dsimp only
    have hb := K.quiet (quiet_setButton (s.setButtonLine p true) p .held) hl
    split
    · exact hb
    · unfold State.buttonTaken
      split
      · exact hraise _ rfl hb
      · exact K.respond _ _ hb
  · exact hl

end Kept

/-- Every operation of the commands keeps the property. -/
structure KeptByAll (P : State → Prop) : Prop extends Kept P where
  cold : ∀ s : State, P s.cold
  releaseCold : ∀ (s : State) k1 k2 k3, P (s.releaseCold k1 k2 k3)
  restoreFire : ∀ s, s.keyed = true → P s → P s.restoreFire
  restoreWatch : ∀ s, P s → P s.restoreWatch
  raiseCall : ∀ s p, P s → P (s.raiseCall p)

namespace KeptByAll

variable {P : State → Prop} (K : KeptByAll P)

include K

theorem taken (c : Instr) (s : State) (h : P s) : P (taken c s) := by
  have hcold : P s → P s.cold := fun _ => K.cold s
  by_cases hc : Kept.common c = true
  · exact K.toKept.taken c hc s h
  · cases c with
    | resetAsserted b => exact K.toKept.assertReset s b (fun _ => hcold) h
    | holdFalls => exact K.toKept.dropHold s hcold h
    | coldStart k1 k2 k3 =>
      show P (if s.coldReleases then _ else _)
      split
      · exact K.releaseCold s k1 k2 k3
      · exact h
    | restore => exact K.toKept.restore s K.restoreFire K.restoreWatch h
    | callButtonPressed p => exact K.toKept.callButton s p (fun t _ => K.raiseCall t p) h
    | _ => exact absurd rfl hc

/-- What every operation keeps, every step keeps: a command, an event of the station's own, or a tick. -/
theorem step {s t : State} (h : P s) (hstep : step s = .next t) : P t := by
  unfold Machine.step at hstep
  split at hstep
  next c rest _ =>
    rw [exec_eq_taken] at hstep
    cases hstep
    exact K.taken c _ (K.still h rfl id)
  next =>
    split at hstep
    next e u hnext =>
      rw [exec_eq_taken] at hstep
      cases hstep
      have hu : P u := by
        simp only [State.nextEvent, Option.map_eq_some_iff, Prod.mk.injEq] at hnext
        obtain ⟨_, -, -, rfl⟩ := hnext
        exact K.still h rfl id
      exact K.still (K.taken e u hu) rfl id
    next =>
      cases hstep
      exact K.quiet (quiet_tick s) h

end KeptByAll

end Sys2Proof.Proofs.Steps
end

section
/-! The evacuation flag follows the own fire state and the fire roster (R33): the flag is recomputed wherever either changes. -/

namespace Sys2Proof.Proofs.Evacuation

open Sys2Proof Sys2Proof.Machine Sys2Proof.Proofs.PartFrames Sys2Proof.Proofs.Steps

/-- The flag stays sound in a change of blocks that it does not depend on. -/
theorem same {s t : State} (h : s.EvacuationSound) (hs : t.fire.state = s.fire.state) (he : t.fire.evac = s.fire.evac)
    (hr : t.table.roster = s.table.roster) : t.EvacuationSound := by
  simpa only [State.EvacuationSound, State.evacDue, hs, he, hr] using h

theorem recomputeEvac_sound (s : State) : s.recomputeEvac.EvacuationSound := by
  simp [State.EvacuationSound, State.evacDue]

theorem setFireState_sound (s : State) (f : FireState) (h : s.EvacuationSound) : (s.setFireState f).EvacuationSound := by
  rcases setFireState_cases s f with ⟨-, he⟩ | ⟨-, hf, hs, he⟩ | ⟨-, -, he⟩ <;> rw [he]
  · exact h
  · have hdue : (f == .fire) = (s.fire.state == .fire) := by rw [beq_eq_false_iff_ne.2 hf, beq_eq_false_iff_ne.2 hs]
    simpa only [State.EvacuationSound, State.evacDue, fireStateSet_keeps, hdue] using h
  · exact recomputeEvac_sound _

theorem enterFire_sound (s : State) (h : s.EvacuationSound) : s.enterFire.EvacuationSound := by
  unfold State.enterFire
  split
  · exact h
  · exact setFireState_sound _ _ (same h (by simp) (by simp) (by simp))

theorem deliver_sound (fs : List (State → State)) (hf : ∀ f ∈ fs, ∀ s : State, s.EvacuationSound → (f s).EvacuationSound)
    (s : State) (h : s.EvacuationSound) : (deliver fs s).EvacuationSound :=
  deliver_induct State.EvacuationSound (fun _ _ h => h) fs hf s h

theorem changeMode_sound (s : State) (m : Mode) (h : s.EvacuationSound) : (s.changeMode m).EvacuationSound := by
  by_cases hm : s.modes.mode = m
  · subst hm; rwa [changeMode_same]
  · rw [changeMode_changed hm]
    have hd : (modeDelivered s m).EvacuationSound := deliver_sound _ ?_ _ h
    · exact same hd (by simp) (by simp) (by simp)
    simp only [List.mem_cons, List.not_mem_nil, or_false]
    rintro f (rfl | rfl) t ht
    · exact same ht (by simp) (by simp) (by simp)
    · unfold State.fireModeChange
      split
      · exact enterFire_sound t ht
      · exact ht

theorem changeEntry_sound (s : State) (k : Fin 4) (old new : NbEntry) (h : s.EvacuationSound) :
    (s.changeEntry k old new).EvacuationSound := by
  rw [changeEntry_eq]
  refine deliver_sound _ ?_ _ (same h (by simp) (by simp) (by simp))
  simp only [List.mem_cons, List.not_mem_nil, or_false]
  rintro f (rfl | rfl | rfl) t ht
  · unfold corroborateBy State.corroborate
    (repeat' split)
    · exact enterFire_sound t ht
    · exact ht
    · exact ht
  · exact same ht (by simp) (by simp) (by simp)
  · exact same ht (by simp) (by simp) (by simp)

/-- R118: the flag is recomputed where a STATUS adds a member or takes one away; a fresh mark alone leaves the roster non-empty. -/
theorem rosterTakes_sound (s : State) (f : StatusFrame) (h : s.EvacuationSound) : (s.rosterTakes f).EvacuationSound := by
  unfold State.rosterTakes
  dsimp only
  (repeat' split)
  · simpa [State.EvacuationSound, State.evacDue] using h
  · exact same (recomputeEvac_sound (s.setRoster (s.table.roster ++ [{ station := f.source, mark := true }])))
      (by simp) (by simp) (by simp)
  · exact recomputeEvac_sound _
  · exact h

/-- R119: a sweep that keeps every member leaves the roster as empty as it was. -/
theorem sweepRoster_sound (s : State) (h : s.EvacuationSound) : s.sweepRoster.EvacuationSound := by
  unfold State.sweepRoster
  dsimp only
  split
  · exact recomputeEvac_sound _
  next hlen =>
    have hall : s.table.roster.filter Member.mark = s.table.roster :=
      List.filter_eq_self.2 (List.length_filter_eq_length_iff.1
        (le_antisymm (List.length_filter_le _ _) (by omega)))
    simpa [State.EvacuationSound, State.evacDue, hall] using h

theorem releaseWarm_sound (s : State) : s.releaseWarm.EvacuationSound := by
  simp [State.releaseWarm, State.EvacuationSound, State.evacDue]

theorem enterUnconfigured_sound (s : State) : s.enterUnconfigured.EvacuationSound :=
  same (recomputeEvac_sound (s.stripped.enterTrouble .config).unconfiguredFire) (by simp [State.enterUnconfigured])
    (by simp [State.enterUnconfigured]) (by simp [State.enterUnconfigured])

theorem configGood_fire (s : State) (img : Image) :
    (s.configGood img).fire.state = s.fire.state ∧ (s.configGood img).fire.evac = s.fire.evac
      ∧ (s.configGood img).table.roster = s.table.roster := by
  unfold State.configGood
  dsimp only
  split <;> simp [State.takeImage, State.markAjar, State.presetHeld, State.resumeHeld]

theorem beginRun_sound (s : State) (h : s.EvacuationSound) : s.beginRun.EvacuationSound := by
  have hd : (deliver [State.settle, State.firstEgress, State.release] (s.setPhase .run)).EvacuationSound := by
    refine deliver_sound _ ?_ _ h
    simp only [List.mem_cons, List.not_mem_nil, or_false]
    rintro f (rfl | rfl | rfl) t ht
    · unfold State.settle
      split
      · exact ht
      · exact changeMode_sound _ _ ht
    · exact same ht (by simp) (by simp) (by simp)
    · exact same ht (by simp) (by simp) (by simp)
  unfold State.beginRun
  dsimp only
  split <;> exact same hd (by simp) (by simp) (by simp)

theorem loopAlarm_sound (s : State) (l : Fin 6) (h : s.EvacuationSound) : (s.loopAlarm l).EvacuationSound := by
  have halarm : (if s.fire.loops[l].kind = .smoke ∧ s.smokeTrusted l = false then s.enterVerify l
      else s.enterFire).EvacuationSound := by
    split
    · exact setFireState_sound _ _ (same h (by simp) (by simp) (by simp))
    · exact enterFire_sound s h
  unfold State.loopAlarm
  split
  · exact halarm
  · exact halarm
  · split
    · exact h
    · exact enterFire_sound s h
  · exact h

theorem ackVerification_fire (s : State) :
    s.ackVerification.fire.state = s.fire.state ∧ s.ackVerification.fire.evac = s.fire.evac := by
  unfold State.ackVerification; split <;> simp

theorem restoreFire_sound (s : State) (h : s.EvacuationSound) : s.restoreFire.EvacuationSound := by
  unfold State.restoreFire
  (repeat' split)
  · exact h
  · exact setFireState_sound _ _ h
  · exact h
  · exact setFireState_sound _ _ (same h (by simp) (by simp) (by simp))
  · exact h
  · exact setFireState_sound _ _ (same h (by simp) (by simp) (by simp))

theorem entryTakes_sound (s : State) (f : StatusFrame) (k : Fin 4) (h : s.EvacuationSound) :
    (s.entryTakes f k).EvacuationSound := by
  unfold State.entryTakes
  (repeat' split)
  · exact h
  · exact changeEntry_sound _ _ _ _ (same h (by simp) (by simp) (by simp))
  · exact h

theorem fallMute_sound (s : State) (k : Fin 4) (h : s.EvacuationSound) : (s.fallMute k).EvacuationSound := by
  unfold State.fallMute
  (repeat' split)
  · exact h
  · exact h
  · exact changeEntry_sound _ _ _ _ h

/-- R33: every operation keeps the flag; outside the fire unit, the mode unit, the neighbour table and the starts because it
writes neither the fire state, nor the flag, nor the roster. -/
theorem kept : KeptByAll State.EvacuationSound := by
  constructor
  case toKept =>
    constructor
    case quiet => exact fun q h => same h q.fireState q.evac (by rw [q.table])
    case loopAlarm => exact loopAlarm_sound
    case unlatched => exact fun s _ => setFireState_sound s _
    case enterFire => exact fun s _ => enterFire_sound s
    case ackVerification =>
      exact fun s h => same h (ackVerification_fire s).1 (ackVerification_fire s).2 (by simp)
    case rosterTakes => exact fun s f _ _ => rosterTakes_sound s f
    case entryTakes => exact entryTakes_sound
    case fallMute => exact fallMute_sound
    case sweepRoster => exact sweepRoster_sound
    case changeMode => exact changeMode_sound
    case frameOver => exact fun _ t _ _ _ _ => releaseWarm_sound t.hold
    case releaseWarm => exact fun s _ _ _ => releaseWarm_sound s
    case enterUnconfigured => exact fun s _ _ _ => enterUnconfigured_sound s
    case configGood =>
      intro s _ img _ _ _ h
      obtain ⟨hs, he, hr⟩ := configGood_fire s img
      exact same h hs he hr
    case beginRun => exact fun s _ _ => beginRun_sound s
    case buzzerSilenced | passageWithdrawn =>
      intro s h
      exact same h (by simp [buzzerSilenced, passageWithdrawn]) (by simp [buzzerSilenced, passageWithdrawn])
        (by simp [buzzerSilenced, passageWithdrawn])
    all_goals
      intros
      exact same ‹State.EvacuationSound _› (by simp) (by simp) (by simp)
  case cold => exact fun _ => rfl
  case releaseCold => exact fun _ _ _ _ => rfl
  case restoreFire => exact fun s _ => restoreFire_sound s
  case restoreWatch => exact fun s h => same h (by simp) (by simp) (by simp)
  case raiseCall => exact fun s p h => same h (by simp) (by simp) (by simp)

/-- Settles O49. -/
theorem evacuationFlagFollowsFireAndRoster : Obligations.EvacuationFlagFollowsFireAndRoster :=
  fun _ _ h hstep => kept.step h hstep

end Sys2Proof.Proofs.Evacuation
end

section
/-! What further operations leave of the link unit and of the start unit. -/

namespace Sys2Proof.Proofs.PartFrames

open Sys2Proof Sys2Proof.Machine

@[simp] theorem respondAlert_traffic (s : State) :
    s.respondAlert.link.offer = s.link.offer ∧ s.respondAlert.link.sending = s.link.sending
      ∧ s.respondAlert.link.faults = s.link.faults ∧ s.respondAlert.link.quiet = s.link.quiet
      ∧ s.respondAlert.link.discards = s.link.discards ∧ s.respondAlert.link.bus = s.link.bus := by
  unfold State.respondAlert; split <;> simp

@[simp] theorem respondAlert_watch (s : State) : s.respondAlert.watch = { s.watch with intrusion := true } := by
  unfold State.respondAlert
  split
  next hi => rw [← hi]
  next => simp

@[simp] theorem restoreWatch_traffic (s : State) :
    s.restoreWatch.link.offer = s.link.offer ∧ s.restoreWatch.link.sending = s.link.sending
      ∧ s.restoreWatch.link.faults = s.link.faults ∧ s.restoreWatch.link.quiet = s.link.quiet
      ∧ s.restoreWatch.link.discards = s.link.discards ∧ s.restoreWatch.link.bus = s.link.bus := by
  unfold State.restoreWatch; dsimp only; split <;> simp

@[simp] theorem restoreWatch_watch (s : State) :
    s.restoreWatch.watch = { s.watch with localLatch := false, intrusion := s.watch.intrusion && s.inputActive } := by
  unfold State.restoreWatch; dsimp only; split <;> simp_all

@[simp] theorem guardWatch_traffic (s : State) :
    s.guardWatch.link.offer = s.link.offer ∧ s.guardWatch.link.sending = s.link.sending
      ∧ s.guardWatch.link.faults = s.link.faults ∧ s.guardWatch.link.quiet = s.link.quiet
      ∧ s.guardWatch.link.discards = s.link.discards ∧ s.guardWatch.link.bus = s.link.bus := by
  unfold State.guardWatch; split <;> simp

@[simp] theorem takePassage_traffic (s : State) :
    s.takePassage.link.offer = s.link.offer ∧ s.takePassage.link.sending = s.link.sending
      ∧ s.takePassage.link.faults = s.link.faults ∧ s.takePassage.link.quiet = s.link.quiet
      ∧ s.takePassage.link.discards = s.link.discards ∧ s.takePassage.link.bus = s.link.bus := by
  unfold State.takePassage; dsimp only; split <;> simp

@[simp] theorem doorCloses_traffic (s : State) (d : Fin 4) :
    (s.doorCloses d).link.offer = s.link.offer ∧ (s.doorCloses d).link.sending = s.link.sending
      ∧ (s.doorCloses d).link.faults = s.link.faults ∧ (s.doorCloses d).link.quiet = s.link.quiet
      ∧ (s.doorCloses d).link.discards = s.link.discards ∧ (s.doorCloses d).link.bus = s.link.bus := by
  simp [State.doorCloses]

@[simp] theorem doorOpens_traffic (s : State) (d : Fin 4) :
    (s.doorOpens d).link.offer = s.link.offer ∧ (s.doorOpens d).link.sending = s.link.sending
      ∧ (s.doorOpens d).link.faults = s.link.faults ∧ (s.doorOpens d).link.quiet = s.link.quiet
      ∧ (s.doorOpens d).link.discards = s.link.discards ∧ (s.doorOpens d).link.bus = s.link.bus := by
  simp [State.doorOpens, State.removeTrouble]

@[simp] theorem doorLost_traffic (s : State) (d : Fin 4) :
    (s.doorLost d).link.offer = s.link.offer ∧ (s.doorLost d).link.sending = s.link.sending
      ∧ (s.doorLost d).link.faults = s.link.faults ∧ (s.doorLost d).link.quiet = s.link.quiet
      ∧ (s.doorLost d).link.discards = s.link.discards ∧ (s.doorLost d).link.bus = s.link.bus := by
  simp [State.doorLost, State.removeTrouble]

@[simp] theorem firstReading_traffic (s : State) (d : Fin 4) (p : Position) :
    (s.firstReading d p).link.offer = s.link.offer ∧ (s.firstReading d p).link.sending = s.link.sending
      ∧ (s.firstReading d p).link.faults = s.link.faults ∧ (s.firstReading d p).link.quiet = s.link.quiet
      ∧ (s.firstReading d p).link.discards = s.link.discards ∧ (s.firstReading d p).link.bus = s.link.bus := by
  unfold State.firstReading; dsimp only; split <;> simp

@[simp] theorem travelLapse_traffic (s : State) (d : Fin 4) :
    (s.travelLapse d).link.offer = s.link.offer ∧ (s.travelLapse d).link.sending = s.link.sending
      ∧ (s.travelLapse d).link.faults = s.link.faults ∧ (s.travelLapse d).link.quiet = s.link.quiet
      ∧ (s.travelLapse d).link.discards = s.link.discards ∧ (s.travelLapse d).link.bus = s.link.bus := by
  unfold State.travelLapse; dsimp only; split <;> simp

@[simp] theorem loopAlarm_traffic (s : State) (l : Fin 6) :
    (s.loopAlarm l).link.offer = s.link.offer ∧ (s.loopAlarm l).link.sending = s.link.sending
      ∧ (s.loopAlarm l).link.faults = s.link.faults ∧ (s.loopAlarm l).link.quiet = s.link.quiet
      ∧ (s.loopAlarm l).link.discards = s.link.discards ∧ (s.loopAlarm l).link.bus = s.link.bus := by
  unfold State.loopAlarm; (repeat' split) <;> simp

@[simp] theorem restoreFire_traffic (s : State) :
    s.restoreFire.link.offer = s.link.offer ∧ s.restoreFire.link.sending = s.link.sending
      ∧ s.restoreFire.link.faults = s.link.faults ∧ s.restoreFire.link.quiet = s.link.quiet
      ∧ s.restoreFire.link.discards = s.link.discards ∧ s.restoreFire.link.bus = s.link.bus := by
  unfold State.restoreFire; (repeat' split) <;> simp

@[simp] theorem takeOffer_traffic (s : State) (p : Fin 4) (n : Station) :
    (s.takeOffer p n).link.offer = s.link.offer ∧ (s.takeOffer p n).link.sending = s.link.sending
      ∧ (s.takeOffer p n).link.faults = s.link.faults ∧ (s.takeOffer p n).link.quiet = s.link.quiet
      ∧ (s.takeOffer p n).link.discards = s.link.discards ∧ (s.takeOffer p n).link.bus = s.link.bus := by
  unfold State.takeOffer; dsimp only; (repeat' split) <;> simp

@[simp] theorem escalate_traffic (s : State) (p : Fin 4) :
    (s.escalate p).link.offer = s.link.offer ∧ (s.escalate p).link.sending = s.link.sending
      ∧ (s.escalate p).link.faults = s.link.faults ∧ (s.escalate p).link.quiet = s.link.quiet
      ∧ (s.escalate p).link.discards = s.link.discards ∧ (s.escalate p).link.bus = s.link.bus := by
  unfold State.escalate; split <;> simp

@[simp] theorem attendLapse_traffic (s : State) (p : Fin 4) :
    (s.attendLapse p).link.offer = s.link.offer ∧ (s.attendLapse p).link.sending = s.link.sending
      ∧ (s.attendLapse p).link.faults = s.link.faults ∧ (s.attendLapse p).link.quiet = s.link.quiet
      ∧ (s.attendLapse p).link.discards = s.link.discards ∧ (s.attendLapse p).link.bus = s.link.bus := by
  unfold State.attendLapse; dsimp only; split <;> simp

@[simp] theorem dropEntries_traffic (s : State) (g : CallEntry → Bool) :
    (s.dropEntries g).link.sending = s.link.sending ∧ (s.dropEntries g).link.faults = s.link.faults
      ∧ (s.dropEntries g).link.quiet = s.link.quiet ∧ (s.dropEntries g).link.discards = s.link.discards
      ∧ (s.dropEntries g).link.bus = s.link.bus := by
  simp [State.dropEntries]

@[simp] theorem insertLocal_traffic (s : State) (p : Fin 4) :
    (s.insertLocal p).link.sending = s.link.sending ∧ (s.insertLocal p).link.faults = s.link.faults
      ∧ (s.insertLocal p).link.quiet = s.link.quiet ∧ (s.insertLocal p).link.discards = s.link.discards
      ∧ (s.insertLocal p).link.bus = s.link.bus := by
  unfold State.insertLocal; (repeat' split) <;> simp

@[simp] theorem raiseCall_traffic (s : State) (p : Fin 4) :
    (s.raiseCall p).link.sending = s.link.sending ∧ (s.raiseCall p).link.faults = s.link.faults
      ∧ (s.raiseCall p).link.quiet = s.link.quiet ∧ (s.raiseCall p).link.discards = s.link.discards
      ∧ (s.raiseCall p).link.bus = s.link.bus := by
  unfold State.raiseCall; dsimp only; split <;> simp

@[simp] theorem clearPoint_traffic (s : State) (p : Fin 4) :
    (s.clearPoint p).link.sending = s.link.sending ∧ (s.clearPoint p).link.faults = s.link.faults
      ∧ (s.clearPoint p).link.quiet = s.link.quiet ∧ (s.clearPoint p).link.discards = s.link.discards
      ∧ (s.clearPoint p).link.bus = s.link.bus := by
  unfold State.clearPoint; split <;> simp

@[simp] theorem sweepCalls_traffic (s : State) :
    s.sweepCalls.link.sending = s.link.sending ∧ s.sweepCalls.link.faults = s.link.faults
      ∧ s.sweepCalls.link.quiet = s.link.quiet ∧ s.sweepCalls.link.discards = s.link.discards
      ∧ s.sweepCalls.link.bus = s.link.bus := by
  simp [State.sweepCalls]

@[simp] theorem takeNotice_traffic (s : State) (id : CallId) (x : BitVec 2) (level : Nat) (a : Station) :
    (s.takeNotice id x level a).link.sending = s.link.sending
      ∧ (s.takeNotice id x level a).link.faults = s.link.faults
      ∧ (s.takeNotice id x level a).link.quiet = s.link.quiet
      ∧ (s.takeNotice id x level a).link.discards = s.link.discards
      ∧ (s.takeNotice id x level a).link.bus = s.link.bus := by
  unfold State.takeNotice; dsimp only; (repeat' split) <;> simp

@[simp] theorem loopAlarm_setup (s : State) (l : Fin 6) :
    (s.loopAlarm l).start.phase = s.start.phase ∧ (s.loopAlarm l).start.kind = s.start.kind ∧ (s.loopAlarm l).start.image = s.start.image
      ∧ (s.loopAlarm l).start.condition = s.start.condition ∧ (s.loopAlarm l).start.attempts = s.start.attempts
      ∧ (s.loopAlarm l).start.request = s.start.request := by
  unfold State.loopAlarm; (repeat' split) <;> simp

@[simp] theorem restoreFire_setup (s : State) :
    s.restoreFire.start.phase = s.start.phase ∧ s.restoreFire.start.kind = s.start.kind ∧ s.restoreFire.start.image = s.start.image
      ∧ s.restoreFire.start.condition = s.start.condition ∧ s.restoreFire.start.attempts = s.start.attempts
      ∧ s.restoreFire.start.request = s.start.request := by
  unfold State.restoreFire; (repeat' split) <;> simp

@[simp] theorem fallMute_setup (s : State) (k : Fin 4) :
    (s.fallMute k).start.phase = s.start.phase ∧ (s.fallMute k).start.kind = s.start.kind ∧ (s.fallMute k).start.image = s.start.image
      ∧ (s.fallMute k).start.condition = s.start.condition ∧ (s.fallMute k).start.attempts = s.start.attempts
      ∧ (s.fallMute k).start.request = s.start.request := by
  unfold State.fallMute; (repeat' split) <;> simp

@[simp] theorem fallMute_traffic (s : State) (k : Fin 4) :
    (s.fallMute k).link.offer = s.link.offer ∧ (s.fallMute k).link.sending = s.link.sending
      ∧ (s.fallMute k).link.faults = s.link.faults ∧ (s.fallMute k).link.quiet = s.link.quiet
      ∧ (s.fallMute k).link.discards = s.link.discards ∧ (s.fallMute k).link.bus = s.link.bus := by
  unfold State.fallMute; (repeat' split) <;> simp

@[simp] theorem fallMute_roster (s : State) (k : Fin 4) : (s.fallMute k).table.roster = s.table.roster := by
  unfold State.fallMute; (repeat' split) <;> simp

/-- R160: after a begin, a frame of this station is under way only if it was before or the station is in RUN. -/
theorem beginFrame_sending (s : State) (h : s.beginFrame.link.sending.isSome = true) :
    s.link.sending.isSome = true ∨ s.start.phase = .run := by
  unfold State.beginFrame at h
  split at h
  · exact .inl h
  next hm =>
    simp only [Bool.not_eq_true', Bool.not_eq_false, State.mayBegin, Bool.and_eq_true, beq_iff_eq] at hm
    obtain ⟨⟨⟨⟨⟨-, hrun⟩, -⟩, -⟩, -⟩, -⟩ := hm
    exact .inr hrun

@[simp] theorem markOpenCalls_traffic (s : State) :
    s.markOpenCalls.link.offer = s.link.offer ∧ s.markOpenCalls.link.sending = s.link.sending
      ∧ s.markOpenCalls.link.faults = s.link.faults ∧ s.markOpenCalls.link.quiet = s.link.quiet
      ∧ s.markOpenCalls.link.discards = s.link.discards ∧ s.markOpenCalls.link.bus = s.link.bus
      ∧ s.markOpenCalls.link.status = s.link.status :=
  ⟨foldl_keeps (·.link.offer) _ (by simp) _ s, foldl_keeps (·.link.sending) _ (by simp) _ s,
   foldl_keeps (·.link.faults) _ (by simp) _ s, foldl_keeps (·.link.quiet) _ (by simp) _ s,
   foldl_keeps (·.link.discards) _ (by simp) _ s, foldl_keeps (·.link.bus) _ (by simp) _ s,
   foldl_keeps (·.link.status) _ (by simp) _ s⟩

/-! ### The starts -/

@[simp] theorem presetHeld_keeps (s : State) :
    s.presetHeld.clock = s.clock ∧ s.presetHeld.pins = s.pins ∧ s.presetHeld.modes = s.modes ∧ s.presetHeld.fire = s.fire
      ∧ s.presetHeld.watch = s.watch ∧ s.presetHeld.doors = s.doors ∧ s.presetHeld.calls = s.calls
      ∧ s.presetHeld.table = s.table ∧ s.presetHeld.egress = s.egress ∧ s.presetHeld.light = s.light
      ∧ s.presetHeld.link = s.link ∧ s.presetHeld.start = s.start ∧ s.presetHeld.troubles = s.troubles
      ∧ s.presetHeld.buzzer = s.buzzer ∧ s.presetHeld.keys = s.keys ∧ s.presetHeld.raised = s.raised
      ∧ s.presetHeld.order = s.order ∧ s.presetHeld.pending = s.pending := by
  simp [State.presetHeld]

@[simp] theorem resumeHeld_keeps (s : State) :
    s.resumeHeld.clock = s.clock ∧ s.resumeHeld.pins = s.pins ∧ s.resumeHeld.modes = s.modes ∧ s.resumeHeld.fire = s.fire
      ∧ s.resumeHeld.watch = s.watch ∧ s.resumeHeld.doors = s.doors ∧ s.resumeHeld.calls = s.calls
      ∧ s.resumeHeld.table = s.table ∧ s.resumeHeld.egress = s.egress ∧ s.resumeHeld.light = s.light
      ∧ s.resumeHeld.link = s.link ∧ s.resumeHeld.start = s.start ∧ s.resumeHeld.troubles = s.troubles
      ∧ s.resumeHeld.buzzer = s.buzzer ∧ s.resumeHeld.keys = s.keys ∧ s.resumeHeld.raised = s.raised
      ∧ s.resumeHeld.order = s.order ∧ s.resumeHeld.pending = s.pending := by
  simp [State.resumeHeld]

@[simp] theorem markAjar_keeps (s : State) :
    s.markAjar.clock = s.clock ∧ s.markAjar.pins = s.pins ∧ s.markAjar.timers = s.timers ∧ s.markAjar.modes = s.modes
      ∧ s.markAjar.fire = s.fire ∧ s.markAjar.watch = s.watch ∧ s.markAjar.calls = s.calls
      ∧ s.markAjar.table = s.table ∧ s.markAjar.egress = s.egress ∧ s.markAjar.light = s.light
      ∧ s.markAjar.link = s.link ∧ s.markAjar.start = s.start ∧ s.markAjar.troubles = s.troubles
      ∧ s.markAjar.buzzer = s.buzzer ∧ s.markAjar.keys = s.keys ∧ s.markAjar.raised = s.raised
      ∧ s.markAjar.order = s.order ∧ s.markAjar.pending = s.pending ∧ s.markAjar.doors.passage = s.doors.passage :=
  ⟨rfl, rfl, rfl, rfl, rfl, rfl, rfl, rfl, rfl, rfl, rfl, rfl, rfl, rfl, rfl, rfl, rfl, rfl, rfl⟩

@[simp] theorem markAjar_door (s : State) (d : Fin 4) :
    s.markAjar.door d = { s.door d with ajar := s.ajarDue d && (s.door d).desc.isOwned } := by
  simp [State.markAjar, State.door]

/-- The troubles that held state calls for, entered one by one. -/
def troublesHeld (s : State) : State := s.heldTroubles.foldl State.enterTrouble s

@[simp] theorem troublesHeld_keeps (s : State) :
    (troublesHeld s).clock = s.clock ∧ (troublesHeld s).pins = s.pins ∧ (troublesHeld s).timers = s.timers
      ∧ (troublesHeld s).modes = s.modes ∧ (troublesHeld s).fire = s.fire ∧ (troublesHeld s).watch = s.watch
      ∧ (troublesHeld s).doors = s.doors ∧ (troublesHeld s).calls = s.calls ∧ (troublesHeld s).table = s.table
      ∧ (troublesHeld s).egress = s.egress ∧ (troublesHeld s).light = s.light ∧ (troublesHeld s).start = s.start
      ∧ (troublesHeld s).keys = s.keys ∧ (troublesHeld s).raised = s.raised ∧ (troublesHeld s).order = s.order
      ∧ (troublesHeld s).pending = s.pending := by
  simp [troublesHeld]

@[simp] theorem troublesHeld_traffic (s : State) :
    (troublesHeld s).link.offer = s.link.offer ∧ (troublesHeld s).link.sending = s.link.sending
      ∧ (troublesHeld s).link.faults = s.link.faults ∧ (troublesHeld s).link.quiet = s.link.quiet
      ∧ (troublesHeld s).link.discards = s.link.discards ∧ (troublesHeld s).link.bus = s.link.bus
      ∧ (troublesHeld s).link.calls = s.link.calls :=
  ⟨foldl_keeps (·.link.offer) _ (by simp) _ s, foldl_keeps (·.link.sending) _ (by simp) _ s,
   foldl_keeps (·.link.faults) _ (by simp) _ s, foldl_keeps (·.link.quiet) _ (by simp) _ s,
   foldl_keeps (·.link.discards) _ (by simp) _ s, foldl_keeps (·.link.bus) _ (by simp) _ s,
   foldl_keeps (·.link.calls) _ (by simp) _ s⟩

@[simp] theorem guardAtStart_traffic (s : State) :
    s.guardAtStart.link.offer = s.link.offer ∧ s.guardAtStart.link.sending = s.link.sending
      ∧ s.guardAtStart.link.faults = s.link.faults ∧ s.guardAtStart.link.quiet = s.link.quiet
      ∧ s.guardAtStart.link.discards = s.link.discards ∧ s.guardAtStart.link.bus = s.link.bus
      ∧ s.guardAtStart.link.calls = s.link.calls
      ∧ s.guardAtStart.watch = { s.watch with guard := if s.modes.mode = .night then .setting else s.watch.guard } := by
  unfold State.guardAtStart; split <;> simp

/-- R179: the good read that ends the CONFIG-READ of a cold start. -/
theorem configGood_cold {s : State} (img : Image) (h : s.start.kind = .cold) :
    s.configGood img = ((((s.takeImage img).setPhase .listen).startPeriods).guardAtStart).refreshLights := by
  simp [State.configGood, h]

/-- R181: the good read that ends the CONFIG-READ of a warm restart. -/
theorem configGood_warm {s : State} (img : Image) (h : s.start.kind = .warm) :
    s.configGood img =
      (((((troublesHeld (s.takeImage img)).markAjar.presetHeld).setPhase .relearn).startPeriods.resumeHeld)).refreshLights := by
  simp only [State.configGood, h]
  rfl

@[simp] theorem takeImage_keeps (s : State) (img : Image) :
    (s.takeImage img).clock = s.clock ∧ (s.takeImage img).pins = s.pins ∧ (s.takeImage img).timers = s.timers
      ∧ (s.takeImage img).modes = s.modes ∧ (s.takeImage img).egress = s.egress ∧ (s.takeImage img).light = s.light
      ∧ (s.takeImage img).troubles = s.troubles ∧ (s.takeImage img).buzzer = s.buzzer
      ∧ (s.takeImage img).keys = s.keys ∧ (s.takeImage img).raised = s.raised ∧ (s.takeImage img).order = s.order
      ∧ (s.takeImage img).pending = s.pending
      ∧ (s.takeImage img).start = { s.start with image := some img }
      ∧ (s.takeImage img).fire.state = s.fire.state ∧ (s.takeImage img).fire.phase = s.fire.phase
      ∧ (s.takeImage img).fire.firstLoop = s.fire.firstLoop ∧ (s.takeImage img).fire.evac = s.fire.evac
      ∧ (s.takeImage img).fire.silenced = s.fire.silenced ∧ (s.takeImage img).watch.guard = s.watch.guard
      ∧ (s.takeImage img).watch.round = s.watch.round ∧ (s.takeImage img).watch.localLatch = s.watch.localLatch
      ∧ (s.takeImage img).watch.intrusion = s.watch.intrusion ∧ (s.takeImage img).watch.buttons = s.watch.buttons
      ∧ (s.takeImage img).doors.passage = s.doors.passage
      ∧ (s.takeImage img).table = { entries := entriesOf img.doors, roster := s.table.roster }
      ∧ (s.takeImage img).link.calls = s.link.calls ∧ (s.takeImage img).link.offer = s.link.offer
      ∧ (s.takeImage img).link.sending = s.link.sending ∧ (s.takeImage img).link.faults = s.link.faults
      ∧ (s.takeImage img).link.quiet = s.link.quiet ∧ (s.takeImage img).link.discards = s.link.discards
      ∧ (s.takeImage img).link.bus = s.link.bus := by
  simp [State.takeImage]

@[simp] theorem takeImage_door (s : State) (img : Image) (d : Fin 4) :
    (s.takeImage img).door d = (s.door d).takeDesc img.doors[d] := by
  simp [State.takeImage, State.door]

@[simp] theorem takeImage_point (s : State) (img : Image) (p : Fin 4) :
    (s.takeImage img).point p = if p.val < img.points then s.point p else .idle := by
  simp [State.takeImage, State.point, State.rebuildList, State.setList]

end Sys2Proof.Proofs.PartFrames
end

section
/-! The verification record stands exactly in VERIFY, and VERIFY in PUBLIC alone (R20, R30). -/

namespace Sys2Proof.Proofs.Verification

open Sys2Proof Sys2Proof.Machine Sys2Proof.Proofs.PartFrames Sys2Proof.Proofs.Steps

theorem same {s t : State} (h : s.VerificationSound) (hs : t.fire.state = s.fire.state) (hp : t.fire.phase = s.fire.phase)
    (hf : t.fire.firstLoop = s.fire.firstLoop) (hm : t.modes.mode = s.modes.mode) : t.VerificationSound := by
  simpa only [State.VerificationSound, hs, hp, hf, hm] using h

theorem sound_of_not_verify {s : State} (hs : s.fire.state ≠ .verify) (hp : s.fire.phase = .none)
    (hf : s.fire.firstLoop = none) : s.VerificationSound := by
  simp [State.VerificationSound, hs, hp, hf]

/-- Where no verification is under way its record is absent. -/
theorem record_absent {s : State} (h : s.VerificationSound) (hs : s.fire.state ≠ .verify) :
    s.fire.phase = .none ∧ s.fire.firstLoop = none := by
  obtain ⟨hp, hf, -⟩ := h
  exact ⟨by simpa using (not_congr hp).1 hs, by simpa using (not_congr hf).1 hs⟩

theorem setFireState_sound {s : State} {f : FireState} (h : s.VerificationSound) (hs : s.fire.state ≠ .verify)
    (hf : f ≠ .verify) : (s.setFireState f).VerificationSound := by
  obtain ⟨hp, hl⟩ := record_absent h hs
  exact sound_of_not_verify (by simpa using hf) (by simpa using hp) (by simpa using hl)

/-- R24, R31: a verification ended leaves no record, whatever fire state other than VERIFY follows. -/
theorem ended_sound (s : State) {f : FireState} (hf : f ≠ .verify) : (s.endVerification.setFireState f).VerificationSound :=
  sound_of_not_verify (by simpa using hf) (by simp) (by simp)

theorem enterFire_sound {s : State} (h : s.fire.state = .fire → s.VerificationSound) : s.enterFire.VerificationSound := by
  unfold State.enterFire
  split
  next hs => exact h hs
  next => exact sound_of_not_verify (by simp) (by simp) (by simp)

theorem unlatchedFire_ne_verify (s : State) : s.unlatchedFire ≠ .verify := by
  unfold State.unlatchedFire; split <;> simp

theorem loopAlarm_sound (s : State) (l : Fin 6) (h : s.VerificationSound) : (s.loopAlarm l).VerificationSound := by
  have halarm : (if s.fire.loops[l].kind = .smoke ∧ s.smokeTrusted l = false then s.enterVerify l
      else s.enterFire).VerificationSound := by
    split
    next hk =>
      obtain ⟨-, htrust⟩ := hk
      have hpub : s.modes.mode = .pub := by simp [State.smokeTrusted] at htrust; exact htrust.2
      simp [State.VerificationSound, hpub]
    next => exact enterFire_sound fun _ => h
  unfold State.loopAlarm
  split
  · exact halarm
  · exact halarm
  · split
    · exact h
    · exact enterFire_sound fun _ => h
  · exact h

theorem ackVerification_sound (s : State) (h : s.VerificationSound) : s.ackVerification.VerificationSound := by
  unfold State.ackVerification
  split
  next hv =>
    obtain ⟨hs, -⟩ := hv
    obtain ⟨-, hf, hm⟩ := h
    simp [State.VerificationSound, hs, hf.1 hs, hm hs]
  next => exact h

theorem restoreFire_sound (s : State) (h : s.VerificationSound) : s.restoreFire.VerificationSound := by
  unfold State.restoreFire
  split
  · exact h
  next hs => exact setFireState_sound h (by simp [hs]) (unlatchedFire_ne_verify s)
  all_goals
    split
    · exact h
    · exact ended_sound s (unlatchedFire_ne_verify s)

theorem deliver_sound (fs : List (State → State)) (hf : ∀ f ∈ fs, ∀ s : State, s.VerificationSound → (f s).VerificationSound)
    (s : State) (h : s.VerificationSound) : (deliver fs s).VerificationSound :=
  deliver_induct State.VerificationSound (fun _ _ h => h) fs hf s h

/-- R10, R30: the fire unit takes the new mode, whichever unit takes it first. -/
theorem modeDelivered_sound (s : State) (m : Mode) (h : s.VerificationSound) : (modeDelivered s m).VerificationSound := by
  obtain ⟨hp, hf, -⟩ := h
  have hfire : ∀ t : State, (t.fire.state = .verify ↔ t.fire.phase ≠ .none) → (t.fire.state = .verify ↔ t.fire.firstLoop.isSome = true) →
      t.fireModeChange.VerificationSound := by
    intro t htp htf
    unfold State.fireModeChange
    split
    next hv => exact enterFire_sound fun hs => by rw [hv.1] at hs; cases hs
    next hv => exact ⟨htp, htf, fun hs => by_contra fun hm => hv ⟨hs, hm⟩⟩
  refine deliver_establishes (Q := fun t => (t.fire.state = .verify ↔ t.fire.phase ≠ .none)
      ∧ (t.fire.state = .verify ↔ t.fire.firstLoop.isSome = true)) _ State.fireModeChange (by simp)
    (fun _ _ h => h) (fun _ _ h => h) ?_ ?_ (fun t ht => hfire t ht.1 ht.2) _ ⟨hp, hf⟩
  all_goals
    simp only [List.mem_cons, List.not_mem_nil, or_false]
    rintro f (rfl | rfl) t ht
  · simpa using ht
  · obtain ⟨h1, h2, -⟩ := hfire t ht.1 ht.2
    exact ⟨h1, h2⟩
  · exact same ht (by simp) (by simp) (by simp) (by simp)
  · exact hfire t ht.1 ht.2.1

theorem changeMode_sound (s : State) (m : Mode) (h : s.VerificationSound) : (s.changeMode m).VerificationSound := by
  by_cases hm : s.modes.mode = m
  · subst hm; rwa [changeMode_same]
  · rw [changeMode_changed hm]
    exact same (modeDelivered_sound s m h) (by simp) (by simp) (by simp) (by simp)

theorem changeEntry_sound (s : State) (k : Fin 4) (old new : NbEntry) (h : s.VerificationSound) :
    (s.changeEntry k old new).VerificationSound := by
  rw [changeEntry_eq]
  refine deliver_sound _ ?_ _ (same h (by simp) (by simp) (by simp) (by simp))
  simp only [List.mem_cons, List.not_mem_nil, or_false]
  rintro f (rfl | rfl | rfl) t ht
  · unfold corroborateBy State.corroborate
    (repeat' split)
    · exact enterFire_sound fun _ => ht
    · exact ht
    · exact ht
  · exact same ht (by simp) (by simp) (by simp) (by simp)
  · exact same ht (by simp) (by simp) (by simp) (by simp)

theorem entryTakes_sound (s : State) (f : StatusFrame) (k : Fin 4) (h : s.VerificationSound) :
    (s.entryTakes f k).VerificationSound := by
  unfold State.entryTakes
  (repeat' split)
  · exact h
  · exact changeEntry_sound _ _ _ _ (same h (by simp) (by simp) (by simp) (by simp))
  · exact h

theorem fallMute_sound (s : State) (k : Fin 4) (h : s.VerificationSound) : (s.fallMute k).VerificationSound := by
  unfold State.fallMute
  (repeat' split)
  · exact h
  · exact h
  · exact changeEntry_sound _ _ _ _ h

theorem releaseWarm_sound (s : State) (h : s.VerificationSound) : s.releaseWarm.VerificationSound :=
  same h (by simp [State.releaseWarm]) (by simp [State.releaseWarm]) (by simp [State.releaseWarm])
    (by simp [State.releaseWarm])

theorem enterUnconfigured_sound (s : State) (h : s.VerificationSound) : s.enterUnconfigured.VerificationSound := by
  have h1 : (s.stripped.enterTrouble .config).VerificationSound := by
    refine same h ?_ ?_ ?_ ?_ <;> simp [State.stripped]
  have h2 : (s.stripped.enterTrouble .config).unconfiguredFire.VerificationSound := by
    unfold State.unconfiguredFire
    split
    · exact enterFire_sound fun _ => h1
    next hs => exact setFireState_sound h1 (by rw [hs]; simp) (by simp)
    · exact h1
    · exact h1
  refine same h2 ?_ ?_ ?_ ?_ <;> simp [State.enterUnconfigured]

theorem configGood_sound (s : State) (img : Image) (h : s.VerificationSound) : (s.configGood img).VerificationSound := by
  cases hk : s.start.kind with
  | cold => rw [configGood_cold img hk]; exact same h (by simp) (by simp) (by simp) (by simp)
  | warm => rw [configGood_warm img hk]; exact same h (by simp) (by simp) (by simp) (by simp)

theorem settle_sound (s : State) (h : s.VerificationSound) : s.settle.VerificationSound := by
  unfold State.settle
  split
  · exact h
  · exact changeMode_sound _ _ h

theorem beginRun_sound (s : State) (h : s.VerificationSound) : s.beginRun.VerificationSound := by
  have hd : (deliver [State.settle, State.firstEgress, State.release] (s.setPhase .run)).VerificationSound := by
    refine deliver_sound _ ?_ _ h
    simp only [List.mem_cons, List.not_mem_nil, or_false]
    rintro f (rfl | rfl | rfl) t ht
    · exact settle_sound t ht
    · exact same ht (by simp) (by simp) (by simp) (by simp)
    · exact same ht (by simp) (by simp) (by simp) (by simp)
  unfold State.beginRun
  dsimp only
  split <;> exact same hd (by simp) (by simp) (by simp) (by simp)

/-- R20, R30: every operation keeps the record; outside the fire unit, the mode unit, the neighbour table and the starts because
it writes neither the record nor the mode. -/
theorem kept : KeptByAll State.VerificationSound := by
  constructor
  case toKept =>
    constructor
    case quiet => exact fun q h => same h q.fireState q.verifyPhase q.firstLoop q.mode
    case loopAlarm => exact loopAlarm_sound
    case unlatched =>
      intro s hs h
      refine setFireState_sound h ?_ (unlatchedFire_ne_verify s)
      rcases hs with hs | hs <;> simp [hs]
    case enterFire => exact fun s _ h => enterFire_sound fun _ => h
    case ackVerification => exact ackVerification_sound
    case entryTakes => exact entryTakes_sound
    case fallMute => exact fallMute_sound
    case changeMode => exact changeMode_sound
    case frameOver => exact fun _ t _ _ _ h => releaseWarm_sound t.hold (same h rfl rfl rfl rfl)
    case releaseWarm => exact fun s _ _ => releaseWarm_sound s
    case enterUnconfigured => exact fun s _ _ => enterUnconfigured_sound s
    case configGood => exact fun s _ img _ _ _ => configGood_sound s img
    case beginRun => exact fun s _ _ => beginRun_sound s
    case buzzerSilenced | passageWithdrawn =>
      intro s h
      refine same h ?_ ?_ ?_ ?_ <;> simp [buzzerSilenced, passageWithdrawn]
    all_goals
      intros
      exact same ‹State.VerificationSound _› (by simp) (by simp) (by simp) (by simp)
  case cold => exact fun s => sound_of_not_verify (s := s.cold) (by simp [State.cold, State.reset]) rfl rfl
  case releaseCold =>
    exact fun s k1 k2 k3 => sound_of_not_verify (s := s.releaseCold k1 k2 k3)
      (by simp [State.releaseCold, State.cold, State.reset]) rfl rfl
  case restoreFire => exact fun s _ => restoreFire_sound s
  case restoreWatch => exact fun s h => same h (by simp) (by simp) (by simp) (by simp)
  case raiseCall => exact fun s p h => same h (by simp) (by simp) (by simp) (by simp)

/-- Settles O50. -/
theorem verificationStandsInPublicAlone : Obligations.VerificationStandsInPublicAlone :=
  fun _ _ h hstep => kept.step h hstep

end Sys2Proof.Proofs.Verification
end

section
/-! The fire roster names other stations, each once, and nobody where no frames are taken (R117, R119). -/

namespace Sys2Proof.Proofs.Roster

open Sys2Proof Sys2Proof.Machine Sys2Proof.Proofs.PartFrames Sys2Proof.Proofs.Steps

theorem same {s t : State} (h : s.RosterSound) (hr : t.table.roster = s.table.roster) (hi : t.start.image = s.start.image)
    (hp : t.start.phase = s.start.phase) : t.RosterSound := by
  simpa only [State.RosterSound, State.own, State.cfg, hr, hi, hp] using h

theorem sound_of_empty {s : State} (h : s.table.roster = []) : s.RosterSound := by
  simp [State.RosterSound, h]

/-- Fewer members, with other marks, in the same phase with the same own number. -/
theorem sound_of_sublist {s t : State} (h : s.RosterSound)
    (hr : (t.table.roster.map Member.station).Sublist (s.table.roster.map Member.station))
    (hi : t.start.image = s.start.image) (hp : t.start.phase = s.start.phase) : t.RosterSound := by
  obtain ⟨hnodup, hown, hempty⟩ := h
  refine ⟨hr.nodup hnodup, ?_, ?_⟩
  · simp only [State.own, State.cfg, hi]
    exact fun hm => hown (hr.subset hm)
  · rw [hp]
    intro hphase
    simpa [hempty hphase] using hr

theorem sound_of_perm_mark {s t : State} (h : s.RosterSound) (n : Station) (hn : n ∉ s.table.roster.map Member.station)
    (hown : n ≠ s.own) (hphase : s.hearing = true) (hr : t.table.roster.map Member.station = s.table.roster.map Member.station ++ [n])
    (hi : t.start.image = s.start.image) (hp : t.start.phase = s.start.phase) : t.RosterSound := by
  obtain ⟨hnodup, hnot, -⟩ := h
  refine ⟨?_, ?_, ?_⟩
  · rw [hr]
    exact List.nodup_append.2 ⟨hnodup, by simp, by rintro a ha b hb rfl; simp at hb; exact hn (hb ▸ ha)⟩
  · simp only [State.own, State.cfg, hi] at hnot ⊢
    rw [hr]
    simp only [List.mem_append, List.mem_singleton, not_or]
    exact ⟨hnot, fun he => hown he.symm⟩
  · rw [hp]
    rintro (hc | hc) <;> simp [State.hearing, hc] at hphase

theorem rosterTakes_sound (s : State) (f : StatusFrame) (hh : s.hearing = true) (hs : f.source ≠ s.own) (h : s.RosterSound) :
    (s.rosterTakes f).RosterSound := by
  unfold State.rosterTakes
  dsimp only
  split
  · split
    · refine sound_of_sublist h ?_ (by simp) (by simp)
      simp only [State.setRoster_table, List.map_map]
      refine (List.map_congr_left fun m _ => ?_).symm ▸ List.Sublist.refl _
      simp only [Function.comp_apply]
      split <;> rfl
    next hnew =>
      refine sound_of_perm_mark h f.source ?_ hs hh (by simp) (by simp) (by simp)
      simpa using hnew
  · split
    · refine sound_of_sublist h ?_ (by simp) (by simp)
      simpa using List.filter_sublist.map Member.station
    · exact h

theorem sweepRoster_sound (s : State) (h : s.RosterSound) : s.sweepRoster.RosterSound := by
  have hsub : ((s.table.roster.filter Member.mark).map fun m => ({ m with mark := false } : Member)).map Member.station
      |>.Sublist (s.table.roster.map Member.station) := by
    simpa [Function.comp_def] using List.filter_sublist.map Member.station
  unfold State.sweepRoster
  dsimp only
  split <;> exact sound_of_sublist h (by simpa using hsub) (by simp) (by simp)

theorem enterUnconfigured_roster (s : State) : s.enterUnconfigured.table.roster = [] := by
  simp [State.enterUnconfigured, State.stripped]

theorem releaseWarm_roster (s : State) : s.releaseWarm.table.roster = [] := by
  simp [State.releaseWarm]

theorem configGood_roster (s : State) (img : Image) : (s.configGood img).table.roster = s.table.roster := by
  cases hk : s.start.kind with
  | cold => rw [configGood_cold img hk]; simp
  | warm => rw [configGood_warm img hk]; simp

theorem beginRun_parts (s : State) :
    s.beginRun.start.phase = .run ∧ s.beginRun.start.image = s.start.image
      ∧ s.beginRun.link.sending = s.link.sending := by
  unfold State.beginRun; split <;> simp

/-- R117: every operation keeps the roster; only a STATUS adds a member, which is not this station. -/
theorem kept : KeptByAll State.RosterSound := by
  constructor
  case toKept =>
    constructor
    case quiet => exact fun q h => same h (by rw [q.table]) q.image q.startPhase
    case rosterTakes => exact rosterTakes_sound
    case sweepRoster => exact sweepRoster_sound
    case frameOver => exact fun _ t _ _ _ _ => sound_of_empty (releaseWarm_roster t.hold)
    case releaseWarm => exact fun s _ _ _ => sound_of_empty (releaseWarm_roster s)
    case enterUnconfigured => exact fun s _ _ _ => sound_of_empty (enterUnconfigured_roster s)
    case configGood =>
      intro s _ img _ hp _ h
      exact sound_of_empty ((configGood_roster s img).trans (h.2.2 (.inl hp)))
    case beginRun =>
      intro s _ _ h
      obtain ⟨hp, hi, -⟩ := beginRun_parts s
      obtain ⟨hnodup, hown, -⟩ := h
      refine ⟨by simpa using hnodup, by simpa [State.own, State.cfg, hi] using hown, ?_⟩
      simp [hp]
    case buzzerSilenced | passageWithdrawn =>
      intro s h
      refine same h ?_ ?_ ?_ <;> simp [buzzerSilenced, passageWithdrawn]
    all_goals
      intros
      exact same ‹State.RosterSound _› (by simp) (by simp) (by simp)
  case cold => exact fun s => sound_of_empty rfl
  case releaseCold => exact fun _ _ _ _ => sound_of_empty rfl
  case restoreFire => exact fun s _ h => same h (by simp) (by simp) (by simp)
  case restoreWatch => exact fun s h => same h (by simp) (by simp) (by simp)
  case raiseCall => exact fun s p h => same h (by simp) (by simp) (by simp)

/-- Settles O53. -/
theorem rosterNamesOtherStationsOnce : Obligations.RosterNamesOtherStationsOnce :=
  fun _ _ h hstep => kept.step h hstep

end Sys2Proof.Proofs.Roster
end

section
/-! Frames of this station are under way in RUN alone (R160), and the guard state fits the mode (R45 to R48). -/

namespace Sys2Proof.Proofs.GuardState

open Sys2Proof Sys2Proof.Machine Sys2Proof.Proofs.PartFrames Sys2Proof.Proofs.Steps

/-! ### Frames under way -/

theorem sending_same {s t : State} (h : s.SendingSound) (hs : t.link.sending.isSome = true → s.link.sending.isSome = true)
    (hp : t.start.phase = s.start.phase) : t.SendingSound := fun ht => hp.trans (h (hs ht))

theorem sending_none {t : State} (h : t.link.sending = none) : t.SendingSound := by simp [State.SendingSound, h]

/-- R160: outside RUN nothing is under way. -/
theorem none_of_phase {s : State} (h : s.SendingSound) (hp : s.start.phase ≠ .run) : s.link.sending = none := by
  by_contra hs
  exact hp (h (Option.isSome_iff_ne_none.2 hs))

theorem enterUnconfigured_sending (s : State) : s.enterUnconfigured.link.sending = s.link.sending := by
  have hguard : ∀ t : State, t.unconfiguredGuard.link.sending = t.link.sending := by
    intro t; unfold State.unconfiguredGuard; (repeat' split) <;> simp
  have hfire : ∀ t : State, t.unconfiguredFire.link.sending = t.link.sending := by
    intro t; unfold State.unconfiguredFire; split <;> simp
  simp [State.enterUnconfigured, hguard, hfire, State.stripped]

theorem configGood_sending (s : State) (img : Image) : (s.configGood img).link.sending = s.link.sending := by
  cases hk : s.start.kind with
  | cold => rw [configGood_cold img hk]; simp
  | warm => rw [configGood_warm img hk]; simp

theorem releaseWarm_sending (s : State) : s.releaseWarm.link.sending = none := by
  simp [State.releaseWarm, LinkUnit.initial]

theorem fallMute_phase (s : State) (k : Fin 4) : (s.fallMute k).start.phase = s.start.phase := by simp

/-- R160: only a begin puts a frame under way, and it begins in RUN. -/
theorem sending_kept : KeptByAll State.SendingSound := by
  constructor
  case toKept =>
    constructor
    case quiet => exact fun q h => sending_same h q.sending q.startPhase
    case beginFrame =>
      intro s h hs
      rcases beginFrame_sending s hs with hb | hrun
      · simpa using h hb
      · simpa using hrun
    case frameOver => exact fun _ t _ _ _ _ => sending_none (releaseWarm_sending t.hold)
    case releaseWarm => exact fun s _ _ _ => sending_none (releaseWarm_sending s)
    case enterUnconfigured =>
      exact fun s _ hp h => sending_none ((enterUnconfigured_sending s).trans (none_of_phase h (by simp [hp])))
    case configGood =>
      exact fun s _ img _ hp _ h => sending_none ((configGood_sending s img).trans (none_of_phase h (by simp [hp])))
    case beginRun => exact fun s _ _ _ _ => (Roster.beginRun_parts s).1
    case buzzerSilenced | passageWithdrawn =>
      intro s h
      refine sending_same h ?_ ?_ <;> simp [buzzerSilenced, passageWithdrawn]
    all_goals
      intros
      exact sending_same ‹State.SendingSound _› (by simp) (by simp)
  case cold => exact fun s => sending_none (t := s.cold) rfl
  case releaseCold => exact fun s k1 k2 k3 => sending_none (t := s.releaseCold k1 k2 k3) rfl
  all_goals
    intros
    exact sending_same ‹State.SendingSound _› (by simp) (by simp)

/-! ### The guard state -/

theorem guard_same {s t : State} (h : s.GuardSound) (hm : t.modes.mode = s.modes.mode) (hg : t.watch.guard = s.watch.guard)
    (hr : t.watch.round = s.watch.round) (hp : t.start.phase = s.start.phase) (hk : t.start.kind = s.start.kind)
    (hi : t.start.image = s.start.image) : t.GuardSound := by
  simpa only [State.GuardSound, hm, hg, hr, hp, hk, hi] using h

/-- R45: with no round the guard state has only to fit the mode. -/
theorem guard_of_no_round {t : State} (hr : t.watch.round = false) (hday : t.modes.mode ≠ .night → t.watch.guard = .opened)
    (hnight : t.modes.mode = .night → t.watch.guard ≠ .opened) (hc : t.start.phase = .configRead → t.start.kind ≠ .cold) :
    t.GuardSound := by
  refine ⟨hday, fun hm hg => absurd hg (hnight hm), fun h => ?_, fun hp hk => absurd hk (hc hp)⟩
  rw [hr] at h
  cases h

/-- R45: outside the CONFIG-READ of a cold start the guard state of NIGHT is not OPEN. -/
theorem guard_ne_opened {s : State} (h : s.GuardSound) (hc : ¬(s.start.phase = .configRead ∧ s.start.kind = .cold))
    (hm : s.modes.mode = .night) : s.watch.guard ≠ .opened := fun hg => hc (h.2.1 hm hg)

/-- R45: where the guard state is OPEN no round is walked. -/
theorem no_round {s : State} (h : s.GuardSound) (hg : s.watch.guard = .opened) : s.watch.round = false := by
  by_contra hr
  have hw := h.2.2.1 (by simpa using hr)
  rw [hg] at hw
  cases hw

/-- R46: the watch unit takes a change of the mode value: SETTING into NIGHT, OPEN out of it. -/
theorem changeMode_guard (s : State) (m : Mode) (h : s.GuardSound) : (s.changeMode m).GuardSound := by
  by_cases hm : s.modes.mode = m
  · subst hm; rwa [changeMode_same]
  rw [changeMode_changed hm]
  set t := (modeDelivered s m).replaceBase with ht
  have htm : t.modes.mode = m := by simp [ht]
  have htw : t.watch = s.watch := by simp [ht]
  have htp : t.start.phase = s.start.phase := by simp [ht]
  have htk : t.start.kind = s.start.kind := by simp [ht]
  have hti : t.start.image = s.start.image := by simp [ht]
  unfold State.watchModeChange
  split
  next hc =>
    rw [htp, htk] at hc
    obtain ⟨himage, hopen⟩ := h.2.2.2 hc.1 hc.2
    refine ⟨fun _ => by rw [htw, hopen], fun _ _ => by rw [htp, htk]; exact hc, ?_, fun _ _ => by rw [hti, htw]; exact ⟨himage, hopen⟩⟩
    rw [htw, no_round h hopen]
    simp
  next hc =>
    have hcold : ∀ u : State, u.start.phase = t.start.phase → u.start.kind = t.start.kind →
        u.start.phase = .configRead → u.start.kind ≠ .cold := fun u hup huk hp hk => hc ⟨hup ▸ hp, huk ▸ hk⟩
    split
    next hnight =>
      have hopen : s.watch.guard = .opened := h.1 fun hs => hm (hs.trans (htm ▸ hnight.symm))
      refine guard_of_no_round ?_ ?_ ?_ (hcold _ (by simp) (by simp))
      · simpa [htw] using no_round h hopen
      · simp [hnight]
      · simp
    next hday =>
      split
      next => exact guard_of_no_round (by simp) (by simp) (by simp [hday]) (hcold _ (by simp) (by simp))
      next hold =>
        have hopen : s.watch.guard = .opened := h.1 hold
        refine guard_of_no_round ?_ (fun _ => ?_) (fun hn => absurd hn hday) (hcold _ rfl rfl)
        · rw [htw]; exact no_round h hopen
        · rw [htw]; exact hopen

/-- R46, R181: after a warm restart the guard state is the one held, which fitted the mode. -/
theorem releaseWarm_guard (s : State) (h : s.GuardSound) (hc : ¬(s.start.phase = .configRead ∧ s.start.kind = .cold)) :
    s.releaseWarm.GuardSound := by
  refine guard_of_no_round ?_ ?_ ?_ ?_
  · simp [State.releaseWarm]
  · simpa [State.releaseWarm] using h.1
  · simpa [State.releaseWarm] using guard_ne_opened h hc
  · simp [State.releaseWarm]

theorem not_coldRead_of_held {s : State} (h : s.GuardSound) (hh : s.heldIsCold = false) :
    ¬(s.start.phase = .configRead ∧ s.start.kind = .cold) := by
  rintro ⟨hp, hk⟩
  obtain ⟨himage, -⟩ := h.2.2.2 hp hk
  simp [State.heldIsCold, hp, hk, himage] at hh

/-- R45, R56: SETTING at a start in NIGHT. -/
theorem guardAtStart_guard (t : State) (h : t.modes.mode ≠ .night → t.watch.guard = .opened) (hr : t.watch.round = false)
    (hp : t.start.phase ≠ .configRead) : t.guardAtStart.GuardSound := by
  refine guard_of_no_round (by simpa using hr) ?_ ?_ (fun hc => absurd (by simpa using hc) hp)
  · intro hm
    have hm' : t.modes.mode ≠ .night := by simpa using hm
    simpa [hm'] using h hm'
  · intro hm
    have hm' : t.modes.mode = .night := by simpa using hm
    simp [hm']

theorem enterUnconfigured_guard (s : State) (hp : s.start.phase = .configRead) (h : s.GuardSound) :
    s.enterUnconfigured.GuardSound := by
  set t := (s.stripped.enterTrouble .config).unconfiguredFire.recomputeEvac with ht
  have hfire : ∀ u : State, u.unconfiguredFire.start.phase = u.start.phase ∧ u.unconfiguredFire.start.kind = u.start.kind := by
    intro u; unfold State.unconfiguredFire; split <;> simp
  have htm : t.modes.mode = s.modes.mode := by simp [ht, State.stripped]
  have htg : t.watch.guard = s.watch.guard := by simp [ht, State.stripped]
  have htr : t.watch.round = s.watch.round := by simp [ht, State.stripped]
  have htp : t.start.phase = .unconfigured := by simp [ht, State.stripped, hfire]
  have htk : t.start.kind = s.start.kind := by simp [ht, State.stripped, hfire]
  have hday : t.modes.mode ≠ .night → t.watch.guard = .opened := by rw [htm, htg]; exact h.1
  have hu : t.unconfiguredGuard.GuardSound := by
    unfold State.unconfiguredGuard
    split
    next hk =>
      obtain ⟨-, hopen⟩ := h.2.2.2 hp (htk ▸ hk)
      exact guardAtStart_guard t hday (htr.trans (no_round h hopen)) (by simp [htp])
    next hk =>
      have hsame : t.GuardSound := by
        refine ⟨hday, fun hm hg => ?_, by rw [htr, htg]; exact h.2.2.1, fun hc => by simp [htp] at hc⟩
        obtain ⟨-, hcold⟩ := h.2.1 (htm ▸ hm) (htg ▸ hg)
        rw [← htk, hk] at hcold
        cases hcold
      split
      · exact guard_same hsame (by simp) (by simp) (by simp) (by simp) (by simp) (by simp)
      · exact hsame
  exact guard_same hu (by simp [State.enterUnconfigured, ht]) (by simp [State.enterUnconfigured, ht])
    (by simp [State.enterUnconfigured, ht]) (by simp [State.enterUnconfigured, ht])
    (by simp [State.enterUnconfigured, ht]) (by simp [State.enterUnconfigured, ht])

theorem configGood_guard (s : State) (img : Image) (hp : s.start.phase = .configRead) (h : s.GuardSound) :
    (s.configGood img).GuardSound := by
  cases hk : s.start.kind with
  | cold =>
    obtain ⟨-, hopen⟩ := h.2.2.2 hp hk
    rw [configGood_cold img hk]
    set t := ((s.takeImage img).setPhase .listen).startPeriods with ht
    have hguard : t.guardAtStart.GuardSound :=
      guardAtStart_guard t (fun _ => by simpa [ht] using hopen) (by simpa [ht] using no_round h hopen) (by simp [ht])
    exact guard_same hguard (by simp) (by simp) (by simp) (by simp) (by simp) (by simp)
  | warm =>
    have hne := guard_ne_opened h (by simp [hk])
    rw [configGood_warm img hk]
    refine ⟨by simpa using h.1, fun hm hg => absurd (by simpa using hg) (hne (by simpa using hm)), by simpa using h.2.2.1, ?_⟩
    simp

theorem settle_guard (s : State) (h : s.GuardSound) : s.settle.GuardSound := by
  unfold State.settle
  split
  · exact h
  · exact changeMode_guard _ _ h

theorem beginRun_guard (s : State) (hl : s.listening = true) (h : s.GuardSound) : s.beginRun.GuardSound := by
  have hrun : (s.setPhase .run).GuardSound := by
    have hphase : s.start.phase ≠ .configRead := by
      intro hp; simp [State.listening, hp] at hl
    exact ⟨h.1, fun hm hg => absurd (h.2.1 hm hg).1 hphase, h.2.2.1, by simp⟩
  have hd : (deliver [State.settle, State.firstEgress, State.release] (s.setPhase .run)).GuardSound := by
    refine deliver_induct State.GuardSound (fun _ _ h => h) _ ?_ _ hrun
    simp only [List.mem_cons, List.not_mem_nil, or_false]
    rintro f (rfl | rfl | rfl) t ht
    · exact settle_guard t ht
    · exact guard_same ht (by simp) (by simp) (by simp) (by simp) (by simp) (by simp)
    · exact guard_same ht (by simp) (by simp) (by simp) (by simp) (by simp) (by simp)
  unfold State.beginRun
  dsimp only
  split <;> exact guard_same hd (by simp) (by simp) (by simp) (by simp) (by simp) (by simp)

theorem guardWatch_guard (s : State) (h : s.GuardSound) : s.guardWatch.GuardSound := by
  unfold State.guardWatch
  split
  · exact h
  · exact guard_same h (by simp) (by simp) (by simp) (by simp) (by simp) (by simp)
  next hg => exact ⟨by simpa using h.1, by simp [hg], by simp [hg], by simpa [hg] using h.2.2.2⟩

/-- R47: the exit delay ends in WATCHING, in the mode that SETTING fitted. -/
theorem guardSet_guard (s : State) (hg : s.watch.guard = .setting) (h : s.GuardSound) : (s.setGuard .watching).GuardSound := by
  obtain ⟨hday, -, -, hcold⟩ := h
  refine ⟨fun hm => ?_, by simp, by simp, fun hp hk => ?_⟩
  · have hopen := hday (by simpa using hm)
    rw [hg] at hopen; cases hopen
  · obtain ⟨-, hopen⟩ := hcold (by simpa using hp) (by simpa using hk)
    rw [hg] at hopen; cases hopen

theorem endRound_guard (s : State) (h : s.GuardSound) : s.endRound.GuardSound :=
  ⟨by simpa using h.1, by simpa using h.2.1, by simp, by simpa using h.2.2.2⟩

/-- R45 to R48: every operation keeps the guard state fitting, while frames of this station are under way in RUN alone. -/
theorem guard_kept : KeptByAll fun s => s.SendingSound ∧ s.GuardSound := by
  have S := sending_kept
  constructor
  case toKept =>
    constructor
    case quiet =>
      exact fun q h => ⟨S.quiet q h.1, guard_same h.2 q.mode q.guard q.round q.startPhase q.kind q.image⟩
    case changeMode => exact fun s m h => ⟨S.changeMode s m h.1, changeMode_guard s m h.2⟩
    case guardWatch => exact fun s hk h => ⟨S.guardWatch s hk h.1, guardWatch_guard s h.2⟩
    case guardSet => exact fun s hg h => ⟨S.guardSet s hg h.1, guardSet_guard s hg h.2⟩
    case endRound => exact fun s h => ⟨S.endRound s h.1, endRound_guard s h.2⟩
    case frameOver =>
      intro s t hsend hstart h ht
      have hrun : t.start.phase = .run := by rw [hstart]; exact h.1 hsend
      refine ⟨sending_none (releaseWarm_sending t.hold), releaseWarm_guard t.hold ht.2 ?_⟩
      rintro ⟨hc, -⟩
      rw [show t.hold.start.phase = t.start.phase from rfl, hrun] at hc
      cases hc
    case releaseWarm =>
      exact fun s hc hh h => ⟨S.releaseWarm s hc hh h.1, releaseWarm_guard s h.2 (not_coldRead_of_held h.2 hh)⟩
    case enterUnconfigured =>
      exact fun s hl hp h => ⟨S.enterUnconfigured s hl hp h.1, enterUnconfigured_guard s hp h.2⟩
    case configGood => exact fun s t img hl hp hj h => ⟨S.configGood s t img hl hp hj h.1, configGood_guard s img hp h.2⟩
    case beginRun => exact fun s hl hp h => ⟨S.beginRun s hl hp h.1, beginRun_guard s hp h.2⟩
    case beginFrame =>
      exact fun s h => ⟨S.beginFrame s h.1, guard_same h.2 (by simp) (by simp) (by simp) (by simp) (by simp) (by simp)⟩
    case buzzerSilenced | passageWithdrawn =>
      intro s h
      refine ⟨sending_same h.1 ?_ ?_, guard_same h.2 ?_ ?_ ?_ ?_ ?_ ?_⟩ <;> simp [buzzerSilenced, passageWithdrawn]
    all_goals
      intros
      rename_i h
      refine ⟨?_, ?_⟩
      · exact sending_same h.1 (by simp) (by simp)
      · exact guard_same h.2 (by simp) (by simp) (by simp) (by simp) (by simp) (by simp)
  case cold => exact fun s => ⟨S.cold s, by simp [State.GuardSound, State.cold, State.reset]⟩
  case releaseCold =>
    exact fun s k1 k2 k3 => ⟨S.releaseCold s k1 k2 k3, by simp [State.GuardSound, State.releaseCold, State.cold, State.reset]⟩
  all_goals
    intros
    rename_i h
    refine ⟨?_, ?_⟩
    · exact sending_same h.1 (by simp) (by simp)
    · exact guard_same h.2 (by simp) (by simp) (by simp) (by simp) (by simp) (by simp)

/-- Settles O51. -/
theorem guardStateFitsTheMode : Obligations.GuardStateFitsTheMode :=
  ⟨fun _ _ h hstep => sending_kept.step h hstep, fun _ _ hs hg hstep => (guard_kept.step ⟨hs, hg⟩ hstep).2⟩

end Sys2Proof.Proofs.GuardState
end

section
/-! The operations of the door unit and the watch unit, cut where another unit's part begins. -/

namespace Sys2Proof.Proofs.PartFrames

open Sys2Proof Sys2Proof.Machine

/-- R83: the freeze flag cleared. -/
def freezeEnded (s : State) : State := { s with start := { s.start with freeze := false } }

/-- R83: the freeze ended, and the door unit's share of the release. -/
def thawed (s : State) : State :=
  deliver (((freezeEnded s).ownedDoors.filter fun d => ((freezeEnded s).door d).keep).map fun d t => t.resolve d) (freezeEnded s)

theorem release_same {s : State} (h : s.start.freeze = false) : s.release = s := by simp [State.release, h]

theorem release_frozen {s : State} (h : s.start.freeze = true) : s.release = (thawed s).refreshLights := by
  simp only [State.release, h, Bool.not_true, Bool.false_eq_true, if_false]
  rfl

/-- R69: what the position CLOSED changes of itself. -/
def doorShut (s : State) (d : Fin 4) : State :=
  (((s.setDoor d { s.door d with position := some .closed, filter := Filter.clear, phase := some .shut
                                 deferred := false, ajar := false }).stopTimer (.door d)).markStatus).removeTroubles
    fun t => t == .doorBlocked d || t == .doorPosition d

theorem doorCloses_eq (s : State) (d : Fin 4) : s.doorCloses d = ((doorShut s d).driveLock d).driveHold d := rfl

/-- R70: what the position OPEN changes before the outputs are driven. -/
def doorAway (s : State) (d : Fin 4) : State :=
  ((s.setDoor d { s.door d with position := some .opened, filter := Filter.clear }).markStatus).removeTrouble (.doorPosition d)

/-- R70: the phase of an opened door, from its outputs. -/
def phaseByOutputs (r : DoorRec) : DoorPhase :=
  match r.lock, r.hold with
  | .locked, _ => .forced
  | .free, .holding => .held
  | .free, .dropped => .opened

/-- R70: the outputs of an opened door driven. -/
def doorDriven (s : State) (d : Fin 4) : State := ((doorAway s d).driveLock d).driveHold d

theorem doorOpens_eq (s : State) (d : Fin 4) : s.doorOpens d =
    ((doorDriven s d).setDoor d { (doorDriven s d).door d with phase := some (phaseByOutputs ((doorDriven s d).door d)) }).ajarUpdate
      d := by
  unfold phaseByOutputs doorDriven doorAway
  rfl

/-- R71: what the position UNKNOWN changes of itself. -/
def doorUnsensed (s : State) (d : Fin 4) : State :=
  ((((s.setDoor d { s.door d with position := some .unknown, filter := Filter.clear, phase := some .unsensed
                                  ajar := false }).stopTimer (.door d)).markStatus).removeTrouble (.doorBlocked d)).enterTrouble
    (.doorPosition d)

theorem doorLost_eq (s : State) (d : Fin 4) : s.doorLost d = ((doorUnsensed s d).driveLock d).driveHold d := rfl

/-- R80: the phase of a first reading, from the position and the outputs FREE and DROPPED. -/
def phaseAtReading : Position → DoorPhase
  | .closed => .shut
  | .opened => .opened
  | .unknown => .unsensed

/-- R80: what the first reading changes before the door is resolved. -/
def doorRead (s : State) (d : Fin 4) (p : Position) : State :=
  let s1 := (s.setDoor d { s.door d with position := some p, filter := Filter.clear, phase := some (phaseAtReading p) }).markStatus
  if p = .unknown then s1.enterTrouble (.doorPosition d) else s1

theorem firstReading_eq (s : State) (d : Fin 4) (p : Position) : s.firstReading d p = (doorRead s d p).resolve d := rfl

/-- R73: what the end of the travel limit changes before the hold is driven. -/
def doorStuck (s : State) (d : Fin 4) : State :=
  (s.setDoor d { s.door d with phase := some .blocked }).enterTrouble (.doorBlocked d)

theorem travelLapse_closing {s : State} {d : Fin 4} (h : (s.door d).phase = some .closing) :
    s.travelLapse d = ((doorStuck s d).driveHold d).ajarUpdate d := by
  simp only [State.travelLapse, h, if_true]; rfl

theorem travelLapse_same {s : State} {d : Fin 4} (h : (s.door d).phase ≠ some .closing) : s.travelLapse d = s := by
  simp [State.travelLapse, h]

/-- R52: the local latch cleared. -/
def localCleared (s : State) : State := { s with watch := { s.watch with localLatch := false } }

/-- R52: both latches cleared, and the scene INTRUSION gone. -/
def latchesCleared (s : State) : State :=
  State.removeScene { s with watch := { s.watch with localLatch := false, intrusion := false } } .intrusion

theorem restoreWatch_cleared {s : State} (h : s.watch.intrusion = true ∧ s.inputActive = false) :
    s.restoreWatch = (latchesCleared s).resolveAll.markStatus := by
  obtain ⟨hi, ha⟩ := h
  simp only [State.restoreWatch, hi, ha]
  rfl

theorem restoreWatch_kept {s : State} (h : ¬(s.watch.intrusion = true ∧ s.inputActive = false)) :
    s.restoreWatch = localCleared s := by
  have hc : (s.watch.intrusion && !s.inputActive) = false := by
    rw [← Bool.not_eq_true]; simpa using h
  simp only [State.restoreWatch, hc]
  rfl

/-- R51: the intrusion latch set and its scene pushed. -/
def alerted (s : State) : State := State.pushScene { s with watch := { s.watch with intrusion := true } } .intrusion

theorem respondAlert_set {s : State} (h : s.watch.intrusion = true) : s.respondAlert = s := by simp [State.respondAlert, h]

theorem respondAlert_clear {s : State} (h : s.watch.intrusion = false) :
    s.respondAlert = (alerted s).resolveAll.markStatus := by
  simp only [State.respondAlert, h]; rfl

@[simp] theorem freezeEnded_keeps (s : State) :
    (freezeEnded s).modes = s.modes ∧ (freezeEnded s).fire = s.fire ∧ (freezeEnded s).watch = s.watch
      ∧ (freezeEnded s).doors = s.doors ∧ (freezeEnded s).calls = s.calls ∧ (freezeEnded s).table = s.table
      ∧ (freezeEnded s).egress = s.egress ∧ (freezeEnded s).light = s.light ∧ (freezeEnded s).link = s.link
      ∧ (freezeEnded s).start = { s.start with freeze := false } ∧ (freezeEnded s).troubles = s.troubles
      ∧ (freezeEnded s).buzzer = s.buzzer ∧ (freezeEnded s).keys = s.keys ∧ (freezeEnded s).pins = s.pins
      ∧ (freezeEnded s).timers = s.timers ∧ (freezeEnded s).clock = s.clock ∧ (freezeEnded s).raised = s.raised
      ∧ (freezeEnded s).pending = s.pending :=
  ⟨rfl, rfl, rfl, rfl, rfl, rfl, rfl, rfl, rfl, rfl, rfl, rfl, rfl, rfl, rfl, rfl, rfl, rfl⟩

@[simp] theorem thawed_keeps (s : State) :
    (thawed s).modes = s.modes ∧ (thawed s).fire = s.fire ∧ (thawed s).watch = s.watch ∧ (thawed s).table = s.table
      ∧ (thawed s).start = { s.start with freeze := false } ∧ (thawed s).troubles = s.troubles
      ∧ (thawed s).buzzer = s.buzzer ∧ (thawed s).light.base = s.light.base ∧ (thawed s).light.above = s.light.above
      ∧ (thawed s).doors.passage = s.doors.passage ∧ (thawed s).keys = s.keys ∧ (thawed s).pins = s.pins
      ∧ (thawed s).clock = s.clock ∧ (thawed s).raised = s.raised ∧ (thawed s).pending = s.pending := by
  unfold thawed
  generalize (freezeEnded s).ownedDoors.filter _ = l
  simp

@[simp] theorem doorShut_keeps (s : State) (d : Fin 4) :
    (doorShut s d).modes = s.modes ∧ (doorShut s d).fire = s.fire ∧ (doorShut s d).watch = s.watch
      ∧ (doorShut s d).calls = s.calls ∧ (doorShut s d).table = s.table ∧ (doorShut s d).egress = s.egress
      ∧ (doorShut s d).light = s.light ∧ (doorShut s d).start = s.start
      ∧ (doorShut s d).doors.passage = s.doors.passage := by
  simp [doorShut]

@[simp] theorem doorAway_keeps (s : State) (d : Fin 4) :
    (doorAway s d).modes = s.modes ∧ (doorAway s d).fire = s.fire ∧ (doorAway s d).watch = s.watch
      ∧ (doorAway s d).calls = s.calls ∧ (doorAway s d).table = s.table ∧ (doorAway s d).egress = s.egress
      ∧ (doorAway s d).light = s.light ∧ (doorAway s d).start = s.start
      ∧ (doorAway s d).timers = s.timers ∧ (doorAway s d).doors.passage = s.doors.passage := by
  simp [doorAway]

@[simp] theorem doorUnsensed_keeps (s : State) (d : Fin 4) :
    (doorUnsensed s d).modes = s.modes ∧ (doorUnsensed s d).fire = s.fire ∧ (doorUnsensed s d).watch = s.watch
      ∧ (doorUnsensed s d).calls = s.calls ∧ (doorUnsensed s d).table = s.table ∧ (doorUnsensed s d).egress = s.egress
      ∧ (doorUnsensed s d).light = s.light ∧ (doorUnsensed s d).start = s.start
      ∧ (doorUnsensed s d).doors.passage = s.doors.passage := by
  simp [doorUnsensed]

@[simp] theorem doorRead_keeps (s : State) (d : Fin 4) (p : Position) :
    (doorRead s d p).modes = s.modes ∧ (doorRead s d p).fire = s.fire ∧ (doorRead s d p).watch = s.watch
      ∧ (doorRead s d p).calls = s.calls ∧ (doorRead s d p).table = s.table ∧ (doorRead s d p).egress = s.egress
      ∧ (doorRead s d p).light = s.light ∧ (doorRead s d p).start = s.start
      ∧ (doorRead s d p).timers = s.timers ∧ (doorRead s d p).doors.passage = s.doors.passage := by
  unfold doorRead; dsimp only; split <;> simp

@[simp] theorem doorStuck_keeps (s : State) (d : Fin 4) :
    (doorStuck s d).modes = s.modes ∧ (doorStuck s d).fire = s.fire ∧ (doorStuck s d).watch = s.watch
      ∧ (doorStuck s d).calls = s.calls ∧ (doorStuck s d).table = s.table ∧ (doorStuck s d).egress = s.egress
      ∧ (doorStuck s d).light = s.light ∧ (doorStuck s d).start = s.start
      ∧ (doorStuck s d).timers = s.timers ∧ (doorStuck s d).doors.passage = s.doors.passage := by
  simp [doorStuck]

@[simp] theorem latchesCleared_keeps (s : State) :
    (latchesCleared s).modes = s.modes ∧ (latchesCleared s).fire = s.fire
      ∧ (latchesCleared s).watch = { s.watch with localLatch := false, intrusion := false }
      ∧ (latchesCleared s).doors = s.doors ∧ (latchesCleared s).calls = s.calls ∧ (latchesCleared s).table = s.table
      ∧ (latchesCleared s).egress = s.egress ∧ (latchesCleared s).start = s.start ∧ (latchesCleared s).link = s.link
      ∧ (latchesCleared s).timers = s.timers ∧ (latchesCleared s).light.base = s.light.base
      ∧ (latchesCleared s).light.above = s.light.above.erase .intrusion := by
  simp [latchesCleared]

@[simp] theorem alerted_keeps (s : State) :
    (alerted s).modes = s.modes ∧ (alerted s).fire = s.fire ∧ (alerted s).watch = { s.watch with intrusion := true }
      ∧ (alerted s).doors = s.doors ∧ (alerted s).calls = s.calls ∧ (alerted s).table = s.table
      ∧ (alerted s).egress = s.egress ∧ (alerted s).start = s.start ∧ (alerted s).link = s.link
      ∧ (alerted s).timers = s.timers ∧ (alerted s).light.base = s.light.base
      ∧ (alerted s).light.above = pushed s.cfg.depth .intrusion s.light.above := by
  simp [alerted, State.cfg]

/-! ### A call point's record -/

theorem point_congr {s t : State} (h : t.calls = s.calls) (p : Fin 4) : t.point p = s.point p := by simp [State.point, h]

@[simp] theorem markCall_point (s : State) (q p : Fin 4) : (s.markCall q).point p = s.point p := rfl

@[simp] theorem markStatus_point (s : State) (p : Fin 4) : s.markStatus.point p = s.point p := rfl

@[simp] theorem present_point (s : State) (o : OneShot) (p : Fin 4) : (s.present o).point p = s.point p := rfl

@[simp] theorem dropEntries_point (s : State) (g : CallEntry → Bool) (p : Fin 4) : (s.dropEntries g).point p = s.point p := rfl

@[simp] theorem syncEntry_point (s : State) (q p : Fin 4) : (s.syncEntry q).point p = s.point p := rfl

@[simp] theorem setOffered_point (s : State) (id : CallId) (b : Bool) (p : Fin 4) : (s.setOffered id b).point p = s.point p := rfl

@[simp] theorem insertEntry_point (s : State) (e : CallEntry) (p : Fin 4) : (s.insertEntry e).point p = s.point p := rfl

@[simp] theorem rebuildList_point (s : State) (p : Fin 4) : s.rebuildList.point p = s.point p := rfl

@[simp] theorem stopTimer_point (s : State) (c : Chan) (p : Fin 4) : (s.stopTimer c).point p = s.point p := rfl

@[simp] theorem startTimer_point (s : State) (c : Chan) (n : Nat) (rate : TickRate) (kind : ChanKind) (m : Nat) (p : Fin 4) :
    (s.startTimer c n rate kind m).point p = s.point p := point_congr (by simp) p

@[simp] theorem startEscalation_point (s : State) (q p : Fin 4) : (s.startEscalation q).point p = s.point p :=
  point_congr (by simp) p

@[simp] theorem startAttend_point (s : State) (q p : Fin 4) : (s.startAttend q).point p = s.point p := point_congr (by simp) p

@[simp] theorem enterTrouble_point (s : State) (x : Trouble) (p : Fin 4) : (s.enterTrouble x).point p = s.point p :=
  point_congr (by simp) p

@[simp] theorem insertLocal_point (s : State) (q p : Fin 4) : (s.insertLocal q).point p = s.point p := by
  unfold State.insertLocal; (repeat' split) <;> simp

@[simp] theorem sweepCalls_point (s : State) (p : Fin 4) : s.sweepCalls.point p = s.point p := rfl

@[simp] theorem takeNotice_point (s : State) (id : CallId) (x : BitVec 2) (n : Nat) (a : Station) (p : Fin 4) :
    (s.takeNotice id x n a).point p = s.point p := by
  unfold State.takeNotice; dsimp only; (repeat' split) <;> simp

/-! ### The warm restart -/

/-- R181: every unit at what it holds over a warm restart, before the levels are computed again. -/
def heldOver (s : State) : State :=
  { s with
    pins := { s.pins with reset := false }
    timers := s.timers.stopAll
    modes := { s.modes with keyReading := readingOf s.modes.keyPosition, keyFilter := Filter.clear }
    fire := { s.fire with
      loops := Vector.ofFn fun l => { s.fire.loops[l] with filter := Filter.clear }
      evac := s.fire.state == .fire, silenced := false }
    watch := { s.watch with
      inputs := Vector.ofFn fun i => { s.watch.inputs[i] with filter := Filter.clear }
      round := false, buttons := Vector.replicate 4 .released }
    doors := { records := Vector.ofFn fun d => s.doors.records[d].held, passage := false }
    calls := { s.calls with points := Vector.ofFn fun p => s.calls.points[p].heldOver }
    table := { entries := Vector.ofFn fun k => s.table.entries[k].map fun e => NbEntry.unheard e.station, roster := [] }
    egress := .uncomputed
    light := { s.light with
      base := baseScene s.modes.mode
      above := (if s.watch.intrusion then [.intrusion] else []) ++ (if s.fire.state == .fire then [.evacuate] else []) }
    link := .initial
    start := { s.start with
      phase := .configRead, kind := .warm, condition := .none, freeze := !(s.fire.state == .fire), attempts := 0
      request := .none }
    troubles := { record := [], silenced := false }
    buzzer := { Buzzer.silent with verify := if s.fire.phase = .ackWindow then some 0 else none }
    keys := .released
    raised := [] }

theorem releaseWarm_eq (s : State) : s.releaseWarm = ((heldOver s).rebuildList.relevelAll).refreshLights := rfl

@[simp] theorem heldOver_point (s : State) (p : Fin 4) : (heldOver s).point p = (s.point p).heldOver := by
  simp [heldOver, State.point]

@[simp] theorem heldOver_door (s : State) (d : Fin 4) : (heldOver s).door d = (s.door d).held := by
  simp [heldOver, State.door]

end Sys2Proof.Proofs.PartFrames
end

section
/-! What happens to the call unit where another unit's operation reaches it: the levels of the open points are computed again (R87) and
nothing else changes. -/

namespace Sys2Proof.Proofs.CallReach

open Sys2Proof Sys2Proof.Machine Sys2Proof.Proofs.PartFrames Sys2Proof.Proofs.Steps

/-- A property of the call unit, for a configuration, that a recomputation of one level keeps. -/
structure CallsKept (P : State → Prop) : Prop where
  same : ∀ {s t : State}, P s → t.calls = s.calls → t.start.image = s.start.image → P t
  relevel : ∀ s p, P s → P (s.relevel p)

namespace CallsKept

variable {P : State → Prop} (C : CallsKept P)

include C

theorem deliver (fs : List (State → State)) (hf : ∀ f ∈ fs, ∀ s, P s → P (f s)) (s : State) (h : P s) :
    P (Machine.deliver fs s) := deliver_induct P (fun _ _ h => C.same h rfl rfl) fs hf s h

theorem relevelAll (s : State) (h : P s) : P s.relevelAll := by
  refine C.deliver _ (fun f hf t ht => ?_) s h
  obtain ⟨p, -, rfl⟩ := List.mem_map.1 hf
  exact C.relevel t p ht

/-- R132: the call unit takes a changed cost. -/
theorem takeEgress (s : State) (new : EgressUnit) (first : Bool) (h : P s) : P (s.takeEgress new first) := by
  have h1 : P { s with egress := new } := C.same h rfl rfl
  unfold State.takeEgress
  dsimp only
  refine C.same ?_ (s := if first || s.egress.cost != new.cost then
    (if first || s.egress.cost != new.cost || s.egress.via != new.via || s.egress.chosen != new.chosen then
      State.markStatus { s with egress := new } else { s with egress := new }).relevelAll
    else if first || s.egress.cost != new.cost || s.egress.via != new.via || s.egress.chosen != new.chosen then
      State.markStatus { s with egress := new } else { s with egress := new }) (by simp) (by simp)
  (repeat' split)
  · exact C.relevelAll _ (C.same h1 (by simp) (by simp))
  · exact C.relevelAll _ h1
  · exact C.same h1 (by simp) (by simp)
  · exact h1

theorem recomputeEgress (s : State) (h : P s) : P s.recomputeEgress := by
  unfold State.recomputeEgress
  (repeat' split)
  · exact h
  · exact h
  · exact C.takeEgress s _ _ h

theorem driveLock (s : State) (d : Fin 4) (h : P s) : P (s.driveLock d) := by
  unfold State.driveLock
  dsimp only
  split
  · exact h
  · exact C.recomputeEgress _ (C.same h (by simp) (by simp))

theorem resolve (s : State) (d : Fin 4) (h : P s) : P (s.resolve d) := by
  unfold State.resolve
  split
  · exact C.same (C.driveLock s d h) (by simp) (by simp)
  · exact h

theorem resolves (l : List (Fin 4)) (s : State) (h : P s) : P (Machine.deliver (l.map fun d t => t.resolve d) s) := by
  refine C.deliver _ (fun f hf t ht => ?_) s h
  obtain ⟨d, -, rfl⟩ := List.mem_map.1 hf
  exact C.resolve t d ht

theorem resolveAll (s : State) (h : P s) : P s.resolveAll := C.resolves _ s h

theorem resolveToward (s : State) (n : Station) (h : P s) : P (s.resolveToward n) := C.resolves _ s h

theorem release (s : State) (h : P s) : P s.release := by
  cases hf : s.start.freeze with
  | false => rwa [release_same hf]
  | true =>
    rw [release_frozen hf]
    have ht : P (thawed s) := C.resolves _ (freezeEnded s) (C.same h rfl rfl)
    exact C.same ht (by simp) (by simp)

/-- R34: the call unit takes the evacuation flag. -/
theorem recomputeEvac (s : State) (h : P s) : P s.recomputeEvac := by
  by_cases hd : s.evacDue = s.fire.evac
  · rwa [recomputeEvac_same hd]
  · rw [recomputeEvac_changed hd]
    have hf : P (flagDelivered s) := by
      refine C.deliver _ ?_ (flagSet s) (C.same h rfl rfl)
      simp only [List.mem_cons, List.not_mem_nil, or_false]
      rintro f (rfl | rfl | rfl) t ht
      · exact C.resolveAll t ht
      · exact C.relevelAll t ht
      · unfold releaseInEvac
        split
        · exact C.release t ht
        · exact ht
    exact C.same hf (by simp) (by simp)

theorem setFireState (s : State) (f : FireState) (h : P s) : P (s.setFireState f) := by
  have h1 : P (fireStateSet s f) := C.same h rfl rfl
  rcases setFireState_cases s f with ⟨-, he⟩ | ⟨-, -, -, he⟩ | ⟨-, -, he⟩ <;> rw [he]
  · exact h
  · exact h1
  · exact C.recomputeEvac _ h1

theorem enterFire (s : State) (h : P s) : P s.enterFire := by
  unfold State.enterFire
  split
  · exact h
  · exact C.setFireState _ _ (C.same h (by simp) (by simp))

theorem enterVerify (s : State) (l : Fin 6) (h : P s) : P (s.enterVerify l) :=
  C.setFireState _ _ (C.same h (by simp) (by simp))

theorem loopAlarm (s : State) (l : Fin 6) (h : P s) : P (s.loopAlarm l) := by
  unfold State.loopAlarm
  (repeat' split)
  all_goals first | exact h | exact C.enterVerify s l h | exact C.enterFire s h

theorem restoreFire (s : State) (h : P s) : P s.restoreFire := by
  unfold State.restoreFire
  (repeat' split)
  · exact h
  · exact C.setFireState s _ h
  all_goals first | exact h | exact C.setFireState _ _ (C.same h (by simp) (by simp))

theorem changeMode (s : State) (m : Mode) (h : P s) : P (s.changeMode m) := by
  by_cases hm : s.modes.mode = m
  · subst hm; rwa [changeMode_same]
  · rw [changeMode_changed hm]
    have hd : P (modeDelivered s m) := by
      refine C.deliver _ ?_ _ (C.same h rfl rfl)
      simp only [List.mem_cons, List.not_mem_nil, or_false]
      rintro f (rfl | rfl) t ht
      · exact C.resolveAll t ht
      · unfold State.fireModeChange
        split
        · exact C.enterFire t ht
        · exact ht
    exact C.same hd (by simp) (by simp)

theorem settle (s : State) (h : P s) : P s.settle := by
  unfold State.settle
  split
  · exact h
  · exact C.changeMode _ _ (C.same h rfl rfl)

theorem hearPair (s : State) (m : Mode) (e : Byte) (h : P s) : P (s.hearPair m e) := by
  unfold State.hearPair
  dsimp only
  (repeat' split)
  · exact C.changeMode _ _ (C.same h rfl rfl)
  · exact C.changeMode _ _ (C.same h rfl rfl)
  · exact h

theorem changeEntry (s : State) (k : Fin 4) (old new : NbEntry) (h : P s) : P (s.changeEntry k old new) := by
  rw [changeEntry_eq]
  refine C.deliver _ ?_ _ (C.same h (by simp) (by simp))
  simp only [List.mem_cons, List.not_mem_nil, or_false]
  rintro f (rfl | rfl | rfl) t ht
  · unfold corroborateBy State.corroborate
    (repeat' split)
    · exact C.enterFire t ht
    · exact ht
    · exact ht
  · unfold resolveBy
    split
    · exact C.resolveToward t _ ht
    · exact ht
  · unfold recomputeIf
    split
    · exact C.recomputeEgress t ht
    · exact ht

theorem entryTakes (s : State) (f : StatusFrame) (k : Fin 4) (h : P s) : P (s.entryTakes f k) := by
  unfold State.entryTakes
  (repeat' split)
  · exact h
  · exact C.changeEntry _ _ _ _ (C.same h (by simp) (by simp))
  · exact h

theorem fallMute (s : State) (k : Fin 4) (h : P s) : P (s.fallMute k) := by
  unfold State.fallMute
  (repeat' split)
  · exact h
  · exact h
  · exact C.changeEntry s _ _ _ h

theorem rosterTakes (s : State) (f : StatusFrame) (h : P s) : P (s.rosterTakes f) := by
  have hr : ∀ l, P (s.setRoster l) := fun l => C.same h rfl rfl
  unfold State.rosterTakes
  dsimp only
  (repeat' split)
  · exact hr _
  · exact C.same (C.recomputeEvac _ (hr (s.table.roster ++ [{ station := f.source, mark := true }]))) (by simp) (by simp)
  · exact C.recomputeEvac _ (hr _)
  · exact h

theorem sweepRoster (s : State) (h : P s) : P s.sweepRoster := by
  have hr : ∀ l, P (s.setRoster l) := fun l => C.same h rfl rfl
  unfold State.sweepRoster
  dsimp only
  split
  · exact C.recomputeEvac _ (hr _)
  · exact hr _

theorem respondAlert (s : State) (h : P s) : P s.respondAlert := by
  cases hi : s.watch.intrusion with
  | true => rwa [respondAlert_set hi]
  | false =>
    rw [respondAlert_clear hi]
    exact C.same (C.resolveAll (alerted s) (C.same h (by simp) (by simp))) (by simp) (by simp)

theorem restoreWatch (s : State) (h : P s) : P s.restoreWatch := by
  by_cases hc : s.watch.intrusion = true ∧ s.inputActive = false
  · rw [restoreWatch_cleared hc]
    exact C.same (C.resolveAll (latchesCleared s) (C.same h (by simp) (by simp))) (by simp) (by simp)
  · rw [restoreWatch_kept hc]
    exact C.same h rfl rfl

theorem takePassage (s : State) (h : P s) : P s.takePassage := by
  have h1 : P (State.startTimer { s with doors := { s.doors with passage := true } } .t21 s.cfg.passage .ms100 .oneShot 0) :=
    C.same h (by simp) (by simp)
  unfold State.takePassage
  dsimp only
  split
  · exact h1
  · exact C.resolveAll _ h1

theorem passageWithdrawn (s : State) (h : P s) : P (passageWithdrawn s) := C.resolveAll _ (C.same h rfl rfl)

theorem doorCloses (s : State) (d : Fin 4) (h : P s) : P (s.doorCloses d) := by
  rw [doorCloses_eq]
  exact C.same (C.driveLock (doorShut s d) d (C.same h (by simp) (by simp))) (by simp) (by simp)

theorem doorOpens (s : State) (d : Fin 4) (h : P s) : P (s.doorOpens d) := by
  rw [doorOpens_eq]
  exact C.same (C.driveLock (doorAway s d) d (C.same h (by simp) (by simp))) (by simp [doorDriven]) (by simp [doorDriven])

theorem doorLost (s : State) (d : Fin 4) (h : P s) : P (s.doorLost d) := by
  rw [doorLost_eq]
  exact C.same (C.driveLock (doorUnsensed s d) d (C.same h (by simp) (by simp))) (by simp) (by simp)

theorem firstReading (s : State) (d : Fin 4) (p : Position) (h : P s) : P (s.firstReading d p) := by
  rw [firstReading_eq]
  exact C.resolve _ d (C.same h (by simp) (by simp))

theorem beginRun (s : State) (h : P s) : P s.beginRun := by
  have hd : P (Machine.deliver [State.settle, State.firstEgress, State.release] (s.setPhase .run)) := by
    refine C.deliver _ ?_ _ (C.same h rfl rfl)
    simp only [List.mem_cons, List.not_mem_nil, or_false]
    rintro f (rfl | rfl | rfl) t ht
    · exact C.settle t ht
    · exact C.takeEgress t _ _ ht
    · exact C.release t ht
  unfold State.beginRun
  dsimp only
  split <;> exact C.same hd (by simp) (by simp)

/-- R40: entering UNCONFIGURED reaches the call unit after it has been stripped. -/
theorem enterUnconfigured (s : State) (h : P s.stripped) : P s.enterUnconfigured := by
  have h1 : P (s.stripped.enterTrouble .config) := C.same h (by simp) (by simp)
  have h2 : P (s.stripped.enterTrouble .config).unconfiguredFire := by
    unfold State.unconfiguredFire
    split
    · exact C.enterFire _ h1
    · exact C.setFireState _ _ h1
    · exact h1
    · exact h1
  exact C.same (C.recomputeEvac _ h2) (by simp [State.enterUnconfigured]) (by simp [State.enterUnconfigured])

end CallsKept

end Sys2Proof.Proofs.CallReach
end

section
/-! The fire state is latched: no operation but RESTORE and the cold starts takes it out of FIRE (R20, R31, R178). -/

namespace Sys2Proof.Proofs.FireLatch

open Sys2Proof Sys2Proof.Machine Sys2Proof.Proofs.PartFrames Sys2Proof.Proofs.Steps

/-- The fire state is FIRE. -/
def Latched (s : State) : Prop := s.fire.state = .fire

theorem same {s t : State} (h : Latched s) (hs : t.fire.state = s.fire.state) : Latched t := hs.trans h

theorem enterFire_latched (s : State) : Latched s.enterFire := by simp [Latched]

theorem deliver_latched (fs : List (State → State)) (hf : ∀ f ∈ fs, ∀ s : State, Latched s → Latched (f s)) (s : State)
    (h : Latched s) : Latched (deliver fs s) := deliver_induct Latched (fun _ _ h => h) fs hf s h

theorem loopAlarm_latched (s : State) (l : Fin 6) (h : Latched s) : Latched (s.loopAlarm l) := by
  have he : s.loopAlarm l = s := by
    rw [Latched] at h
    simp [State.loopAlarm, h]
  rwa [he]

theorem changeMode_latched (s : State) (m : Mode) (h : Latched s) : Latched (s.changeMode m) := by
  by_cases hm : s.modes.mode = m
  · subst hm; rwa [changeMode_same]
  · rw [changeMode_changed hm]
    have hd : Latched (modeDelivered s m) := by
      refine deliver_latched _ ?_ _ h
      simp only [List.mem_cons, List.not_mem_nil, or_false]
      rintro f (rfl | rfl) t ht
      · exact same ht (by simp)
      · unfold State.fireModeChange
        split
        · exact enterFire_latched t
        · exact ht
    exact same hd (by simp)

theorem changeEntry_latched (s : State) (k : Fin 4) (old new : NbEntry) (h : Latched s) : Latched (s.changeEntry k old new) := by
  rw [changeEntry_eq]
  refine deliver_latched _ ?_ _ (same h (by simp))
  simp only [List.mem_cons, List.not_mem_nil, or_false]
  rintro f (rfl | rfl | rfl) t ht
  · unfold corroborateBy State.corroborate
    (repeat' split)
    · exact enterFire_latched t
    · exact ht
    · exact ht
  · exact same ht (by simp)
  · exact same ht (by simp)

theorem entryTakes_latched (s : State) (f : StatusFrame) (k : Fin 4) (h : Latched s) : Latched (s.entryTakes f k) := by
  unfold State.entryTakes
  (repeat' split)
  · exact h
  · exact changeEntry_latched _ _ _ _ (same h (by simp))
  · exact h

theorem fallMute_latched (s : State) (k : Fin 4) (h : Latched s) : Latched (s.fallMute k) := by
  unfold State.fallMute
  (repeat' split)
  · exact h
  · exact h
  · exact changeEntry_latched _ _ _ _ h

/-- R40: FIRE is held into UNCONFIGURED. -/
theorem enterUnconfigured_latched (s : State) (h : Latched s) : Latched s.enterUnconfigured := by
  have h1 : Latched (s.stripped.enterTrouble .config) := same h (by simp [State.stripped])
  have h2 : Latched (s.stripped.enterTrouble .config).unconfiguredFire := by
    have he : (s.stripped.enterTrouble .config).unconfiguredFire = s.stripped.enterTrouble .config := by
      rw [Latched] at h1
      unfold State.unconfiguredFire
      rw [h1]
    rwa [he]
  exact same h2 (by simp [State.enterUnconfigured])

theorem settle_latched (s : State) (h : Latched s) : Latched s.settle := by
  unfold State.settle
  split
  · exact h
  · exact changeMode_latched _ _ h

theorem beginRun_latched (s : State) (h : Latched s) : Latched s.beginRun := by
  have hd : Latched (deliver [State.settle, State.firstEgress, State.release] (s.setPhase .run)) := by
    refine deliver_latched _ ?_ _ h
    simp only [List.mem_cons, List.not_mem_nil, or_false]
    rintro f (rfl | rfl | rfl) t ht
    · exact settle_latched t ht
    · exact same ht (by simp)
    · exact same ht (by simp)
  unfold State.beginRun
  dsimp only
  split <;> exact same hd (by simp)

/-- R20: outside RESTORE and the cold starts every operation that meets FIRE leaves it. -/
theorem kept : Kept Latched := by
  constructor
  case quiet => exact fun q h => same h q.fireState
  case loopAlarm => exact loopAlarm_latched
  case unlatched =>
    rintro s (hs | hs) h <;> rw [Latched, hs] at h <;> cases h
  case enterFire => exact fun s _ _ => enterFire_latched s
  case ackVerification => exact fun s h => same h (Evacuation.ackVerification_fire s).1
  case entryTakes => exact entryTakes_latched
  case fallMute => exact fallMute_latched
  case changeMode => exact changeMode_latched
  case frameOver => exact fun _ t _ _ _ ht => same ht (by simp [State.releaseWarm, State.hold])
  case releaseWarm => exact fun s _ _ h => same h (by simp [State.releaseWarm])
  case enterUnconfigured => exact fun s _ _ => enterUnconfigured_latched s
  case configGood => exact fun s _ img _ _ _ h => same h (Evacuation.configGood_fire s img).1
  case beginRun => exact fun s _ _ => beginRun_latched s
  case buzzerSilenced | passageWithdrawn =>
    intro s h
    exact same h (by simp [buzzerSilenced, passageWithdrawn])
  all_goals
    intros
    exact same ‹Latched _› (by simp)

/-- R31: while a loop's band is ALARM the fire unit refuses its part of RESTORE, whichever part is taken first. -/
theorem restore_latched (s : State) (halarm : s.loopInAlarm = true) (h : Latched s) : Latched (taken .restore s) := by
  have hpress : ∀ t : State, Latched t ∧ t.loopInAlarm = true → Latched t.pressRestore := by
    rintro t ⟨ht, ha⟩
    refine (deliver_induct (fun u => Latched u ∧ u.loopInAlarm = true) (fun _ _ h => h) _ ?_ _ ?_).1
    · simp only [List.mem_cons, List.not_mem_nil, or_false]
      rintro f (rfl | rfl | rfl) u ⟨hu, hb⟩
      · rw [Latched] at hu
        have he : u.restoreFire = u := by simp [State.restoreFire, hu, hb]
        rw [he]; exact ⟨hu, hb⟩
      · exact ⟨same hu (by simp), by simpa [State.loopInAlarm] using hb⟩
      · exact ⟨same hu (by simp), by simpa [State.loopInAlarm] using hb⟩
    · split
      · exact ⟨ht, ha⟩
      · exact ⟨ht, ha⟩
  show Latched (s.keyDown .restore s.keyed State.pressRestore)
  unfold State.keyDown State.keyReads
  dsimp only
  (repeat' split)
  · exact h
  · exact hpress _ ⟨h, halarm⟩
  · exact h

/-- Settles O22. -/
theorem fireIsLatched : Obligations.FireIsLatched := by
  intro c s t h hexec hleft
  rw [exec_eq_taken] at hexec
  cases hexec
  have hstays : ¬Latched (taken c s) := hleft
  by_cases hc : Kept.common c = true
  · exact absurd (kept.taken c hc s h) hstays
  cases c with
  | resetAsserted high =>
    cases high with
    | false => exact .inr (.inl rfl)
    | true => exact absurd (kept.assertReset s true (fun hf => by cases hf) h) hstays
  | holdFalls => exact .inr (.inr (.inl rfl))
  | coldStart k1 k2 k3 => exact .inr (.inr (.inr ⟨k1, k2, k3, rfl⟩))
  | restore =>
    refine .inl ⟨rfl, ?_⟩
    by_contra ha
    exact hstays (restore_latched s (by simpa using ha) h)
  | callButtonPressed p =>
    exact absurd (kept.callButton s p (fun u _ hu => same hu (by simp)) h) hstays
  | _ => exact absurd rfl hc

end Sys2Proof.Proofs.FireLatch
end

section
/-! The level of a call point that stays open never falls, and its late flag is never taken back (R87, R88, R90). -/

namespace Sys2Proof.Proofs.CallLevels

open Sys2Proof Sys2Proof.Machine Sys2Proof.Proofs.PartFrames Sys2Proof.Proofs.Steps Sys2Proof.Proofs.CallReach

/-- The point is closed, or it stands at this level or above, and late if it was late. -/
def Stands (p : Fin 4) (level : Nat) (late : Bool) (s : State) : Prop :=
  (s.point p).isOpen = false ∨ (level ≤ (s.point p).level ∧ (late = true → (s.point p).late = true))

variable {p : Fin 4} {level : Nat} {late : Bool}

theorem same {s t : State} (h : Stands p level late s) (hp : t.point p = s.point p) : Stands p level late t := by
  rwa [Stands, hp]

theorem same_calls {s t : State} (h : Stands p level late s) (hc : t.calls = s.calls) : Stands p level late t :=
  same h (by simp [State.point, hc])

theorem closed {t : State} (h : (t.point p).isOpen = false) : Stands p level late t := .inl h

/-- A point record that stays as it is but for what the property does not read, or closes. -/
theorem risen {s t : State} (h : Stands p level late s) (hs : (s.point p).isOpen = false → (t.point p).isOpen = false)
    (hl : (s.point p).level ≤ (t.point p).level) (hlate : (s.point p).late = true → (t.point p).late = true) :
    Stands p level late t := by
  rcases h with h | ⟨h1, h2⟩
  · exact .inl (hs h)
  · exact .inr ⟨h1.trans hl, fun hlt => hlate (h2 hlt)⟩

theorem relevel_stands (s : State) (q : Fin 4) (h : Stands p level late s) : Stands p level late (s.relevel q) := by
  obtain ⟨heq, hle⟩ := s.relevel_point q p
  refine risen h (fun hc => ?_) hle (fun hl => ?_)
  · rw [heq]; exact hc
  · rw [heq]; exact hl

/-- R87: a recomputation raises levels or leaves them. -/
theorem callsKept (p : Fin 4) (level : Nat) (late : Bool) : CallsKept (Stands p level late) where
  same h hc _ := same_calls h hc
  relevel s q h := relevel_stands s q h

theorem setPoint_stands (s : State) (q : Fin 4) (r : PointRec) (h : Stands p level late s)
    (hs : (s.point q).isOpen = false → r.isOpen = false) (hl : (s.point q).level ≤ r.level)
    (hlate : (s.point q).late = true → r.late = true) : Stands p level late (s.setPoint q r) := by
  by_cases hq : q = p
  · subst hq
    refine risen h ?_ ?_ ?_ <;> simpa
  · exact same h (by simp [hq])

theorem takeOffer_stands (s : State) (q : Fin 4) (n : Station) (h : Stands p level late s) :
    Stands p level late (s.takeOffer q n) := by
  have hpoint : ∀ r : PointRec, r.isOpen = true → r.level = (s.point q).level → r.late = (s.point q).late →
      (s.point q).isOpen = true → Stands p level late (s.setPoint q r) := by
    intro r hr hl hlt ho
    exact setPoint_stands s q r h (fun hc => by simp [hc] at ho) hl.ge (fun hx => hlt.trans hx)
  unfold State.takeOffer
  dsimp only
  (repeat' split)
  · exact h
  next hw =>
    exact same (hpoint { s.point q with state := .answered, answerer := n, hurry := false } rfl rfl rfl
      (by simp [PointRec.isOpen, hw])) (by simp)
  next ha _ =>
    exact same (hpoint { s.point q with answerer := n } (by simp [PointRec.isOpen, ha]) rfl rfl
      (by simp [PointRec.isOpen, ha])) (by simp)
  · exact same h (by simp)

theorem clearPoint_stands (s : State) (q : Fin 4) (h : Stands p level late s) : Stands p level late (s.clearPoint q) := by
  unfold State.clearPoint
  split
  · by_cases hq : q = p
    · subst hq
      exact closed (by simp [PointRec.isOpen, PointRec.idle])
    · have h1 : Stands p level late (s.setPoint q .idle) := same h (by simp [hq])
      exact same h1 (by simp)
  · exact h

theorem escalate_stands (s : State) (q : Fin 4) (h : Stands p level late s) : Stands p level late (s.escalate q) := by
  unfold State.escalate
  split
  next hw =>
    have h1 : Stands p level late (s.setPoint q { s.point q with late := true }) :=
      setPoint_stands s q _ h (fun hc => by simp [PointRec.isOpen, hw] at hc) le_rfl (fun _ => rfl)
    exact same_calls (relevel_stands _ q h1) (by simp)
  next => exact h

theorem attendLapse_stands (s : State) (q : Fin 4) (h : Stands p level late s) : Stands p level late (s.attendLapse q) := by
  unfold State.attendLapse
  dsimp only
  split
  next ha =>
    have h1 : Stands p level late (s.setPoint q { s.point q with state := .waiting, answerer := 0, late := true, hurry := true }) :=
      setPoint_stands s q _ h (fun hc => by simp [PointRec.isOpen, ha] at hc) le_rfl (fun _ => rfl)
    have h2 : Stands p level late
        ((s.setPoint q { s.point q with state := .waiting, answerer := 0, late := true, hurry := true }).syncEntry q) :=
      same h1 (by simp)
    exact same_calls (relevel_stands _ q h2) (by simp)
  next => exact h

/-- R86: an open point ignores a call raised; another point is not touched. -/
theorem raiseCall_stands (s : State) (q : Fin 4) (hq : q = p → (s.point p).isOpen = true) (h : Stands p level late s) :
    Stands p level late (s.raiseCall q) := by
  by_cases he : q = p
  · subst he
    have hs : s.raiseCall q = s := by simp [State.raiseCall, hq rfl]
    rwa [hs]
  · refine same h ?_
    unfold State.raiseCall
    dsimp only
    split <;> simp [he]

theorem takeImage_stands (s : State) (img : Image) (h : Stands p level late s) : Stands p level late (s.takeImage img) := by
  rw [Stands, takeImage_point]
  split
  · exact h
  · exact .inl rfl

theorem configGood_stands (s : State) (img : Image) (h : Stands p level late s) : Stands p level late (s.configGood img) := by
  have h1 := takeImage_stands s img h
  cases hk : s.start.kind with
  | cold => rw [configGood_cold img hk]; exact same_calls h1 (by simp)
  | warm => rw [configGood_warm img hk]; exact same_calls h1 (by simp)

theorem releaseWarm_stands (s : State) (h : Stands p level late s) : Stands p level late s.releaseWarm := by
  have h1 : Stands p level late (heldOver s).rebuildList :=
    risen h (fun hc => by simpa [PointRec.isOpen, PointRec.heldOver] using hc) (by simp [PointRec.heldOver])
      (fun hl => by simpa [PointRec.heldOver] using hl)
  rw [releaseWarm_eq]
  exact same_calls ((callsKept p level late).relevelAll _ h1) (by simp)

theorem kept (p : Fin 4) (level : Nat) (late : Bool) : Kept (Stands p level late) := by
  have C := callsKept p level late
  constructor
  case quiet =>
    intro s t q h
    refine risen h (fun hc => ?_) (q.level p).ge (fun hl => (q.late p).trans hl)
    simpa [PointRec.isOpen, q.pointState p] using hc
  case loopAlarm => exact C.loopAlarm
  case unlatched => exact fun s _ => C.setFireState s _
  case enterFire => exact fun s _ => C.enterFire s
  case rosterTakes => exact fun s f _ _ => C.rosterTakes s f
  case entryTakes => exact C.entryTakes
  case fallMute => exact C.fallMute
  case sweepRoster => exact C.sweepRoster
  case changeMode => exact C.changeMode
  case respondAlert => exact C.respondAlert
  case takePassage => exact fun s _ => C.takePassage s
  case passageWithdrawn => exact C.passageWithdrawn
  case firstReading => exact fun s d x _ _ _ => C.firstReading s d x
  case doorCloses => exact fun s d _ _ _ => C.doorCloses s d
  case doorOpens => exact fun s d _ _ _ => C.doorOpens s d
  case doorLost => exact fun s d _ _ _ => C.doorLost s d
  case takeOffer => exact takeOffer_stands
  case clearPoint => exact clearPoint_stands
  case escalate => exact escalate_stands
  case attendLapse => exact attendLapse_stands
  case setOffered => exact fun s id b h => same h (by simp)
  case sweepCalls => exact fun s h => same h (by simp)
  case takeNotice => exact fun s id x n a _ h => same h (by simp)
  case frameOver => exact fun _ t _ _ _ ht => releaseWarm_stands t.hold ht
  case releaseWarm => exact fun s _ _ => releaseWarm_stands s
  case enterUnconfigured => exact fun s _ _ _ => C.enterUnconfigured s (closed (by simp [State.point, State.stripped, PointRec.isOpen, PointRec.idle]))
  case configGood => exact fun s _ img _ _ _ => configGood_stands s img
  case beginRun => exact fun s _ _ => C.beginRun s
  case buzzerSilenced => exact fun s h => same_calls h (by simp [buzzerSilenced])
  all_goals
    intros
    exact same_calls ‹Stands p level late _› (by simp)

/-- Settles O34. -/
theorem anOpenCallsLevelNeverFalls : Obligations.AnOpenCallsLevelNeverFalls := by
  intro c s t p hexec hbefore hafter
  rw [exec_eq_taken] at hexec
  cases hexec
  have K := kept p (s.point p).level (s.point p).late
  have h : Stands p (s.point p).level (s.point p).late s := .inr ⟨le_rfl, id⟩
  have hcold : ∀ u : State, Stands p (s.point p).level (s.point p).late u.cold :=
    fun u => closed (by simp [State.point, State.cold, State.reset, PointRec.isOpen, PointRec.idle])
  have hstands : Stands p (s.point p).level (s.point p).late (taken c s) := by
    by_cases hc : Kept.common c = true
    · exact K.taken c hc s h
    cases c with
    | resetAsserted high => exact K.assertReset s high (fun _ _ => hcold s) h
    | holdFalls => exact K.dropHold s (fun _ => hcold s) h
    | coldStart k1 k2 k3 =>
      show Stands p _ _ (if s.coldReleases then _ else _)
      split
      · exact same_calls (hcold s) rfl
      · exact h
    | restore => exact K.restore s (fun t _ => (callsKept ..).restoreFire t) (callsKept ..).restoreWatch h
    | callButtonPressed q =>
      refine K.callButton s q (fun u hu hus => raiseCall_stands u q (fun he => ?_) hus) h
      subst he
      exact hu.trans hbefore
    | _ => exact absurd rfl hc
  rcases hstands with hclosed | hs
  · rw [hclosed] at hafter; cases hafter
  · exact hs

end Sys2Proof.Proofs.CallLevels
end

section
/-! The call list stands for the open call points (R95 to R97): what each change of a list or of a point keeps, and then every
operation. -/

namespace Sys2Proof.Proofs.CallList

open Sys2Proof Sys2Proof.Machine Sys2Proof.Proofs.PartFrames Sys2Proof.Proofs.Steps Sys2Proof.Proofs.CallReach

/-- R95 to R97 for a list, an own number and the records of the points. -/
structure Fits (own : Station) (points : Fin 4 → PointRec) (l : List CallEntry) : Prop where
  short : l.length ≤ 16
  distinct : (l.map CallEntry.id).Nodup
  falls : falling l
  origin : ∀ e ∈ l, e.isLocal = (e.id.origin == own)
  opened : ∀ e ∈ l, e.isLocal = true → (points e.id.point).isOpen = true
  standing : ∀ p : Fin 4, (points p).isOpen = true → ∃ e ∈ l, e.standsFor { origin := own, point := p } (points p) = true

theorem callsSound_iff (s : State) : s.CallsSound ↔ Fits s.own s.point s.calls.list :=
  ⟨fun ⟨h1, h2, h3, h4, h5, h6⟩ => ⟨h1, h2, h3, h4, h5, h6⟩, fun h => ⟨h.1, h.2, h.3, h.4, h.5, h.6⟩⟩

/-! ### Lists -/

theorem placeEntry_perm (e : CallEntry) (l : List CallEntry) : (placeEntry e l).Perm (e :: l) := by
  unfold placeEntry
  refine List.perm_middle.trans ?_
  rw [List.takeWhile_append_dropWhile]

/-- An entry of a list without repeated identities, and the entries of other identities. -/
theorem perm_cons_others {l : List CallEntry} (hd : (l.map CallEntry.id).Nodup) {e : CallEntry} (he : e ∈ l) :
    l.Perm (e :: l.filter fun x => x.id != e.id) := by
  induction l with
  | nil => cases he
  | cons a l ih =>
    obtain ⟨ha, hl⟩ := List.nodup_cons.1 hd
    rcases List.mem_cons.1 he with rfl | he
    · have hall : l.filter (fun x => x.id != e.id) = l := by
        refine List.filter_eq_self.2 fun x hx => ?_
        have : x.id ≠ e.id := fun h => ha (h ▸ List.mem_map_of_mem hx)
        simpa using this
      simp [hall]
    · have hne : a.id ≠ e.id := fun h => ha (h ▸ List.mem_map_of_mem he)
      rw [List.filter_cons_of_pos (by simpa using hne)]
      exact ((ih hl he).cons a).trans (List.Perm.swap e a _)

theorem updateEntry_perm {l : List CallEntry} (hd : (l.map CallEntry.id).Nodup) {e : CallEntry} (he : e ∈ l)
    (f : CallEntry → CallEntry) : (updateEntry e.id f l).Perm (f e :: l.filter fun x => x.id != e.id) := by
  have h := (perm_cons_others hd he).map fun x => if x.id = e.id then f x else x
  have hrest : (l.filter fun x => x.id != e.id).map (fun x => if x.id = e.id then f x else x)
      = l.filter fun x => x.id != e.id := by
    conv_rhs => rw [← List.map_id (l.filter fun x => x.id != e.id)]
    refine List.map_congr_left fun x hx => ?_
    have hx' : x.id ≠ e.id := by simpa using (List.mem_filter.1 hx).2
    simp [hx']
  simpa [updateEntry, hrest] using h

theorem find_of_mem {l : List CallEntry} (hd : (l.map CallEntry.id).Nodup) {e : CallEntry} (he : e ∈ l) :
    (l.find? fun x => x.id == e.id) = some e := by
  induction l with
  | nil => cases he
  | cons a l ih =>
    obtain ⟨ha, hl⟩ := List.nodup_cons.1 hd
    rcases List.mem_cons.1 he with rfl | he
    · simp
    · have hne : a.id ≠ e.id := fun h => ha (h ▸ List.mem_map_of_mem he)
      rw [List.find?_cons_of_neg (by simpa using hne)]
      exact ih hl he

theorem relevelEntry_perm {l : List CallEntry} (hd : (l.map CallEntry.id).Nodup) {e : CallEntry} (he : e ∈ l) (n : Nat) :
    (relevelEntry e.id n l).Perm ({ e with level := n } :: l.filter fun x => x.id != e.id) := by
  unfold relevelEntry
  rw [find_of_mem hd he]
  dsimp only
  split
  next h => subst h; exact perm_cons_others hd he
  next => exact placeEntry_perm _ _

theorem falling_relevelEntry {l : List CallEntry} (h : falling l) (id : CallId) (n : Nat) : falling (relevelEntry id n l) := by
  unfold relevelEntry
  split
  · exact h
  · split
    · exact h
    · exact pairwise_placeEntry _ _ (h.filter _)

/-- R96: changes of an entry in its place leave the order, if they leave its level. -/
theorem falling_updateEntry {l : List CallEntry} (h : falling l) (id : CallId) (f : CallEntry → CallEntry)
    (hf : ∀ e, (f e).level = e.level) : falling (updateEntry id f l) := by
  have hl : ∀ e, (if e.id = id then f e else e).level = e.level := by intro e; split <;> simp [hf]
  refine List.pairwise_map.2 (h.imp fun hab => ?_)
  rw [hl, hl]
  exact hab

theorem mem_lastRemote {l : List CallEntry} {v : CallEntry} (h : lastRemote l = some v) : v ∈ l ∧ v.isLocal = false := by
  unfold lastRemote at h
  exact ⟨List.mem_reverse.1 (List.mem_of_find?_eq_some h), by simpa using List.find?_some h⟩

/-! ### What keeps a list fitting -/

namespace Fits

variable {own : Station} {points points' : Fin 4 → PointRec} {l l' : List CallEntry}

theorem id_of_local (h : Fits own points l) {e : CallEntry} (he : e ∈ l) (hl : e.isLocal = true) :
    e.id = { origin := own, point := e.id.point } := by
  have ho := h.origin e he
  rw [hl] at ho
  have : e.id.origin = own := by simpa using ho.symm
  rw [← this]

/-- R95: the points agree in what a local entry holds. -/
theorem same_points (h : Fits own points l) (hs : ∀ q, (points' q).state = (points q).state)
    (hl : ∀ q, (points' q).level = (points q).level) (ha : ∀ q, (points' q).answerer = (points q).answerer) :
    Fits own points' l := by
  refine ⟨h.short, h.distinct, h.falls, h.origin, fun e he hloc => ?_, fun p hp => ?_⟩
  · simpa [PointRec.isOpen, hs] using h.opened e he hloc
  · obtain ⟨e, he, hst⟩ := h.standing p (by simpa [PointRec.isOpen, hs] using hp)
    exact ⟨e, he, by simpa [CallEntry.standsFor, hs, hl, ha] using hst⟩

/-- The local entry that stands for an open point. -/
theorem local_entry (h : Fits own points l) {p : Fin 4} (hp : (points p).isOpen = true) :
    ∃ e ∈ l, e.id = { origin := own, point := p } ∧ e.isLocal = true ∧ e.level = (points p).level := by
  obtain ⟨e, he, hst⟩ := h.standing p hp
  simp only [CallEntry.standsFor, Bool.and_eq_true, beq_iff_eq] at hst
  obtain ⟨⟨⟨⟨hid, hloc⟩, hlev⟩, -⟩, -⟩ := hst
  exact ⟨e, he, hid, hloc, hlev⟩

/-- One entry replaced by another of its identity; a local one with its point. -/
theorem replace (h : Fits own points l) {e e' : CallEntry} (he : e ∈ l) (hid : e'.id = e.id) (hloc : e'.isLocal = e.isLocal)
    (hpoints : ∀ q, e.id ≠ { origin := own, point := q } → points' q = points q)
    (hst : e.isLocal = true → (points' e.id.point).isOpen = true ∧ e'.standsFor e.id (points' e.id.point) = true)
    (hl' : l'.Perm (e' :: l.filter fun x => x.id != e.id)) (hf : falling l') : Fits own points' l' := by
  have hl := perm_cons_others h.distinct he
  have hother : ∀ x ∈ l.filter (fun x => x.id != e.id), x ∈ l ∧ x.id ≠ e.id := fun x hx => by simpa using hx
  have hmem : ∀ x, x ∈ l' ↔ x = e' ∨ x ∈ l.filter fun x => x.id != e.id := fun x => by rw [hl'.mem_iff, List.mem_cons]
  refine ⟨?_, ?_, hf, fun x hx => ?_, fun x hx hx' => ?_, fun q hq => ?_⟩
  · rw [hl'.length_eq, List.length_cons, ← List.length_cons (a := e), ← hl.length_eq]
    exact h.short
  · have hd := ((hl.map CallEntry.id).nodup_iff).1 h.distinct
    rw [(hl'.map CallEntry.id).nodup_iff, List.map_cons, hid]
    simpa using hd
  · rcases (hmem x).1 hx with rfl | hx
    · rw [hloc, hid]; exact h.origin e he
    · exact h.origin x (hother x hx).1
  · rcases (hmem x).1 hx with rfl | hx
    · rw [hid]; exact (hst (hloc ▸ hx')).1
    · obtain ⟨hxl, hne⟩ := hother x hx
      rw [hpoints _ fun heq => hne (by rw [heq]; exact h.id_of_local hxl hx')]
      exact h.opened x hxl hx'
  · by_cases hq' : e.id = { origin := own, point := q }
    · have hel : e.isLocal = true := by rw [h.origin e he, hq']; simp
      refine ⟨e', (hmem e').2 (.inl rfl), ?_⟩
      have := (hst hel).2
      rwa [hq'] at this
    · rw [hpoints q hq'] at hq ⊢
      obtain ⟨x, hx, hxs⟩ := h.standing q hq
      have hxid : x.id = { origin := own, point := q } := by
        simp only [CallEntry.standsFor, Bool.and_eq_true, beq_iff_eq] at hxs
        exact hxs.1.1.1.1
      exact ⟨x, (hmem x).2 (.inr (by simpa [hx, hxid] using fun h => hq' h.symm)), hxs⟩

/-- R100: entries changed in their places, in nothing but the marks of a remote call. -/
theorem map (h : Fits own points l) (f : CallEntry → CallEntry) (hid : ∀ e, (f e).id = e.id) (hlev : ∀ e, (f e).level = e.level)
    (hloc : ∀ e, (f e).isLocal = e.isLocal) (hans : ∀ e, e.isLocal = true → (f e).answered = e.answered)
    (hby : ∀ e, e.isLocal = true → (f e).answerer = e.answerer) : Fits own points (l.map f) := by
  refine ⟨by simpa using h.short, ?_, ?_, ?_, ?_, fun p hp => ?_⟩
  · rw [List.map_map]
    have : CallEntry.id ∘ f = CallEntry.id := funext hid
    rw [this]; exact h.distinct
  · exact List.pairwise_map.2 (h.falls.imp fun hab => by rw [hlev, hlev]; exact hab)
  · intro e he
    obtain ⟨x, hx, rfl⟩ := List.mem_map.1 he
    rw [hloc, hid]; exact h.origin x hx
  · intro e he hl
    obtain ⟨x, hx, rfl⟩ := List.mem_map.1 he
    rw [hid]; exact h.opened x hx (hloc x ▸ hl)
  · obtain ⟨e, he, hst⟩ := h.standing p hp
    refine ⟨f e, List.mem_map_of_mem he, ?_⟩
    have hl : e.isLocal = true := by
      simp only [CallEntry.standsFor, Bool.and_eq_true] at hst
      exact hst.1.1.1.2
    simpa [CallEntry.standsFor, hid, hlev, hloc, hans e hl, hby e hl] using hst

/-- R99, R100: remote entries leave the list. -/
theorem filter (h : Fits own points l) (g : CallEntry → Bool) (hg : ∀ e ∈ l, e.isLocal = true → g e = true) :
    Fits own points (l.filter g) := by
  refine ⟨(List.length_filter_le _ _).trans h.short, (List.filter_sublist.map _).nodup h.distinct, h.falls.filter _,
    fun e he => h.origin e (List.mem_of_mem_filter he), fun e he => h.opened e (List.mem_of_mem_filter he), fun p hp => ?_⟩
  obtain ⟨e, he, hst⟩ := h.standing p hp
  have hl : e.isLocal = true := by
    simp only [CallEntry.standsFor, Bool.and_eq_true] at hst
    exact hst.1.1.1.2
  exact ⟨e, List.mem_filter.2 ⟨he, hg e he hl⟩, hst⟩

/-- R91: a point closes and its entry leaves. -/
theorem close (h : Fits own points l) (p : Fin 4) (hpoints : ∀ q, q ≠ p → points' q = points q) (hp : (points' p).isOpen = false) :
    Fits own points' (l.filter fun e => !(e.id == { origin := own, point := p })) := by
  refine ⟨(List.length_filter_le _ _).trans h.short, (List.filter_sublist.map _).nodup h.distinct, h.falls.filter _,
    fun e he => h.origin e (List.mem_of_mem_filter he), fun e he hl => ?_, fun q hq => ?_⟩
  · obtain ⟨hel, hne⟩ := List.mem_filter.1 he
    have hq : e.id.point ≠ p := by
      rintro rfl
      have hid := h.id_of_local hel hl
      rw [← hid] at hne
      simp at hne
    rw [hpoints _ hq]
    exact h.opened e hel hl
  · have hq' : q ≠ p := by rintro rfl; rw [hp] at hq; cases hq
    rw [hpoints q hq'] at hq ⊢
    obtain ⟨e, he, hst⟩ := h.standing q hq
    have hid : e.id = { origin := own, point := q } := by
      simp only [CallEntry.standsFor, Bool.and_eq_true, beq_iff_eq] at hst
      exact hst.1.1.1.1
    exact ⟨e, List.mem_filter.2 ⟨he, by simp [hid, hq']⟩, hst⟩

/-- R97, R98: an entry is inserted, of a new identity and, if it is local, for a point that opens. -/
theorem insert (h : Fits own points l) (e : CallEntry) (hroom : l.length < 16) (hnew : ∀ x ∈ l, x.id ≠ e.id)
    (ho : e.isLocal = (e.id.origin == own)) (hpoints : ∀ q, e.id ≠ { origin := own, point := q } → points' q = points q)
    (hst : e.isLocal = true → (points' e.id.point).isOpen = true ∧ e.standsFor e.id (points' e.id.point) = true) :
    Fits own points' (placeEntry e l) := by
  have hmem : ∀ x, x ∈ placeEntry e l ↔ x = e ∨ x ∈ l := fun x => mem_placeEntry e x l
  refine ⟨?_, ?_, pairwise_placeEntry e l h.falls, fun x hx => ?_, fun x hx hl => ?_, fun q hq => ?_⟩
  · rw [length_placeEntry]; omega
  · rw [((placeEntry_perm e l).map CallEntry.id).nodup_iff, List.map_cons, List.nodup_cons]
    exact ⟨by simpa using hnew, h.distinct⟩
  · rcases (hmem x).1 hx with rfl | hx
    · exact ho
    · exact h.origin x hx
  · rcases (hmem x).1 hx with rfl | hx
    · exact (hst hl).1
    · rw [hpoints _ fun heq => hnew x hx (by rw [heq]; exact h.id_of_local hx hl)]
      exact h.opened x hx hl
  · by_cases hq' : e.id = { origin := own, point := q }
    · have hel : e.isLocal = true := by rw [ho, hq']; simp
      refine ⟨e, (hmem e).2 (.inl rfl), ?_⟩
      have := (hst hel).2
      rwa [hq'] at this
    · rw [hpoints q hq'] at hq ⊢
      obtain ⟨x, hx, hxs⟩ := h.standing q hq
      exact ⟨x, (hmem x).2 (.inr hx), hxs⟩

/-- R99: the local entries are at most four, so a full list has a remote one. -/
theorem exists_remote (h : Fits own points l) (hfull : ¬l.length < 16) : ∃ v, lastRemote l = some v := by
  by_contra hnone
  have hlocal : ∀ e ∈ l, e.isLocal = true := by
    intro e he
    by_contra hl
    have : lastRemote l ≠ none := by
      intro h0
      unfold lastRemote at h0
      have := List.find?_eq_none.1 h0 e (List.mem_reverse.2 he)
      simp at this
      exact hl this
    obtain ⟨v, hv⟩ := Option.ne_none_iff_exists'.1 this
    exact hnone ⟨v, hv⟩
  have hnodup : (l.map fun e => e.id.point).Nodup := by
    have hd := h.distinct
    rw [List.Nodup, List.pairwise_map] at hd ⊢
    refine hd.imp_of_mem fun {a b} ha hb hab hp => hab ?_
    rw [h.id_of_local ha (hlocal a ha), h.id_of_local hb (hlocal b hb), hp]
  have := hnodup.length_le_card
  simp at this
  omega

end Fits

end Sys2Proof.Proofs.CallList
end

section
/-! The call list stands for the open call points: every operation keeps it. -/

namespace Sys2Proof.Proofs.CallList

open Sys2Proof Sys2Proof.Machine Sys2Proof.Proofs.PartFrames Sys2Proof.Proofs.Steps Sys2Proof.Proofs.CallReach

theorem same {s t : State} (h : s.CallsSound) (hc : t.calls = s.calls) (hi : t.start.image = s.start.image) : t.CallsSound := by
  simpa only [State.CallsSound, State.ownCall, State.own, State.cfg, State.point, hc, hi] using h

theorem own_congr {s t : State} (hi : t.start.image = s.start.image) : t.own = s.own := by simp only [State.own, State.cfg, hi]

/-- The call unit of a state from the parts that the predicate reads. -/
theorem sound_of_fits {t : State} {own : Station} {points : Fin 4 → PointRec} {l : List CallEntry} (h : Fits own points l)
    (ho : t.own = own) (hp : t.point = points) (hl : t.calls.list = l) : t.CallsSound := by
  subst ho hp hl
  exact (callsSound_iff t).2 h

theorem relevel_sound (s : State) (p : Fin 4) (h : s.CallsSound) : (s.relevel p).CallsSound := by
  have hf := (callsSound_iff s).1 h
  unfold State.relevel
  dsimp only
  split
  · exact h
  next hc =>
    obtain ⟨hopen, -⟩ : (s.point p).isOpen = true ∧ _ := by simpa using hc
    obtain ⟨e, he, hst⟩ := hf.standing p hopen
    have hst' := hst
    simp only [CallEntry.standsFor, Bool.and_eq_true, beq_iff_eq] at hst'
    obtain ⟨⟨⟨⟨hid, hloc⟩, -⟩, hans⟩, hby⟩ := hst'
    have hid' : s.ownCall p = e.id := hid.symm
    set level := max (s.point p).level (s.candidateLevel (s.point p).late)
    refine sound_of_fits (t := ((s.setPoint p { s.point p with level := level }).setList
      (relevelEntry (s.ownCall p) level s.calls.list)).markCall p)
      (hf.replace (points' := fun q => if p = q then { s.point p with level := level } else s.point q) he
        (e' := { e with level := level }) rfl rfl ?_ ?_ (relevelEntry_perm hf.distinct he level) (falling_relevelEntry hf.falls _ _))
      rfl (by funext q; simp) (by simp [hid'])
    · intro q hq
      have : p ≠ q := by rintro rfl; exact hq hid
      simp [this]
    · intro _
      simp only [hid, if_true]
      exact ⟨by simpa [PointRec.isOpen] using hopen, by simp [CallEntry.standsFor, hloc, hans, hby]⟩

/-- R87: a recomputation of levels moves local entries with their points. -/
theorem callsKept : CallsKept State.CallsSound where
  same := same
  relevel := relevel_sound

/-- R97: the local entry takes state and answerer of a point that stays open at its level. -/
theorem syncEntry_sound {s t : State} (p : Fin 4) (h : s.CallsSound) (hopen : (s.point p).isOpen = true)
    (ht : (t.point p).isOpen = true) (hlev : (t.point p).level = (s.point p).level) (hother : ∀ q, q ≠ p → t.point q = s.point q)
    (hl : t.calls.list = s.calls.list) (hi : t.start.image = s.start.image) : (t.syncEntry p).CallsSound := by
  have hf := (callsSound_iff s).1 h
  obtain ⟨e, he, hid, hloc, helev⟩ := hf.local_entry hopen
  have hown : t.own = s.own := own_congr hi
  have hid' : t.ownCall p = e.id := by simp [State.ownCall, hown, hid]
  set f : CallEntry → CallEntry := fun e => { e with answered := (t.point p).state == .answered, answerer := (t.point p).answerer }
    with hfdef
  refine sound_of_fits (hf.replace (points' := t.point) he (e' := f e) rfl rfl ?_ ?_ (updateEntry_perm hf.distinct he f)
    (falling_updateEntry hf.falls _ _ fun _ => rfl)) (t := t.syncEntry p) (by simpa [State.own, State.cfg] using hown)
    (by funext q; simp) ?_
  · intro q hq
    exact hother q fun hqp => hq (by rw [hid, hqp])
  · intro _
    simp only [hid]
    exact ⟨ht, by simp [CallEntry.standsFor, hfdef, hid, hloc, helev, hlev]⟩
  · simp [State.syncEntry, hid', hl, hfdef]

/-- R91: a point closed, with its entry. -/
theorem clearPoint_sound (s : State) (p : Fin 4) (h : s.CallsSound) : (s.clearPoint p).CallsSound := by
  have hf := (callsSound_iff s).1 h
  unfold State.clearPoint
  split
  · refine sound_of_fits (hf.close (points' := fun q => if p = q then PointRec.idle else s.point q) p ?_ (by simp [PointRec.isOpen, PointRec.idle]))
      (by simp [State.own, State.cfg]) (by funext q; simp) (by simp [State.ownCall])
    intro q hq
    simp [Ne.symm hq]
  · exact h

theorem takeOffer_sound (s : State) (p : Fin 4) (n : Station) (h : s.CallsSound) : (s.takeOffer p n).CallsSound := by
  unfold State.takeOffer
  dsimp only
  (repeat' split)
  · exact h
  next hw =>
    have ho : (s.point p).isOpen = true := by simp [PointRec.isOpen, hw]
    refine syncEntry_sound p h ho ?_ ?_ (fun q hq => ?_) ?_ ?_
    · simp [PointRec.isOpen]
    · simp
    · simp [Ne.symm hq]
    · simp
    · simp
  next ha _ =>
    have ho : (s.point p).isOpen = true := by simp [PointRec.isOpen, ha]
    refine syncEntry_sound p h ho ?_ ?_ (fun q hq => ?_) ?_ ?_
    · simp [PointRec.isOpen, ha]
    · simp
    · simp [Ne.symm hq]
    · simp
    · simp
  · exact same h (by simp) (by simp)

theorem escalate_sound (s : State) (p : Fin 4) (h : s.CallsSound) : (s.escalate p).CallsSound := by
  unfold State.escalate
  split
  · have h1 : (s.setPoint p { s.point p with late := true }).CallsSound := by
      refine sound_of_fits (((callsSound_iff s).1 h).same_points (points' := (s.setPoint p { s.point p with late := true }).point)
        (fun q => ?_) (fun q => ?_) fun q => ?_) rfl rfl rfl
      all_goals
        rw [State.setPoint_point]
        split
        · subst_vars; rfl
        · rfl
    exact same (relevel_sound _ p h1) (by simp) (by simp)
  · exact h

theorem attendLapse_sound (s : State) (p : Fin 4) (h : s.CallsSound) : (s.attendLapse p).CallsSound := by
  unfold State.attendLapse
  dsimp only
  split
  next ha =>
    have ho : (s.point p).isOpen = true := by simp [PointRec.isOpen, ha]
    have h1 : ((s.setPoint p { s.point p with state := .waiting, answerer := 0, late := true, hurry := true }).syncEntry p).CallsSound := by
      refine syncEntry_sound p h ho ?_ ?_ (fun q hq => ?_) ?_ ?_
      · simp [PointRec.isOpen]
      · simp
      · simp [Ne.symm hq]
      · simp
      · simp
    exact same (relevel_sound _ p h1) (by simp) (by simp)
  next => exact h

theorem setOffered_sound (s : State) (id : CallId) (b : Bool) (h : s.CallsSound) : (s.setOffered id b).CallsSound := by
  refine sound_of_fits (t := s.setOffered id b) (((callsSound_iff s).1 h).map
    (fun e => if e.id = id then { e with offered := b } else e) ?_ ?_ ?_ ?_ ?_) rfl rfl rfl
  all_goals intro e; split <;> simp

theorem sweepCalls_sound (s : State) (h : s.CallsSound) : s.sweepCalls.CallsSound := by
  have hf := ((callsSound_iff s).1 h).filter (fun e => !(!e.isLocal && !e.heard)) (by simp +contextual)
  refine sound_of_fits (t := s.sweepCalls) (hf.map (fun e => if e.isLocal then e else { e with heard := false }) ?_ ?_ ?_ ?_ ?_)
    rfl rfl rfl
  all_goals intro e; split <;> simp_all

/-- R99: a remote entry gives way. -/
theorem victim_dropped {s : State} (h : s.CallsSound) {v : CallEntry} (hv : lastRemote s.calls.list = some v) :
    Fits s.own s.point (s.calls.list.filter fun e => !(e.id == v.id)) ∧ (s.calls.list.filter fun e => !(e.id == v.id)).length < 16 := by
  have hf := (callsSound_iff s).1 h
  obtain ⟨hmem, hremote⟩ := mem_lastRemote hv
  refine ⟨hf.filter _ fun e he hl => ?_, ?_⟩
  · have hne : e.id ≠ v.id := by
      intro heq
      have h1 := hf.origin e he
      rw [heq, ← hf.origin v hmem, hl, hremote] at h1
      cases h1
    simpa using hne
  · refine lt_of_lt_of_le (List.length_filter_lt_length_iff_exists.2 ⟨v, hmem, by simp⟩) hf.short

/-- R86, R97: the entry of a point that opens. -/
theorem insertLocal_sound {s t : State} (p : Fin 4) (h : s.CallsSound) (hclosed : (s.point p).isOpen = false)
    (ht : (t.point p).isOpen = true) (hother : ∀ q, q ≠ p → t.point q = s.point q) (hl : t.calls.list = s.calls.list)
    (hi : t.start.image = s.start.image) : (t.insertLocal p).CallsSound := by
  have hown : t.own = s.own := own_congr hi
  have hnew : ∀ l : List CallEntry, Fits s.own s.point l → ∀ x ∈ l, x.id ≠ { origin := s.own, point := p } := by
    intro l hfl x hx hid
    have hloc := hfl.origin x hx
    rw [hid] at hloc
    have := hfl.opened x hx (by simpa using hloc)
    rw [hid, hclosed] at this
    cases this
  have hinsert : ∀ u : State, Fits s.own s.point u.calls.list → u.calls.list.length < 16 → u.point = t.point → u.own = s.own →
      (u.insertEntry (t.localEntry p)).CallsSound := by
    intro u hfu hlen hp ho
    refine sound_of_fits (hfu.insert (points' := t.point) (t.localEntry p) hlen ?_ ?_ ?_ ?_) (by simpa [State.own, State.cfg] using ho)
      (by funext q; simp [hp]) (by simp)
    · simpa [State.localEntry, State.ownCall, hown] using hnew _ hfu
    · simp [State.localEntry, State.ownCall, hown]
    · intro q hq
      refine hother q fun hqp => hq ?_
      simp [State.localEntry, State.ownCall, hown, hqp]
    · intro _
      exact ⟨ht, by simp [CallEntry.standsFor, State.localEntry, State.ownCall]⟩
  have hf := (callsSound_iff s).1 h
  unfold State.insertLocal
  split
  next hlen => exact hinsert t (by rwa [hl]) hlen rfl hown
  next hlen =>
    obtain ⟨v, hv⟩ := hf.exists_remote (hl ▸ hlen)
    rw [hl, hv]
    obtain ⟨h1, h2⟩ := victim_dropped h hv
    refine hinsert _ (by simpa [hl] using h1) (by simpa [hl] using h2) (by funext q; simp) ?_
    simpa [State.own, State.cfg] using hown

theorem raiseCall_sound (s : State) (p : Fin 4) (h : s.CallsSound) : (s.raiseCall p).CallsSound := by
  unfold State.raiseCall
  dsimp only
  split
  · exact h
  next hc =>
    refine insertLocal_sound p h (by simpa using hc) ?_ (fun q hq => ?_) ?_ ?_
    · simp [PointRec.isOpen]
    · simp [Ne.symm hq]
    · simp
    · simp

/-- R98, R99: a notice of a call of another station. -/
theorem takeNotice_sound (s : State) (id : CallId) (x : BitVec 2) (level : Nat) (a : Station) (hid : id.origin ≠ s.own)
    (h : s.CallsSound) : (s.takeNotice id x level a).CallsSound := by
  have hf := (callsSound_iff s).1 h
  unfold State.takeNotice
  dsimp only
  split
  next e hfind =>
    have he : e ∈ s.calls.list := List.mem_of_find?_eq_some hfind
    have heid : e.id = id := by simpa using List.find?_some hfind
    have hremote : e.isLocal = false := by rw [hf.origin e he, heid]; simpa using hid
    subst heid
    split
    · refine sound_of_fits (t := s.dropEntries fun y => y.id == e.id) (hf.filter (fun y => !(y.id == e.id)) fun y hy hl => ?_)
        rfl rfl rfl
      have hne : y.id ≠ e.id := by
        intro heq
        have h1 := hf.origin y hy
        rw [heq, ← hf.origin e he, hl, hremote] at h1
        cases h1
      simpa using hne
    · set f : CallEntry → CallEntry := fun y =>
        { y with answered := x == 1, answerer := a, heard := true
                 offered := settledOffer (s.link.offer == some e.id) (x == 1) a s.own y.offered } with hfdef
      have hupd := hf.replace (points' := s.point) he (e' := f e) rfl rfl (fun _ _ => rfl) (by simp [hremote])
        (updateEntry_perm hf.distinct he f) (falling_updateEntry hf.falls _ _ fun _ => rfl)
      have hmem : f e ∈ updateEntry e.id f s.calls.list :=
        (updateEntry_perm hf.distinct he f).mem_iff.2 List.mem_cons_self
      exact sound_of_fits (t := s.setList (relevelEntry e.id level (updateEntry e.id f s.calls.list)))
        (hupd.replace (points' := s.point) hmem (e' := { f e with level := level }) rfl rfl (fun _ _ => rfl)
          (by simp [hfdef, hremote]) (relevelEntry_perm hupd.distinct hmem level) (falling_relevelEntry hupd.falls _ _)) rfl rfl rfl
  next hnone =>
    have hnew : ∀ y ∈ s.calls.list, y.id ≠ id := fun y hy => by simpa using List.find?_eq_none.1 hnone y hy
    set e : CallEntry := { id := id, level := level, answered := x == 1, answerer := a, isLocal := false, offered := false
                           heard := true } with hedef
    have hinsert : ∀ u : State, Fits s.own s.point u.calls.list → u.calls.list.length < 16 → (∀ y ∈ u.calls.list, y.id ≠ id) →
        u.point = s.point → u.own = s.own → (u.insertEntry e).CallsSound := by
      intro u hfu hlen hn hp ho
      exact sound_of_fits (hfu.insert (points' := s.point) e hlen hn (by simpa [hedef] using hid) (fun _ _ => rfl) (by simp [hedef]))
        (by simpa [State.own, State.cfg] using ho) (by funext q; simp [hp]) (by simp)
    split
    · exact h
    split
    next hlen => exact hinsert s hf hlen hnew rfl rfl
    split
    · exact same h (by simp) (by simp)
    next v hv =>
      obtain ⟨h1, h2⟩ := victim_dropped h hv
      split
      · refine hinsert _ (by simpa using h1) (by simpa using h2) ?_ (by funext q; simp) (by simp [State.own, State.cfg])
        intro y hy
        have hy' : y ∈ s.calls.list ∧ y.id ≠ v.id := by simpa using hy
        exact hnew y hy'.1
      · exact same h (by simp) (by simp)

/-! ### The starts -/

theorem foldl_placeEntry_perm (entry : Fin 4 → CallEntry) (ps : List (Fin 4)) (l : List CallEntry) :
    (ps.foldl (fun l p => placeEntry (entry p) l) l).Perm (ps.map entry ++ l) := by
  induction ps generalizing l with
  | nil => exact List.Perm.refl _
  | cons p ps ih =>
    refine (ih _).trans ?_
    rw [List.map_cons, List.cons_append]
    exact ((placeEntry_perm (entry p) l).append_left _).trans List.perm_middle

theorem falling_foldl_placeEntry (entry : Fin 4 → CallEntry) (ps : List (Fin 4)) {l : List CallEntry} (h : falling l) :
    falling (ps.foldl (fun l p => placeEntry (entry p) l) l) := by
  induction ps generalizing l with
  | nil => exact h
  | cons p ps ih => exact ih (pairwise_placeEntry _ _ h)

/-- R97, R107: the rebuilt list stands for the open points, whatever the list was. -/
theorem rebuildList_sound (s : State) : s.rebuildList.CallsSound := by
  have hperm := foldl_placeEntry_perm s.localEntry s.openPoints []
  rw [List.append_nil] at hperm
  have hnodup : s.openPoints.Nodup := (List.nodup_finRange 4).filter _
  have hmem : ∀ e, e ∈ s.openPoints.foldl (fun l p => placeEntry (s.localEntry p) l) [] ↔ ∃ p, (s.point p).isOpen = true ∧ s.localEntry p = e := by
    intro e
    rw [hperm.mem_iff]
    simp [State.openPoints]
  refine sound_of_fits (t := s.rebuildList) (own := s.own) (points := s.point)
    (l := s.openPoints.foldl (fun l p => placeEntry (s.localEntry p) l) []) ⟨?_, ?_, ?_, ?_, ?_, ?_⟩ rfl rfl rfl
  · rw [hperm.length_eq, List.length_map]
    have := hnodup.length_le_card
    simp at this
    omega
  · rw [(hperm.map CallEntry.id).nodup_iff, List.map_map]
    exact hnodup.map fun p q hpq => by simpa [State.localEntry, State.ownCall] using hpq
  · exact falling_foldl_placeEntry _ _ List.Pairwise.nil
  · intro e he
    obtain ⟨p, -, rfl⟩ := (hmem e).1 he
    simp [State.localEntry, State.ownCall]
  · intro e he _
    obtain ⟨p, hp, rfl⟩ := (hmem e).1 he
    exact hp
  · intro p hp
    exact ⟨s.localEntry p, (hmem _).2 ⟨p, hp, rfl⟩, by simp [CallEntry.standsFor, State.localEntry, State.ownCall]⟩

theorem releaseWarm_sound (s : State) : s.releaseWarm.CallsSound := by
  rw [releaseWarm_eq]
  exact same (callsKept.relevelAll _ (rebuildList_sound (heldOver s))) (by simp) (by simp)

theorem configGood_sound (s : State) (img : Image) : (s.configGood img).CallsSound := by
  have h1 : (s.takeImage img).CallsSound := rebuildList_sound _
  cases hk : s.start.kind with
  | cold => rw [configGood_cold img hk]; exact same h1 (by simp) (by simp)
  | warm => rw [configGood_warm img hk]; exact same h1 (by simp) (by simp)

/-- No open point and no entry. -/
theorem sound_of_empty {t : State} (hl : t.calls.list = []) (hp : ∀ p, t.point p = .idle) : t.CallsSound :=
  sound_of_fits (own := t.own) (points := t.point) ⟨by simp, by simp, by simp, by simp, by simp, by simp [hp, PointRec.isOpen, PointRec.idle]⟩
    rfl rfl hl

theorem stripped_sound (s : State) : s.stripped.CallsSound := sound_of_empty rfl fun p => by simp [State.point, State.stripped]

/-- R95 to R100: every operation keeps the call list standing for the open points. -/
theorem kept : KeptByAll State.CallsSound := by
  have C := callsKept
  constructor
  case toKept =>
    constructor
    case quiet =>
      intro s t q h
      exact sound_of_fits (((callsSound_iff s).1 h).same_points (points' := t.point) q.pointState q.level q.answerer) q.own rfl q.list
    case loopAlarm => exact C.loopAlarm
    case unlatched => exact fun s _ => C.setFireState s _
    case enterFire => exact fun s _ => C.enterFire s
    case rosterTakes => exact fun s f _ _ => C.rosterTakes s f
    case entryTakes => exact C.entryTakes
    case fallMute => exact C.fallMute
    case sweepRoster => exact C.sweepRoster
    case changeMode => exact C.changeMode
    case respondAlert => exact C.respondAlert
    case takePassage => exact fun s _ => C.takePassage s
    case passageWithdrawn => exact C.passageWithdrawn
    case firstReading => exact fun s d x _ _ _ => C.firstReading s d x
    case doorCloses => exact fun s d _ _ _ => C.doorCloses s d
    case doorOpens => exact fun s d _ _ _ => C.doorOpens s d
    case doorLost => exact fun s d _ _ _ => C.doorLost s d
    case takeOffer => exact takeOffer_sound
    case clearPoint => exact clearPoint_sound
    case escalate => exact escalate_sound
    case attendLapse => exact attendLapse_sound
    case setOffered => exact setOffered_sound
    case sweepCalls => exact sweepCalls_sound
    case takeNotice => exact takeNotice_sound
    case frameOver => exact fun _ t _ _ _ _ => releaseWarm_sound t.hold
    case releaseWarm => exact fun s _ _ _ => releaseWarm_sound s
    case enterUnconfigured => exact fun s _ _ _ => C.enterUnconfigured s (stripped_sound s)
    case configGood => exact fun s _ img _ _ _ _ => configGood_sound s img
    case beginRun => exact fun s _ _ => C.beginRun s
    case buzzerSilenced => exact fun s h => same h (by simp [buzzerSilenced]) (by simp [buzzerSilenced])
    all_goals
      intros
      exact same ‹State.CallsSound _› (by simp) (by simp)
  case cold => exact fun s => sound_of_empty rfl fun p => by simp [State.point, State.cold, State.reset]
  case releaseCold => exact fun s _ _ _ => sound_of_empty rfl fun p => by simp [State.point, State.releaseCold, State.cold, State.reset]
  case restoreFire => exact fun s _ => C.restoreFire s
  case restoreWatch => exact C.restoreWatch
  case raiseCall => exact raiseCall_sound

/-- Settles O56. -/
theorem callListStandsForTheOpenPoints : Obligations.CallListStandsForTheOpenPoints :=
  fun _ _ h hstep => kept.step h hstep

end Sys2Proof.Proofs.CallList
end

section
/-! What the operations leave of a door: descriptor and freeze mark everywhere, the position but where it is read. -/

namespace Sys2Proof.Proofs.PartFrames

open Sys2Proof Sys2Proof.Machine

theorem door_congr {s t : State} (h : t.doors = s.doors) (e : Fin 4) : t.door e = s.door e := by simp [State.door, h]

@[simp] theorem markStatus_door (s : State) (e : Fin 4) : s.markStatus.door e = s.door e := rfl

@[simp] theorem setChannel_door (s : State) (c : Chan) (ch : Channel) (e : Fin 4) : (s.setChannel c ch).door e = s.door e := rfl

@[simp] theorem present_door (s : State) (o : OneShot) (e : Fin 4) : (s.present o).door e = s.door e := rfl

@[simp] theorem startTimer_door (s : State) (c : Chan) (n : Nat) (rate : TickRate) (kind : ChanKind) (m : Nat) (e : Fin 4) :
    (s.startTimer c n rate kind m).door e = s.door e := door_congr (by simp) e

@[simp] theorem enterTrouble_door (s : State) (x : Trouble) (e : Fin 4) : (s.enterTrouble x).door e = s.door e :=
  door_congr (by simp) e

@[simp] theorem removeTroubles_door (s : State) (g : Trouble → Bool) (e : Fin 4) : (s.removeTroubles g).door e = s.door e :=
  door_congr (by simp) e

@[simp] theorem removeTrouble_door (s : State) (x : Trouble) (e : Fin 4) : (s.removeTrouble x).door e = s.door e :=
  door_congr (by simp) e

@[simp] theorem pushScene_door (s : State) (x : Scene) (e : Fin 4) : (s.pushScene x).door e = s.door e := door_congr (by simp) e

@[simp] theorem removeScene_door (s : State) (x : Scene) (e : Fin 4) : (s.removeScene x).door e = s.door e :=
  door_congr (by simp) e

@[simp] theorem driveLock_site (s : State) (d e : Fin 4) :
    ((s.driveLock d).door e).desc = (s.door e).desc ∧ ((s.driveLock d).door e).position = (s.door e).position
      ∧ ((s.driveLock d).door e).filter = (s.door e).filter ∧ ((s.driveLock d).door e).keep = (s.door e).keep
      ∧ ((s.driveLock d).door e).phase = (s.door e).phase ∧ ((s.driveLock d).door e).hold = (s.door e).hold
      ∧ ((s.driveLock d).door e).deferred = (s.door e).deferred ∧ ((s.driveLock d).door e).ajar = (s.door e).ajar := by
  rw [State.driveLock_door]
  split
  next h => obtain ⟨rfl, -⟩ := h; simp
  next => simp

@[simp] theorem driveHold_site (s : State) (d e : Fin 4) :
    ((s.driveHold d).door e).desc = (s.door e).desc ∧ ((s.driveHold d).door e).position = (s.door e).position
      ∧ ((s.driveHold d).door e).filter = (s.door e).filter ∧ ((s.driveHold d).door e).keep = (s.door e).keep
      ∧ ((s.driveHold d).door e).lock = (s.door e).lock := by
  by_cases hde : d = e
  · subst hde
    unfold State.driveHold State.holdChanged
    dsimp only
    (repeat' split) <;> simp
  · rw [State.driveHold_other _ _ _ hde]; simp

@[simp] theorem ajarUpdate_site (s : State) (d e : Fin 4) :
    ((s.ajarUpdate d).door e).desc = (s.door e).desc ∧ ((s.ajarUpdate d).door e).position = (s.door e).position
      ∧ ((s.ajarUpdate d).door e).filter = (s.door e).filter ∧ ((s.ajarUpdate d).door e).keep = (s.door e).keep
      ∧ ((s.ajarUpdate d).door e).phase = (s.door e).phase ∧ ((s.ajarUpdate d).door e).lock = (s.door e).lock
      ∧ ((s.ajarUpdate d).door e).hold = (s.door e).hold ∧ ((s.ajarUpdate d).door e).deferred = (s.door e).deferred := by
  by_cases hde : d = e
  · subst hde
    unfold State.ajarUpdate
    dsimp only
    (repeat' split) <;> simp
  · rw [State.ajarUpdate_other _ _ _ hde]; simp

@[simp] theorem doorShut_door (s : State) (d e : Fin 4) :
    (doorShut s d).door e = if d = e then { s.door d with position := some .closed, filter := Filter.clear, phase := some .shut
                                                          deferred := false, ajar := false } else s.door e := by
  simp [doorShut]

@[simp] theorem doorAway_door (s : State) (d e : Fin 4) :
    (doorAway s d).door e = if d = e then { s.door d with position := some .opened, filter := Filter.clear } else s.door e := by
  simp [doorAway]

@[simp] theorem doorUnsensed_door (s : State) (d e : Fin 4) :
    (doorUnsensed s d).door e = if d = e then { s.door d with position := some .unknown, filter := Filter.clear
                                                              phase := some .unsensed, ajar := false } else s.door e := by
  simp [doorUnsensed]

@[simp] theorem doorRead_door (s : State) (d e : Fin 4) (p : Position) :
    (doorRead s d p).door e = if d = e then { s.door d with position := some p, filter := Filter.clear
                                                            phase := some (phaseAtReading p) } else s.door e := by
  unfold doorRead; dsimp only; split <;> simp

@[simp] theorem doorStuck_door (s : State) (d e : Fin 4) :
    (doorStuck s d).door e = if d = e then { s.door d with phase := some .blocked } else s.door e := by
  simp [doorStuck]

theorem if_desc (d e : Fin 4) (r : DoorRec) (s : State) (hr : r.desc = (s.door d).desc ∧ r.keep = (s.door d).keep) :
    (if d = e then r else s.door e).desc = (s.door e).desc ∧ (if d = e then r else s.door e).keep = (s.door e).keep := by
  split
  next h => subst h; exact hr
  next => exact ⟨rfl, rfl⟩

/-- A record written with the descriptor and the freeze mark that stand. -/
theorem setDoor_desc (s : State) (d e : Fin 4) {r : DoorRec} (hr : r.desc = (s.door d).desc ∧ r.keep = (s.door d).keep) :
    ((s.setDoor d r).door e).desc = (s.door e).desc ∧ ((s.setDoor d r).door e).keep = (s.door e).keep := by
  rw [State.setDoor_door]
  exact if_desc d e r s hr

@[simp] theorem doorShut_desc (s : State) (d e : Fin 4) :
    ((doorShut s d).door e).desc = (s.door e).desc ∧ ((doorShut s d).door e).keep = (s.door e).keep := by
  rw [doorShut_door]
  exact if_desc d e _ s (by exact ⟨rfl, rfl⟩)

@[simp] theorem doorAway_desc (s : State) (d e : Fin 4) :
    ((doorAway s d).door e).desc = (s.door e).desc ∧ ((doorAway s d).door e).keep = (s.door e).keep := by
  rw [doorAway_door]
  exact if_desc d e _ s (by exact ⟨rfl, rfl⟩)

@[simp] theorem doorUnsensed_desc (s : State) (d e : Fin 4) :
    ((doorUnsensed s d).door e).desc = (s.door e).desc ∧ ((doorUnsensed s d).door e).keep = (s.door e).keep := by
  rw [doorUnsensed_door]
  exact if_desc d e _ s (by exact ⟨rfl, rfl⟩)

@[simp] theorem doorRead_desc (s : State) (d e : Fin 4) (p : Position) :
    ((doorRead s d p).door e).desc = (s.door e).desc ∧ ((doorRead s d p).door e).keep = (s.door e).keep := by
  rw [doorRead_door]
  exact if_desc d e _ s (by exact ⟨rfl, rfl⟩)

@[simp] theorem doorStuck_desc (s : State) (d e : Fin 4) :
    ((doorStuck s d).door e).desc = (s.door e).desc ∧ ((doorStuck s d).door e).keep = (s.door e).keep := by
  rw [doorStuck_door]
  exact if_desc d e _ s (by exact ⟨rfl, rfl⟩)

@[simp] theorem doorCloses_desc (s : State) (d e : Fin 4) :
    ((s.doorCloses d).door e).desc = (s.door e).desc ∧ ((s.doorCloses d).door e).keep = (s.door e).keep := by
  simp only [doorCloses_eq, driveHold_site, driveLock_site, doorShut_desc, and_self]

@[simp] theorem doorDriven_desc (s : State) (d e : Fin 4) :
    ((doorDriven s d).door e).desc = (s.door e).desc ∧ ((doorDriven s d).door e).keep = (s.door e).keep := by
  simp only [doorDriven, driveHold_site, driveLock_site, doorAway_desc, and_self]

@[simp] theorem doorOpens_desc (s : State) (d e : Fin 4) :
    ((s.doorOpens d).door e).desc = (s.door e).desc ∧ ((s.doorOpens d).door e).keep = (s.door e).keep := by
  simp only [doorOpens_eq, ajarUpdate_site, State.setDoor_door]
  obtain ⟨h1, h2⟩ := if_desc d e { (doorDriven s d).door d with
    phase := some (phaseByOutputs ((doorDriven s d).door d)) } (doorDriven s d) ⟨rfl, rfl⟩
  exact ⟨h1.trans (by simp), h2.trans (by simp)⟩

@[simp] theorem doorLost_desc (s : State) (d e : Fin 4) :
    ((s.doorLost d).door e).desc = (s.door e).desc ∧ ((s.doorLost d).door e).keep = (s.door e).keep := by
  simp only [doorLost_eq, driveHold_site, driveLock_site, doorUnsensed_desc, and_self]

@[simp] theorem firstReading_desc (s : State) (d e : Fin 4) (p : Position) :
    ((s.firstReading d p).door e).desc = (s.door e).desc ∧ ((s.firstReading d p).door e).keep = (s.door e).keep := by
  simp only [firstReading_eq, resolve_site, doorRead_desc, and_self]

@[simp] theorem travelLapse_site (s : State) (d e : Fin 4) :
    ((s.travelLapse d).door e).desc = (s.door e).desc ∧ ((s.travelLapse d).door e).keep = (s.door e).keep
      ∧ ((s.travelLapse d).door e).position = (s.door e).position := by
  by_cases h : (s.door d).phase = some .closing
  · simp only [travelLapse_closing h, ajarUpdate_site, driveHold_site, doorStuck_door]
    split
    next h => subst h; exact ⟨rfl, rfl, rfl⟩
    next => exact ⟨rfl, rfl, rfl⟩
  · simp [travelLapse_same h]

@[simp] theorem takePassage_site (s : State) (e : Fin 4) :
    (s.takePassage.door e).desc = (s.door e).desc ∧ (s.takePassage.door e).position = (s.door e).position
      ∧ (s.takePassage.door e).filter = (s.door e).filter ∧ (s.takePassage.door e).keep = (s.door e).keep := by
  unfold State.takePassage
  dsimp only
  split <;> simp <;> exact ⟨rfl, rfl, rfl, rfl⟩

@[simp] theorem alerted_door (s : State) (e : Fin 4) : (alerted s).door e = s.door e := door_congr (by simp) e

@[simp] theorem latchesCleared_door (s : State) (e : Fin 4) : (latchesCleared s).door e = s.door e := door_congr (by simp) e

@[simp] theorem respondAlert_site (s : State) (e : Fin 4) :
    (s.respondAlert.door e).desc = (s.door e).desc ∧ (s.respondAlert.door e).position = (s.door e).position
      ∧ (s.respondAlert.door e).filter = (s.door e).filter ∧ (s.respondAlert.door e).keep = (s.door e).keep := by
  cases h : s.watch.intrusion with
  | true => simp [respondAlert_set h]
  | false => simp [respondAlert_clear h]

@[simp] theorem restoreWatch_site (s : State) (e : Fin 4) :
    (s.restoreWatch.door e).desc = (s.door e).desc ∧ (s.restoreWatch.door e).position = (s.door e).position
      ∧ (s.restoreWatch.door e).filter = (s.door e).filter ∧ (s.restoreWatch.door e).keep = (s.door e).keep := by
  by_cases hc : s.watch.intrusion = true ∧ s.inputActive = false
  · simp [restoreWatch_cleared hc]
  · rw [restoreWatch_kept hc]; exact ⟨rfl, rfl, rfl, rfl⟩

@[simp] theorem enterVerify_site (s : State) (l : Fin 6) (e : Fin 4) :
    ((s.enterVerify l).door e).desc = (s.door e).desc ∧ ((s.enterVerify l).door e).position = (s.door e).position
      ∧ ((s.enterVerify l).door e).filter = (s.door e).filter ∧ ((s.enterVerify l).door e).keep = (s.door e).keep := by
  have h : ∀ t : State, t.syncBuzzer.door e = t.door e := fun _ => rfl
  simp only [State.enterVerify, setFireState_site, h, startTimer_door]
  exact ⟨rfl, rfl, rfl, rfl⟩

@[simp] theorem loopAlarm_site (s : State) (l : Fin 6) (e : Fin 4) :
    ((s.loopAlarm l).door e).desc = (s.door e).desc ∧ ((s.loopAlarm l).door e).position = (s.door e).position
      ∧ ((s.loopAlarm l).door e).filter = (s.door e).filter ∧ ((s.loopAlarm l).door e).keep = (s.door e).keep := by
  unfold State.loopAlarm; (repeat' split) <;> simp

@[simp] theorem restoreFire_site (s : State) (e : Fin 4) :
    (s.restoreFire.door e).desc = (s.door e).desc ∧ (s.restoreFire.door e).position = (s.door e).position
      ∧ (s.restoreFire.door e).filter = (s.door e).filter ∧ (s.restoreFire.door e).keep = (s.door e).keep := by
  unfold State.restoreFire; (repeat' split) <;> simp [endVerification_door]

@[simp] theorem fallMute_site (s : State) (k : Fin 4) (e : Fin 4) :
    ((s.fallMute k).door e).desc = (s.door e).desc ∧ ((s.fallMute k).door e).position = (s.door e).position
      ∧ ((s.fallMute k).door e).filter = (s.door e).filter ∧ ((s.fallMute k).door e).keep = (s.door e).keep := by
  unfold State.fallMute; (repeat' split) <;> simp

end Sys2Proof.Proofs.PartFrames
end

section
/-! The lighting outputs follow the scene on top (R138, R146 to R148): every operation that changes what the outputs are made of
sets them anew. -/

namespace Sys2Proof.Proofs.Lighting

open Sys2Proof Sys2Proof.Machine Sys2Proof.Proofs.PartFrames Sys2Proof.Proofs.Steps

/-- The outputs depend on these parts of the state alone. -/
theorem same {s t : State} (h : s.LightsFollow) (hl : t.light = s.light) (he : t.egress = s.egress)
    (hs : t.fire.silenced = s.fire.silenced) (hd : ∀ d, (t.door d).desc = (s.door d).desc)
    (hf : t.start.freeze = s.start.freeze) (hforced : t.forced = s.forced) : t.LightsFollow := by
  have ho : t.sceneOutputs = s.sceneOutputs := by simp only [State.sceneOutputs, hl, he, hs, hd]
  simpa only [State.LightsFollow, hforced, hf, hl, ho] using h

theorem forced_congr {s t : State} (hc : (t.start.condition == .cold) = (s.start.condition == .cold))
    (hp : t.start.phase = s.start.phase) (hk : t.start.kind = s.start.kind) : t.forced = s.forced := by
  simp only [State.forced, hc, hp, hk]

theorem descs {s t : State} (h : t.doors = s.doors) (d : Fin 4) : (t.door d).desc = (s.door d).desc := by
  rw [door_congr h]

theorem same' {s t : State} (h : s.LightsFollow) (hl : t.light = s.light) (he : t.egress = s.egress)
    (hs : t.fire.silenced = s.fire.silenced) (hd : ∀ d, (t.door d).desc = (s.door d).desc) (hst : t.start = s.start) :
    t.LightsFollow := same h hl he hs hd (by rw [hst]) (forced_congr (by rw [hst]) (by rw [hst]) (by rw [hst]))

/-- R138: outputs set anew follow, whatever they were. -/
theorem refreshLights_follow (s : State) : s.refreshLights.LightsFollow := by
  unfold State.refreshLights
  split
  next hf => exact ⟨fun _ => rfl, fun hn => by cases hf.symm.trans hn⟩
  next hf =>
    split
    next hz => exact ⟨fun hy => absurd hy hf, fun _ hn => by cases hz.symm.trans hn⟩
    next => exact ⟨fun hy => absurd hy hf, fun _ _ => rfl⟩

theorem pushScene_follow (s : State) (sc : Scene) : (s.pushScene sc).LightsFollow := refreshLights_follow _

theorem removeScene_follow (s : State) (sc : Scene) : (s.removeScene sc).LightsFollow := refreshLights_follow _

theorem deliver_follow (fs : List (State → State)) (hf : ∀ f ∈ fs, ∀ s : State, s.LightsFollow → (f s).LightsFollow)
    (s : State) (h : s.LightsFollow) : (deliver fs s).LightsFollow :=
  deliver_induct State.LightsFollow (fun _ _ h => h) fs hf s h

theorem recomputeEgress_follow (s : State) (h : s.LightsFollow) : s.recomputeEgress.LightsFollow := by
  unfold State.recomputeEgress
  (repeat' split)
  · exact h
  · exact h
  · exact refreshLights_follow _

theorem driveLock_follow (s : State) (d : Fin 4) (h : s.LightsFollow) : (s.driveLock d).LightsFollow := by
  unfold State.driveLock
  dsimp only
  split
  · exact h
  · refine recomputeEgress_follow _ (same' h (by simp) (by simp) (by simp) (fun e => ?_) (by simp))
    rw [markStatus_door]
    exact (setDoor_desc s d e (by exact ⟨rfl, rfl⟩)).1

theorem resolve_follow (s : State) (d : Fin 4) (h : s.LightsFollow) : (s.resolve d).LightsFollow := by
  unfold State.resolve
  split
  · exact same' (driveLock_follow s d h) (by simp) (by simp) (by simp) (by simp) (by simp)
  · exact h

theorem resolves_follow (l : List (Fin 4)) (s : State) (h : s.LightsFollow) :
    (deliver (l.map fun d t => t.resolve d) s).LightsFollow := by
  refine deliver_follow _ (fun f hf t ht => ?_) s h
  obtain ⟨d, -, rfl⟩ := List.mem_map.1 hf
  exact resolve_follow t d ht

theorem resolveAll_follow (s : State) (h : s.LightsFollow) : s.resolveAll.LightsFollow := resolves_follow _ s h

theorem release_follow (s : State) (h : s.LightsFollow) : s.release.LightsFollow := by
  cases hf : s.start.freeze with
  | false => rwa [release_same hf]
  | true => rw [release_frozen hf]; exact refreshLights_follow _

theorem recomputeEvac_follow (s : State) (h : s.LightsFollow) : s.recomputeEvac.LightsFollow := by
  by_cases hd : s.evacDue = s.fire.evac
  · rwa [recomputeEvac_same hd]
  · have he : (evacScene (flagDelivered s) s.evacDue).LightsFollow := by
      unfold evacScene
      split
      · exact pushScene_follow _ _
      · exact removeScene_follow _ _
    rw [recomputeEvac_changed hd]
    exact same' he (by simp) (by simp) (by simp) (descs (by simp)) (by simp)

theorem setFireState_follow (s : State) (f : FireState) (h : s.LightsFollow) : (s.setFireState f).LightsFollow := by
  have h1 : (fireStateSet s f).LightsFollow := same' h rfl rfl rfl (fun _ => rfl) rfl
  rcases setFireState_cases s f with ⟨-, he⟩ | ⟨-, -, -, he⟩ | ⟨-, -, he⟩ <;> rw [he]
  · exact h
  · exact h1
  · exact recomputeEvac_follow _ h1

theorem setSounderSilenced_follow (s : State) (b : Bool) : (s.setSounderSilenced b).LightsFollow := refreshLights_follow _

theorem enterFire_follow (s : State) (h : s.LightsFollow) : s.enterFire.LightsFollow := by
  unfold State.enterFire
  split
  · exact h
  · exact setFireState_follow _ _ (setSounderSilenced_follow _ _)

theorem loopAlarm_follow (s : State) (l : Fin 6) (h : s.LightsFollow) : (s.loopAlarm l).LightsFollow := by
  have hv : (s.enterVerify l).LightsFollow :=
    setFireState_follow _ _ (same' h (by simp) (by simp) (by simp) (descs (by simp)) (by simp))
  unfold State.loopAlarm
  (repeat' split)
  all_goals first | exact h | exact hv | exact enterFire_follow s h

theorem endVerification_follow (s : State) (h : s.LightsFollow) : s.endVerification.LightsFollow :=
  same' h (by simp) (by simp) (by simp) (descs (by simp)) (by simp)

theorem restoreFire_follow (s : State) (h : s.LightsFollow) : s.restoreFire.LightsFollow := by
  unfold State.restoreFire
  (repeat' split)
  · exact h
  · exact setFireState_follow _ _ h
  all_goals first | exact h | exact setFireState_follow _ _ (endVerification_follow s h)

theorem ackVerification_follow (s : State) (h : s.LightsFollow) : s.ackVerification.LightsFollow := by
  unfold State.ackVerification
  dsimp only
  split
  · exact same' h (by simp) (by simp) (by simp) (descs (by simp)) (by simp)
  · exact h

theorem endRound_follow (s : State) (h : s.LightsFollow) : s.endRound.LightsFollow := by
  unfold State.endRound
  split
  · exact removeScene_follow _ _
  · exact h

/-- R143: the base scene is replaced and the outputs are set anew before the watch unit takes the mode. -/
theorem changeMode_follow (s : State) (m : Mode) (h : s.LightsFollow) : (s.changeMode m).LightsFollow := by
  by_cases hm : s.modes.mode = m
  · subst hm; rwa [changeMode_same]
  · rw [changeMode_changed hm]
    have hb : (modeDelivered s m).replaceBase.LightsFollow := refreshLights_follow _
    unfold State.watchModeChange
    (repeat' split)
    · exact hb
    · exact same' hb (by simp) (by simp) (by simp) (descs (by simp)) (by simp)
    · exact endRound_follow _ (same' hb (by simp) (by simp) (by simp) (descs (by simp)) (by simp))
    · exact hb

theorem changeEntry_follow (s : State) (k : Fin 4) (old new : NbEntry) (h : s.LightsFollow) :
    (s.changeEntry k old new).LightsFollow := by
  rw [changeEntry_eq]
  refine deliver_follow _ ?_ _ (same' h (by simp) (by simp) (by simp) (descs (by simp)) (by simp))
  simp only [List.mem_cons, List.not_mem_nil, or_false]
  rintro f (rfl | rfl | rfl) t ht
  · unfold corroborateBy State.corroborate
    (repeat' split)
    · exact enterFire_follow t ht
    · exact ht
    · exact ht
  · unfold resolveBy
    split
    · exact resolves_follow _ t ht
    · exact ht
  · unfold recomputeIf
    split
    · exact recomputeEgress_follow t ht
    · exact ht

theorem entryTakes_follow (s : State) (f : StatusFrame) (k : Fin 4) (h : s.LightsFollow) : (s.entryTakes f k).LightsFollow := by
  unfold State.entryTakes
  (repeat' split)
  · exact h
  · exact changeEntry_follow _ _ _ _ (same' h (by simp) (by simp) (by simp) (descs (by simp)) (by simp))
  · exact h

theorem fallMute_follow (s : State) (k : Fin 4) (h : s.LightsFollow) : (s.fallMute k).LightsFollow := by
  unfold State.fallMute
  (repeat' split)
  · exact h
  · exact h
  · exact changeEntry_follow s _ _ _ h

theorem rosterTakes_follow (s : State) (f : StatusFrame) (h : s.LightsFollow) : (s.rosterTakes f).LightsFollow := by
  have hr : ∀ l, (s.setRoster l).LightsFollow := fun l => same' h rfl rfl rfl (fun _ => rfl) rfl
  unfold State.rosterTakes
  dsimp only
  (repeat' split)
  · exact hr _
  · exact setSounderSilenced_follow _ _
  · exact recomputeEvac_follow _ (hr _)
  · exact h

theorem sweepRoster_follow (s : State) (h : s.LightsFollow) : s.sweepRoster.LightsFollow := by
  have hr : ∀ l, (s.setRoster l).LightsFollow := fun l => same' h rfl rfl rfl (fun _ => rfl) rfl
  unfold State.sweepRoster
  dsimp only
  split
  · exact recomputeEvac_follow _ (hr _)
  · exact hr _

theorem respondAlert_follow (s : State) (h : s.LightsFollow) : s.respondAlert.LightsFollow := by
  cases hi : s.watch.intrusion with
  | true => rwa [respondAlert_set hi]
  | false =>
    rw [respondAlert_clear hi]
    exact same' (resolveAll_follow (alerted s) (pushScene_follow _ _)) (by simp) (by simp) (by simp) (fun _ => rfl) (by simp)

theorem restoreWatch_follow (s : State) (h : s.LightsFollow) : s.restoreWatch.LightsFollow := by
  by_cases hc : s.watch.intrusion = true ∧ s.inputActive = false
  · rw [restoreWatch_cleared hc]
    exact same' (resolveAll_follow (latchesCleared s) (removeScene_follow _ _)) (by simp) (by simp) (by simp) (fun _ => rfl) (by simp)
  · rw [restoreWatch_kept hc]
    exact same' h rfl rfl rfl (fun _ => rfl) rfl

theorem takePassage_follow (s : State) (h : s.LightsFollow) : s.takePassage.LightsFollow := by
  have h1 : (State.startTimer { s with doors := { s.doors with passage := true } } .t21 s.cfg.passage .ms100 .oneShot 0).LightsFollow :=
    same' h (by simp) (by simp) (by simp) (fun e => by rw [startTimer_door]; rfl) (by simp)
  unfold State.takePassage
  dsimp only
  split
  · exact h1
  · exact resolveAll_follow _ h1

theorem guardWatch_follow (s : State) (h : s.LightsFollow) : s.guardWatch.LightsFollow := by
  unfold State.guardWatch
  split
  · exact h
  · exact same' h (by simp) (by simp) (by simp) (descs (by simp)) (by simp)
  · exact pushScene_follow _ _

theorem doorCloses_follow (s : State) (d : Fin 4) (h : s.LightsFollow) : (s.doorCloses d).LightsFollow := by
  have h1 : (doorShut s d).LightsFollow := same' h (by simp) (by simp) (by simp) (fun e => (doorShut_desc s d e).1) (by simp)
  rw [doorCloses_eq]
  exact same' (driveLock_follow _ d h1) (by simp) (by simp) (by simp) (by simp) (by simp)

theorem doorOpens_follow (s : State) (d : Fin 4) (h : s.LightsFollow) : (s.doorOpens d).LightsFollow := by
  have h1 : (doorAway s d).LightsFollow := same' h (by simp) (by simp) (by simp) (fun e => (doorAway_desc s d e).1) (by simp)
  have h2 : (doorDriven s d).LightsFollow := same' (driveLock_follow _ d h1) (by simp [doorDriven]) (by simp [doorDriven])
    (by simp [doorDriven]) (by simp [doorDriven]) (by simp [doorDriven])
  rw [doorOpens_eq]
  refine same' h2 (by simp) (by simp) (by simp) (fun e => ?_) (by simp)
  rw [(ajarUpdate_site _ d e).1]
  exact (setDoor_desc (doorDriven s d) d e (by exact ⟨rfl, rfl⟩)).1

theorem doorLost_follow (s : State) (d : Fin 4) (h : s.LightsFollow) : (s.doorLost d).LightsFollow := by
  have h1 : (doorUnsensed s d).LightsFollow := same' h (by simp) (by simp) (by simp) (fun e => (doorUnsensed_desc s d e).1) (by simp)
  rw [doorLost_eq]
  exact same' (driveLock_follow _ d h1) (by simp) (by simp) (by simp) (by simp) (by simp)

theorem firstReading_follow (s : State) (d : Fin 4) (p : Position) (h : s.LightsFollow) : (s.firstReading d p).LightsFollow := by
  have h1 : (doorRead s d p).LightsFollow := same' h (by simp) (by simp) (by simp) (fun e => (doorRead_desc s d e p).1) (by simp)
  rw [firstReading_eq]
  exact resolve_follow _ d h1

theorem settle_follow (s : State) (h : s.LightsFollow) : s.settle.LightsFollow := by
  unfold State.settle
  split
  · exact h
  · exact changeMode_follow _ _ (same' h rfl rfl rfl (fun _ => rfl) rfl)

theorem beginRun_follow (s : State) (hl : s.listening = true) (h : s.LightsFollow) : s.beginRun.LightsFollow := by
  have hphase : (s.setPhase .run).LightsFollow := by
    refine same h rfl rfl rfl (fun _ => rfl) rfl ?_
    simp only [State.listening, Bool.or_eq_true, beq_iff_eq] at hl
    rcases hl with hp | hp <;> simp only [State.forced, State.setPhase_start, hp] <;> rfl
  have hd : (deliver [State.settle, State.firstEgress, State.release] (s.setPhase .run)).LightsFollow := by
    refine deliver_follow _ ?_ _ hphase
    simp only [List.mem_cons, List.not_mem_nil, or_false]
    rintro f (rfl | rfl | rfl) t ht
    · exact settle_follow t ht
    · exact refreshLights_follow _
    · exact release_follow t ht
  unfold State.beginRun
  dsimp only
  split <;> exact same' hd (by simp) (by simp) (by simp) (descs (by simp)) (by simp)

theorem configGood_follow (s : State) (img : Image) : (s.configGood img).LightsFollow := by
  cases hk : s.start.kind with
  | cold => rw [configGood_cold img hk]; exact refreshLights_follow _
  | warm => rw [configGood_warm img hk]; exact refreshLights_follow _

/-- R138: every operation keeps the outputs. -/
theorem kept : KeptByAll State.LightsFollow := by
  constructor
  case toKept =>
    constructor
    case quiet =>
      exact fun q h => same h q.light q.egress q.silenced q.desc q.freeze (forced_congr q.cold q.startPhase q.kind)
    case buzzerSilenced => exact fun s h => same' h rfl rfl rfl (fun _ => rfl) rfl
    case loopAlarm => exact loopAlarm_follow
    case unlatched => exact fun s _ => setFireState_follow s _
    case enterFire => exact fun s _ => enterFire_follow s
    case ackVerification => exact ackVerification_follow
    case setSounderSilenced => exact fun s b _ => setSounderSilenced_follow s b
    case rosterTakes => exact fun s f _ _ => rosterTakes_follow s f
    case entryTakes => exact entryTakes_follow
    case fallMute => exact fallMute_follow
    case sweepRoster => exact sweepRoster_follow
    case changeMode => exact changeMode_follow
    case respondAlert => exact respondAlert_follow
    case guardWatch => exact fun s _ => guardWatch_follow s
    case endRound => exact endRound_follow
    case pressTest =>
      intro s _ h
      exact same' (pushScene_follow s .test) (by simp [State.pressTest]) (by simp [State.pressTest]) (by simp [State.pressTest])
        (descs (by simp [State.pressTest])) (by simp [State.pressTest])
    case testEnds => exact fun s _ => removeScene_follow s _
    case takePassage => exact fun s _ => takePassage_follow s
    case passageWithdrawn => exact fun s h => resolveAll_follow _ (same' h rfl rfl rfl (fun _ => rfl) rfl)
    case firstReading => exact fun s d p _ _ _ => firstReading_follow s d p
    case doorCloses => exact fun s d _ _ _ => doorCloses_follow s d
    case doorOpens => exact fun s d _ _ _ => doorOpens_follow s d
    case doorLost => exact fun s d _ _ _ => doorLost_follow s d
    case frameOver => exact fun _ _ _ _ _ _ => refreshLights_follow _
    case releaseWarm => exact fun _ _ _ _ => refreshLights_follow _
    case enterUnconfigured => exact fun _ _ _ _ => refreshLights_follow _
    case configGood => exact fun s _ img _ _ _ _ => configGood_follow s img
    case beginRun => exact fun s _ => beginRun_follow s
    case takeOffer | setOffered | clearPoint | escalate | attendLapse | sweepCalls | takeNotice | guardSet | beginFrame =>
      intros
      exact same' ‹State.LightsFollow _› (by simp) (by simp) (by simp) (descs (by simp)) (by simp)
    all_goals
      intros
      exact same' ‹State.LightsFollow _› (by simp) (by simp) (by simp) (by simp) (by simp)
  case cold => exact fun s => ⟨fun _ => rfl, fun hn => by cases hn⟩
  case releaseCold => exact fun s _ _ _ => ⟨fun _ => rfl, fun hn => by cases hn⟩
  case restoreFire => exact fun s _ => restoreFire_follow s
  case restoreWatch => exact restoreWatch_follow
  case raiseCall =>
    exact fun s p h => same' h (by simp) (by simp) (by simp) (descs (by simp)) (by simp)

/-- Settles O58. -/
theorem lightingFollowsTheSceneOnTop : Obligations.LightingFollowsTheSceneOnTop :=
  fun _ _ h hstep => kept.step h hstep

end Sys2Proof.Proofs.Lighting
end

section
/-! The scene stack keeps its order (R139 to R143). -/

namespace Sys2Proof.Proofs.SceneStack

open Sys2Proof Sys2Proof.Machine Sys2Proof.Proofs.PartFrames Sys2Proof.Proofs.Steps

/-! ### The scenes above the base -/

/-- The scenes that may lie above the base. -/
def Pushable (sc : Scene) : Prop := sc = .round ∨ sc = .intrusion ∨ sc = .test ∨ sc = .evacuate

/-- R139 for the scenes above the base, a depth limit and the evacuation flag. -/
structure Fits (depth : Nat) (evac : Bool) (above : List Scene) : Prop where
  nodup : above.Nodup
  evacuate : Scene.evacuate ∈ above ↔ evac = true
  top : evac = true → above.getLast? = some .evacuate
  scenes : ∀ sc ∈ above, Pushable sc
  short : above.length < depth

theorem not_mem_of_base {above : List Scene} (h : ∀ sc ∈ above, Pushable sc) (m : Mode) : baseScene m ∉ above := by
  intro hm
  rcases h _ hm with hb | hb | hb | hb <;> cases m <;> cases hb

theorem stackSound_iff (s : State) : s.StackSound ↔ s.light.base = baseScene s.modes.mode
    ∧ Fits s.cfg.depth s.fire.evac s.light.above ∧ 3 ≤ s.cfg.depth
    ∧ (s.start.phase = .configRead → ∀ sc ∈ s.light.above, sc = .intrusion ∨ sc = .evacuate) := by
  have hbase : ∀ m : Mode, Scene.evacuate ≠ baseScene m := by intro m; cases m <;> simp [baseScene]
  have htop : ∀ m : Mode, s.light.above.getLast?.getD (baseScene m) = .evacuate ↔ s.light.above.getLast? = some .evacuate := by
    intro m
    cases hl : s.light.above.getLast? with
    | none => simpa using (hbase m).symm
    | some sc => simp
  constructor
  · rintro ⟨hb, hn, he, ht, hs, h3, hd, hc⟩
    simp only [LightUnit.stack, LightUnit.top, hb, htop, List.mem_cons, hbase, false_or, List.nodup_cons, List.length_cons] at hn he ht hd
    exact ⟨hb, ⟨hn.2, he, ht, hs, hd⟩, h3, hc⟩
  · rintro ⟨hb, hf, h3, hc⟩
    simp only [State.StackSound, LightUnit.stack, LightUnit.top, hb, htop, List.mem_cons, hbase, false_or, List.nodup_cons, List.length_cons]
    exact ⟨trivial, ⟨not_mem_of_base hf.scenes _, hf.nodup⟩, hf.evacuate, hf.top, hf.scenes, h3, hf.short, hc⟩

theorem nodup_placeScene {sc : Scene} {above : List Scene} (h : above.Nodup) (hn : sc ∉ above) : (placeScene sc above).Nodup := by
  unfold placeScene
  split
  next hc =>
    have h1 : (above.erase .evacuate).Nodup := h.erase _
    refine List.nodup_append.2 ⟨h1, by simp [hc.2], ?_⟩
    rintro a ha b hb rfl
    rcases List.mem_cons.1 hb with rfl | hb
    · exact hn (List.mem_of_mem_erase ha)
    · rw [List.mem_singleton.1 hb] at ha
      exact h.not_mem_erase ha
  next =>
    refine List.nodup_append.2 ⟨h, by simp, ?_⟩
    rintro a ha b hb rfl
    exact hn (List.mem_singleton.1 hb ▸ ha)

theorem length_placeScene (sc : Scene) (above : List Scene) : (placeScene sc above).length = above.length + 1 := by
  unfold placeScene
  split
  next hc =>
    have := List.length_erase_of_mem hc.1
    have := List.length_pos_of_mem hc.1
    simp only [List.length_append, List.length_cons, List.length_nil]
    omega
  next => simp

theorem getLast_placeScene (sc : Scene) (above : List Scene) (h : Scene.evacuate ∈ placeScene sc above) :
    (placeScene sc above).getLast? = some .evacuate := by
  unfold placeScene at h ⊢
  split
  · simp
  next hc =>
    rw [if_neg hc] at h
    have : sc = .evacuate := by
      by_contra hne
      have : Scene.evacuate ∈ above := by simpa [Ne.symm hne] using h
      exact hc ⟨this, hne⟩
    simp [this]

theorem mem_dropVictim {sc : Scene} {above : List Scene} (h : sc ∈ dropVictim above) : sc ∈ above := List.mem_of_mem_eraseP h

theorem evacuate_mem_dropVictim (above : List Scene) : Scene.evacuate ∈ dropVictim above ↔ Scene.evacuate ∈ above :=
  List.mem_eraseP_of_neg (by simp)

/-- R141: at the limit there is a victim, since EVACUATE stands once. -/
theorem length_dropVictim {above : List Scene} (h : above.Nodup) (h2 : 2 ≤ above.length) :
    (dropVictim above).length + 1 = above.length := by
  have hex : ∃ sc ∈ above, (sc != .evacuate) = true := by
    by_contra hno
    have hall : ∀ sc ∈ above, sc = .evacuate := fun sc hsc => by
      by_contra hne
      exact hno ⟨sc, hsc, by simpa using hne⟩
    match above, h, h2, hall with
    | a :: b :: _, h, _, hall =>
      have : a = b := (hall a (by simp)).trans (hall b (by simp)).symm
      simp [this] at h
  obtain ⟨sc, hsc, hne⟩ := hex
  have := List.length_eraseP_of_mem (p := fun x => x != Scene.evacuate) hsc hne
  have := List.length_pos_of_mem hsc
  unfold dropVictim
  omega

namespace Fits

variable {depth : Nat} {evac : Bool} {above : List Scene}

/-- A placing on what is left of the stack, where there is room. -/
theorem place {left : List Scene} {sc : Scene} (hp : Pushable sc) (hn : left.Nodup) (hnot : sc ∉ left)
    (hs : ∀ x ∈ left, Pushable x) (hl : left.length + 1 < depth) (he : (sc = .evacuate ∨ Scene.evacuate ∈ left) ↔ evac = true) :
    Fits depth evac (placeScene sc left) := by
  have hmem : Scene.evacuate ∈ placeScene sc left ↔ evac = true := by
    rw [mem_placeScene, ← he]
    simp [eq_comm]
  refine ⟨nodup_placeScene hn hnot, hmem, fun h => getLast_placeScene sc left (hmem.2 h), fun x hx => ?_, by rwa [length_placeScene]⟩
  rcases (mem_placeScene sc x left).1 hx with rfl | hx
  · exact hp
  · exact hs x hx

/-- R140, R141: a push, of EVACUATE with its flag. -/
theorem push {evac' : Bool} (h : Fits depth evac above) (h3 : 3 ≤ depth) {sc : Scene} (hp : Pushable sc)
    (he : (sc = .evacuate ∨ evac = true) ↔ evac' = true) : Fits depth evac' (pushed depth sc above) := by
  unfold pushed
  split
  next hin =>
    refine place hp (h.nodup.erase _) h.nodup.not_mem_erase (fun x hx => h.scenes x (List.mem_of_mem_erase hx)) ?_ ?_
    · have := List.length_erase_of_mem hin
      have := List.length_pos_of_mem hin
      have := h.short
      omega
    · rw [← he]
      by_cases hsc : sc = .evacuate
      · simp [hsc]
      · rw [List.mem_erase_of_ne (Ne.symm hsc), h.evacuate]
  next hnot =>
    split
    next hfull =>
      have hlen := length_dropVictim h.nodup (by omega)
      have := h.short
      refine place hp (List.Nodup.sublist List.eraseP_sublist h.nodup) (fun hm => hnot (mem_dropVictim hm))
        (fun x hx => h.scenes x (mem_dropVictim hx)) (by omega) ?_
      rw [evacuate_mem_dropVictim, h.evacuate, he]
    next hroom =>
      exact place hp h.nodup hnot h.scenes (by omega) (by rw [h.evacuate, he])

/-- R142: a removal of a scene other than EVACUATE. -/
theorem remove (h : Fits depth evac above) {sc : Scene} (hsc : sc ≠ .evacuate) : Fits depth evac (above.erase sc) := by
  refine ⟨h.nodup.erase _, by rw [List.mem_erase_of_ne hsc.symm, h.evacuate], fun hev => ?_,
    fun x hx => h.scenes x (List.mem_of_mem_erase hx), lt_of_le_of_lt (List.length_erase_le) h.short⟩
  obtain ⟨xs, rfl⟩ := List.getLast?_eq_some_iff.1 (h.top hev)
  by_cases hx : sc ∈ xs
  · simp [List.erase_append_left _ hx]
  · rw [List.erase_append_right _ hx, List.erase_of_not_mem (by simpa using hsc)]
    simp

/-- R142: EVACUATE is removed as its flag falls. -/
theorem removeEvacuate (h : Fits depth evac above) : Fits depth false (above.erase .evacuate) :=
  ⟨h.nodup.erase _, by simpa using h.nodup.not_mem_erase, by simp, fun x hx => h.scenes x (List.mem_of_mem_erase hx),
    lt_of_le_of_lt (List.length_erase_le) h.short⟩

end Fits

end Sys2Proof.Proofs.SceneStack
end

section
/-! The scene stack keeps its order: every operation. -/

namespace Sys2Proof.Proofs.PartFrames

open Sys2Proof Sys2Proof.Machine

@[simp] theorem doorCloses_light (s : State) (d : Fin 4) :
    (s.doorCloses d).light.base = s.light.base ∧ (s.doorCloses d).light.above = s.light.above := by simp [doorCloses_eq]

@[simp] theorem doorOpens_light (s : State) (d : Fin 4) :
    (s.doorOpens d).light.base = s.light.base ∧ (s.doorOpens d).light.above = s.light.above := by simp [doorOpens_eq, doorDriven]

@[simp] theorem doorLost_light (s : State) (d : Fin 4) :
    (s.doorLost d).light.base = s.light.base ∧ (s.doorLost d).light.above = s.light.above := by simp [doorLost_eq]

@[simp] theorem firstReading_light (s : State) (d : Fin 4) (p : Position) :
    (s.firstReading d p).light.base = s.light.base ∧ (s.firstReading d p).light.above = s.light.above := by
  simp [firstReading_eq]

@[simp] theorem takePassage_light (s : State) :
    s.takePassage.light.base = s.light.base ∧ s.takePassage.light.above = s.light.above := by
  unfold State.takePassage; dsimp only; split <;> simp

@[simp] theorem loopAlarm_base (s : State) (l : Fin 6) : (s.loopAlarm l).light.base = s.light.base := by
  unfold State.loopAlarm; (repeat' split) <;> simp

@[simp] theorem restoreFire_base (s : State) : s.restoreFire.light.base = s.light.base := by
  unfold State.restoreFire; (repeat' split) <;> simp

@[simp] theorem fallMute_base (s : State) (k : Fin 4) : (s.fallMute k).light.base = s.light.base := by
  unfold State.fallMute; (repeat' split) <;> simp

@[simp] theorem respondAlert_light (s : State) :
    s.respondAlert.light.base = s.light.base
      ∧ s.respondAlert.light.above = (if s.watch.intrusion then s.light.above else pushed s.cfg.depth .intrusion s.light.above) := by
  cases h : s.watch.intrusion with
  | true => simp [respondAlert_set h]
  | false => simp [respondAlert_clear h]

@[simp] theorem restoreWatch_light (s : State) :
    s.restoreWatch.light.base = s.light.base
      ∧ s.restoreWatch.light.above
        = (if s.watch.intrusion && !s.inputActive then s.light.above.erase .intrusion else s.light.above) := by
  by_cases hc : s.watch.intrusion = true ∧ s.inputActive = false
  · simp [restoreWatch_cleared hc, hc.1, hc.2]
  · have hb : (s.watch.intrusion && !s.inputActive) = false := by
      rw [← Bool.not_eq_true]; simpa using hc
    rw [restoreWatch_kept hc, hb]
    exact ⟨rfl, rfl⟩

@[simp] theorem endRound_light (s : State) :
    s.endRound.light.base = s.light.base
      ∧ s.endRound.light.above = (if s.watch.round then s.light.above.erase .round else s.light.above) := by
  unfold State.endRound; split <;> simp [*]

@[simp] theorem guardWatch_light (s : State) :
    s.guardWatch.light.base = s.light.base
      ∧ s.guardWatch.light.above
        = (if s.watch.guard = .watching then pushed s.cfg.depth .round s.light.above else s.light.above) := by
  unfold State.guardWatch; split <;> simp [*, State.cfg]

@[simp] theorem pressTest_light (s : State) :
    s.pressTest.light.base = s.light.base ∧ s.pressTest.light.above = pushed s.cfg.depth .test s.light.above := by
  simp [State.pressTest]

end Sys2Proof.Proofs.PartFrames

namespace Sys2Proof.Proofs.SceneStack

open Sys2Proof Sys2Proof.Machine Sys2Proof.Proofs.PartFrames Sys2Proof.Proofs.Steps

/-- R139, R147 for the scenes above the base. -/
def Ordered (s : State) : Prop :=
  Fits s.cfg.depth s.fire.evac s.light.above ∧ 3 ≤ s.cfg.depth
    ∧ (s.start.phase = .configRead → ∀ sc ∈ s.light.above, sc = .intrusion ∨ sc = .evacuate)

/-- R139 for the base. -/
def Based (s : State) : Prop := s.light.base = baseScene s.modes.mode

theorem stackSound_iff_based (s : State) : s.StackSound ↔ Based s ∧ Ordered s := stackSound_iff s

/-! ### The base -/

theorem based_same {s t : State} (h : Based s) (hb : t.light.base = s.light.base) (hm : t.modes.mode = s.modes.mode) : Based t := by
  rw [Based, hb, hm]; exact h

theorem changeMode_based (s : State) (m : Mode) (h : Based s) : Based (s.changeMode m) := by
  by_cases hm : s.modes.mode = m
  · subst hm; rwa [changeMode_same]
  · rw [changeMode_changed hm]
    have hb : Based (modeDelivered s m).replaceBase := by simp [Based]
    refine based_same hb ?_ (by simp)
    unfold State.watchModeChange
    (repeat' split) <;> simp

theorem beginRun_based (s : State) (h : Based s) : Based s.beginRun := by
  have hd : Based (deliver [State.settle, State.firstEgress, State.release] (s.setPhase .run)) := by
    refine deliver_induct Based (fun _ _ h => h) _ ?_ _ h
    simp only [List.mem_cons, List.not_mem_nil, or_false]
    rintro f (rfl | rfl | rfl) t ht
    · unfold State.settle
      split
      · exact ht
      · exact changeMode_based _ _ ht
    · exact based_same ht (by simp) (by simp)
    · exact based_same ht (by simp) (by simp)
  unfold State.beginRun
  dsimp only
  split <;> exact based_same hd (by simp) (by simp)

theorem enterUnconfigured_based (s : State) (h : Based s) : Based s.enterUnconfigured := by
  have hf : ∀ t : State, t.unconfiguredFire.light.base = t.light.base := by
    intro t; unfold State.unconfiguredFire; split <;> simp
  refine based_same h ?_ ?_ <;> simp [State.enterUnconfigured, hf, State.stripped]

theorem configGood_based (s : State) (img : Image) (h : Based s) : Based (s.configGood img) := by
  cases hk : s.start.kind with
  | cold => rw [configGood_cold img hk]; exact based_same h (by simp) (by simp)
  | warm => rw [configGood_warm img hk]; exact based_same h (by simp) (by simp)

theorem releaseWarm_based (s : State) : Based s.releaseWarm := by
  simp [Based, State.releaseWarm]

theorem based_kept : KeptByAll Based := by
  constructor
  case toKept =>
    constructor
    case quiet => exact fun q h => based_same h (by rw [q.light]) q.mode
    case changeMode => exact changeMode_based
    case frameOver => exact fun _ t _ _ _ _ => releaseWarm_based t.hold
    case releaseWarm => exact fun s _ _ _ => releaseWarm_based s
    case enterUnconfigured => exact fun s _ _ => enterUnconfigured_based s
    case configGood => exact fun s _ img _ _ _ => configGood_based s img
    case beginRun => exact fun s _ _ => beginRun_based s
    case ackVerification =>
      intro s h
      unfold State.ackVerification
      dsimp only
      split
      · exact based_same h (by simp) (by simp)
      · exact h
    case buzzerSilenced | passageWithdrawn =>
      intro s h
      exact based_same h (by simp [buzzerSilenced, passageWithdrawn]) (by simp [buzzerSilenced, passageWithdrawn])
    all_goals
      intros
      exact based_same ‹Based _› (by simp) (by simp)
  case cold => exact fun _ => rfl
  case releaseCold => exact fun _ _ _ _ => rfl
  all_goals
    intros
    exact based_same ‹Based _› (by simp) (by simp)

/-! ### The scenes above it -/

theorem same {s t : State} (h : Ordered s) (ha : t.light.above = s.light.above) (he : t.fire.evac = s.fire.evac)
    (hi : t.start.image = s.start.image) (hp : t.start.phase = s.start.phase) : Ordered t := by
  simpa only [Ordered, State.cfg, ha, he, hi, hp] using h

/-- R147: what may be pushed in CONFIG-READ. -/
theorem pushed_read {depth : Nat} {above : List Scene} {sc : Scene} (hsc : sc = .intrusion ∨ sc = .evacuate)
    (h : ∀ x ∈ above, x = .intrusion ∨ x = .evacuate) : ∀ x ∈ pushed depth sc above, x = .intrusion ∨ x = .evacuate := by
  intro x hx
  have hmem : x = sc ∨ x ∈ above := by
    unfold pushed at hx
    (repeat' split at hx) <;> rcases (mem_placeScene _ _ _).1 hx with h | h
    · exact .inl h
    · exact .inr (List.mem_of_mem_erase h)
    · exact .inl h
    · exact .inr (mem_dropVictim h)
    · exact .inl h
    · exact .inr h
  rcases hmem with rfl | hx
  · exact hsc
  · exact h x hx

/-- A scene other than EVACUATE pushed. -/
theorem push_ordered {s t : State} {sc : Scene} (h : Ordered s) (hp : Pushable sc) (hne : sc ≠ .evacuate)
    (hread : s.start.phase = .configRead → sc = .intrusion) (ha : t.light.above = pushed s.cfg.depth sc s.light.above)
    (he : t.fire.evac = s.fire.evac) (hst : t.start = s.start) : Ordered t := by
  obtain ⟨hf, h3, hc⟩ := h
  simp only [Ordered, State.cfg, ha, he, hst]
  exact ⟨hf.push h3 hp (by simp [hne]), h3, fun hph => pushed_read (.inl (hread hph)) (hc hph)⟩

/-- A scene other than EVACUATE removed. -/
theorem remove_ordered {s t : State} {sc : Scene} (h : Ordered s) (hne : sc ≠ .evacuate)
    (ha : t.light.above = s.light.above.erase sc) (he : t.fire.evac = s.fire.evac) (hst : t.start = s.start) : Ordered t := by
  obtain ⟨hf, h3, hc⟩ := h
  simp only [Ordered, State.cfg, ha, he, hst]
  exact ⟨hf.remove hne, h3, fun hph x hx => hc hph x (List.mem_of_mem_erase hx)⟩

/-- R34: EVACUATE is pushed and removed with the flag. -/
theorem recomputeEvac_ordered (s : State) (h : Ordered s) : Ordered s.recomputeEvac := by
  obtain ⟨hf, h3, hc⟩ := h
  by_cases hd : s.evacDue = s.fire.evac
  · rw [recomputeEvac_same hd]; exact ⟨hf, h3, hc⟩
  · have hcfg : (flagDelivered s).cfg = s.cfg := by simp [State.cfg]
    have habove : s.recomputeEvac.light.above
        = (if s.evacDue then pushed s.cfg.depth .evacuate s.light.above else s.light.above.erase .evacuate) := by
      simp [recomputeEvac_changed hd, hcfg]
    have hcfg' : s.recomputeEvac.cfg = s.cfg := by simp [State.cfg]
    simp only [Ordered, hcfg', habove, recomputeEvac_parts]
    cases hdue : s.evacDue with
    | true => exact ⟨hf.push h3 (by simp [Pushable]) (by simp), h3, fun hph => pushed_read (.inr rfl) (hc hph)⟩
    | false => exact ⟨hf.removeEvacuate, h3, fun hph x hx => hc hph x (List.mem_of_mem_erase hx)⟩

theorem setFireState_ordered (s : State) (f : FireState) (h : Ordered s) : Ordered (s.setFireState f) := by
  have h1 : Ordered (fireStateSet s f) := same h rfl rfl rfl rfl
  rcases setFireState_cases s f with ⟨-, he⟩ | ⟨-, -, -, he⟩ | ⟨-, -, he⟩ <;> rw [he]
  · exact h
  · exact h1
  · exact recomputeEvac_ordered _ h1

theorem enterFire_ordered (s : State) (h : Ordered s) : Ordered s.enterFire := by
  unfold State.enterFire
  split
  · exact h
  · exact setFireState_ordered _ _ (same h (by simp) (by simp) (by simp) (by simp))

theorem loopAlarm_ordered (s : State) (l : Fin 6) (h : Ordered s) : Ordered (s.loopAlarm l) := by
  have hv : Ordered (s.enterVerify l) := setFireState_ordered _ _ (same h (by simp) (by simp) (by simp) (by simp))
  unfold State.loopAlarm
  (repeat' split)
  all_goals first | exact h | exact hv | exact enterFire_ordered s h

theorem restoreFire_ordered (s : State) (h : Ordered s) : Ordered s.restoreFire := by
  unfold State.restoreFire
  (repeat' split)
  · exact h
  · exact setFireState_ordered _ _ h
  all_goals first | exact h | exact setFireState_ordered _ _ (same h (by simp) (by simp) (by simp) (by simp))

theorem deliver_ordered (fs : List (State → State)) (hf : ∀ f ∈ fs, ∀ s : State, Ordered s → Ordered (f s)) (s : State)
    (h : Ordered s) : Ordered (deliver fs s) := deliver_induct Ordered (fun _ _ h => h) fs hf s h

theorem endRound_ordered (s : State) (h : Ordered s) : Ordered s.endRound := by
  unfold State.endRound
  split
  · exact remove_ordered (sc := .round) h (by simp) (by simp) (by simp) (by simp)
  · exact h

theorem changeMode_ordered (s : State) (m : Mode) (h : Ordered s) : Ordered (s.changeMode m) := by
  by_cases hm : s.modes.mode = m
  · subst hm; rwa [changeMode_same]
  · rw [changeMode_changed hm]
    have hd : Ordered (modeDelivered s m) := by
      refine deliver_ordered _ ?_ _ h
      simp only [List.mem_cons, List.not_mem_nil, or_false]
      rintro f (rfl | rfl) t ht
      · exact same ht (by simp) (by simp) (by simp) (by simp)
      · unfold State.fireModeChange
        split
        · exact enterFire_ordered t ht
        · exact ht
    have hb : Ordered (modeDelivered s m).replaceBase := same hd (by simp) (by simp) (by simp) (by simp)
    unfold State.watchModeChange
    (repeat' split)
    · exact hb
    · exact same hb (by simp) (by simp) (by simp) (by simp)
    · exact endRound_ordered _ (same hb (by simp) (by simp) (by simp) (by simp))
    · exact hb

theorem changeEntry_ordered (s : State) (k : Fin 4) (old new : NbEntry) (h : Ordered s) : Ordered (s.changeEntry k old new) := by
  rw [changeEntry_eq]
  refine deliver_ordered _ ?_ _ (same h (by simp) (by simp) (by simp) (by simp))
  simp only [List.mem_cons, List.not_mem_nil, or_false]
  rintro f (rfl | rfl | rfl) t ht
  · unfold corroborateBy State.corroborate
    (repeat' split)
    · exact enterFire_ordered t ht
    · exact ht
    · exact ht
  · exact same ht (by simp) (by simp) (by simp) (by simp)
  · exact same ht (by simp) (by simp) (by simp) (by simp)

theorem entryTakes_ordered (s : State) (f : StatusFrame) (k : Fin 4) (h : Ordered s) : Ordered (s.entryTakes f k) := by
  unfold State.entryTakes
  (repeat' split)
  · exact h
  · exact changeEntry_ordered _ _ _ _ (same h (by simp) (by simp) (by simp) (by simp))
  · exact h

theorem fallMute_ordered (s : State) (k : Fin 4) (h : Ordered s) : Ordered (s.fallMute k) := by
  unfold State.fallMute
  (repeat' split)
  · exact h
  · exact h
  · exact changeEntry_ordered _ _ _ _ h

theorem rosterTakes_ordered (s : State) (f : StatusFrame) (h : Ordered s) : Ordered (s.rosterTakes f) := by
  have hr : ∀ l, Ordered (s.setRoster l) := fun l => same h rfl rfl rfl rfl
  unfold State.rosterTakes
  dsimp only
  (repeat' split)
  · exact hr _
  · exact same (recomputeEvac_ordered _ (hr (s.table.roster ++ [{ station := f.source, mark := true }]))) (by simp) (by simp)
      (by simp) (by simp)
  · exact recomputeEvac_ordered _ (hr _)
  · exact h

theorem sweepRoster_ordered (s : State) (h : Ordered s) : Ordered s.sweepRoster := by
  have hr : ∀ l, Ordered (s.setRoster l) := fun l => same h rfl rfl rfl rfl
  unfold State.sweepRoster
  dsimp only
  split
  · exact recomputeEvac_ordered _ (hr _)
  · exact hr _

theorem respondAlert_ordered (s : State) (h : Ordered s) : Ordered s.respondAlert := by
  cases hi : s.watch.intrusion with
  | true => rwa [respondAlert_set hi]
  | false =>
    exact push_ordered (sc := .intrusion) h (by simp [Pushable]) (by simp) (fun _ => rfl) (by simp [hi]) (by simp) (by simp)

theorem restoreWatch_ordered (s : State) (h : Ordered s) : Ordered s.restoreWatch := by
  cases hc : s.watch.intrusion && !s.inputActive with
  | true => exact remove_ordered (sc := .intrusion) h (by simp) (by simp [hc]) (by simp) (by simp)
  | false => exact same h (by simp [hc]) (by simp) (by simp) (by simp)

theorem not_configRead_of_keyed {s : State} (h : s.keyed = true) : s.start.phase ≠ .configRead := by
  intro hp
  simp [State.keyed, State.hearing, hp] at h

theorem guardWatch_ordered (s : State) (hk : s.keyed = true) (h : Ordered s) : Ordered s.guardWatch := by
  by_cases hg : s.watch.guard = .watching
  · exact push_ordered (sc := .round) h (by simp [Pushable]) (by simp) (fun hp => absurd hp (not_configRead_of_keyed hk))
      (by simp [hg]) (by simp) (by simp)
  · exact same h (by simp [hg]) (by simp) (by simp) (by simp)

theorem pressTest_ordered (s : State) (hk : s.keyed = true) (h : Ordered s) : Ordered s.pressTest :=
  push_ordered (sc := .test) h (by simp [Pushable]) (by simp) (fun hp => absurd hp (not_configRead_of_keyed hk))
    (by simp) (by simp) (by simp)

/-! ### The starts -/

/-- In CONFIG-READ at most INTRUSION and EVACUATE lie above the base, which fits every depth. -/
theorem fits_of_read {depth depth' : Nat} {evac : Bool} {above : List Scene} (h : Fits depth evac above) (h3 : 3 ≤ depth')
    (hread : ∀ sc ∈ above, sc = .intrusion ∨ sc = .evacuate) : Fits depth' evac above := by
  have hlen : above.length ≤ 2 := by
    have hsub : above.Subperm [.intrusion, .evacuate] := List.Nodup.subperm h.nodup fun x hx => by
      rcases hread x hx with rfl | rfl <;> simp
    simpa using hsub.length_le
  exact ⟨h.nodup, h.evacuate, h.top, h.scenes, by omega⟩

theorem depth_of_good {t : ConfigTransfer} {img : Image} (h : judgeRead t = .good img) : 3 ≤ img.depth := by
  cases t with
  | noAck => cases h
  | bytes l =>
    simp only [judgeRead] at h
    (repeat' split at h) <;> cases h
    simp only [imageOf]
    split <;> decide

/-- A configuration read in CONFIG-READ, or none, with the scenes as they are. -/
theorem read_ordered {s t : State} (h : Ordered s) (hp : s.start.phase = .configRead) (ha : t.light.above = s.light.above)
    (he : t.fire.evac = s.fire.evac) (hd : 3 ≤ t.cfg.depth) : Ordered t := by
  obtain ⟨hf, -, hc⟩ := h
  refine ⟨?_, hd, fun _ => by rw [ha]; exact hc hp⟩
  rw [ha, he]
  exact fits_of_read hf hd (hc hp)

theorem configGood_ordered (s : State) (t : ConfigTransfer) (img : Image) (hp : s.start.phase = .configRead)
    (hj : judgeRead t = .good img) (h : Ordered s) : Ordered (s.configGood img) := by
  have h3 := depth_of_good hj
  cases hk : s.start.kind with
  | cold =>
    rw [configGood_cold img hk]
    exact read_ordered h hp (by simp) (by simp) (by simpa [State.cfg] using h3)
  | warm =>
    rw [configGood_warm img hk]
    exact read_ordered h hp (by simp) (by simp) (by simpa [State.cfg] using h3)

theorem enterUnconfigured_ordered (s : State) (hp : s.start.phase = .configRead) (h : Ordered s) : Ordered s.enterUnconfigured := by
  have h1 : Ordered (s.stripped.enterTrouble .config) :=
    read_ordered h hp (by simp [State.stripped]) (by simp [State.stripped])
      (by simp [State.stripped, State.cfg, Image.unconfigured])
  have h2 : Ordered (s.stripped.enterTrouble .config).unconfiguredFire := by
    unfold State.unconfiguredFire
    split
    · exact enterFire_ordered _ h1
    · exact setFireState_ordered _ _ h1
    · exact h1
    · exact h1
  have h3 := recomputeEvac_ordered _ h2
  exact same h3 (by simp [State.enterUnconfigured]) (by simp [State.enterUnconfigured]) (by simp [State.enterUnconfigured])
    (by simp [State.enterUnconfigured])

theorem releaseWarm_ordered (s : State) (h : Ordered s) : Ordered s.releaseWarm := by
  obtain ⟨-, h3, -⟩ := h
  have habove : s.releaseWarm.light.above = (if s.watch.intrusion then [.intrusion] else [])
      ++ (if s.fire.state == .fire then [.evacuate] else []) := by simp [State.releaseWarm]
  have hevac : s.releaseWarm.fire.evac = (s.fire.state == .fire) := by simp [State.releaseWarm]
  have hcfg : s.releaseWarm.cfg = s.cfg := by simp [State.releaseWarm, State.cfg]
  have hread : ∀ sc ∈ s.releaseWarm.light.above, sc = .intrusion ∨ sc = .evacuate := by
    rw [habove]
    cases s.watch.intrusion <;> cases s.fire.state == .fire <;> simp
  refine ⟨⟨?_, ?_, ?_, fun x hx => ?_, ?_⟩, by rwa [hcfg], fun _ => hread⟩
  · rw [habove]; cases s.watch.intrusion <;> cases s.fire.state == .fire <;> simp
  · rw [habove, hevac]; cases s.watch.intrusion <;> cases s.fire.state == .fire <;> simp
  · rw [habove, hevac]; cases s.watch.intrusion <;> cases s.fire.state == .fire <;> simp
  · rcases hread x hx with rfl | rfl <;> simp [Pushable]
  · rw [habove, hcfg]
    have : ((if s.watch.intrusion then [Scene.intrusion] else [])
        ++ (if s.fire.state == .fire then [Scene.evacuate] else [])).length ≤ 2 := by
      cases s.watch.intrusion <;> cases s.fire.state == .fire <;> simp
    omega

theorem beginRun_ordered (s : State) (h : Ordered s) : Ordered s.beginRun := by
  obtain ⟨hf, h3, -⟩ := h
  have hd : Ordered (deliver [State.settle, State.firstEgress, State.release] (s.setPhase .run)) := by
    refine deliver_ordered _ ?_ _ ⟨hf, h3, by simp⟩
    simp only [List.mem_cons, List.not_mem_nil, or_false]
    rintro f (rfl | rfl | rfl) t ht
    · unfold State.settle
      split
      · exact ht
      · exact changeMode_ordered _ _ ht
    · exact same ht (by simp) (by simp) (by simp) (by simp)
    · exact same ht (by simp) (by simp) (by simp) (by simp)
  unfold State.beginRun
  dsimp only
  split <;> exact same hd (by simp) (by simp) (by simp) (by simp)

theorem cold_ordered (s : State) : Ordered s.cold :=
  ⟨⟨List.nodup_nil, by simp [State.cold, State.reset], by simp [State.cold, State.reset], by simp [State.cold, State.reset],
    by simp [State.cold, State.reset, State.cfg, Image.unconfigured]⟩, by simp [State.cold, State.reset, State.cfg, Image.unconfigured],
    by simp [State.cold, State.reset]⟩

/-- R139 to R143: every operation keeps the scenes above the base in order. -/
theorem ordered_kept : KeptByAll Ordered := by
  constructor
  case toKept =>
    constructor
    case quiet => exact fun q h => same h (by rw [q.light]) q.evac q.image q.startPhase
    case loopAlarm => exact loopAlarm_ordered
    case unlatched => exact fun s _ => setFireState_ordered s _
    case enterFire => exact fun s _ => enterFire_ordered s
    case ackVerification =>
      intro s h
      unfold State.ackVerification
      dsimp only
      split
      · exact same h (by simp) (by simp) (by simp) (by simp)
      · exact h
    case rosterTakes => exact fun s f _ _ => rosterTakes_ordered s f
    case entryTakes => exact entryTakes_ordered
    case fallMute => exact fallMute_ordered
    case sweepRoster => exact sweepRoster_ordered
    case changeMode => exact changeMode_ordered
    case respondAlert => exact respondAlert_ordered
    case guardWatch => exact guardWatch_ordered
    case endRound => exact endRound_ordered
    case pressTest => exact pressTest_ordered
    case testEnds => exact fun s h => remove_ordered (sc := .test) h (by simp) (by simp) (by simp) (by simp)
    case frameOver => exact fun _ t _ _ _ ht => releaseWarm_ordered t.hold ht
    case releaseWarm => exact fun s _ _ => releaseWarm_ordered s
    case enterUnconfigured => exact fun s _ => enterUnconfigured_ordered s
    case configGood => exact fun s t img _ => configGood_ordered s t img
    case beginRun => exact fun s _ _ => beginRun_ordered s
    case buzzerSilenced | passageWithdrawn =>
      intro s h
      refine same h ?_ ?_ ?_ ?_ <;> simp [buzzerSilenced, passageWithdrawn]
    all_goals
      intros
      exact same ‹Ordered _› (by simp) (by simp) (by simp) (by simp)
  case cold => exact cold_ordered
  case releaseCold => exact fun s _ _ _ => same (cold_ordered s) rfl rfl rfl rfl
  case restoreFire => exact fun s _ => restoreFire_ordered s
  case restoreWatch => exact restoreWatch_ordered
  case raiseCall => exact fun s p h => same h (by simp) (by simp) (by simp) (by simp)

/-- Settles O52. -/
theorem sceneStackKeepsItsOrder : Obligations.SceneStackKeepsItsOrder := by
  intro s t h hstep
  obtain ⟨hb, ho⟩ := (stackSound_iff_based s).1 h
  exact (stackSound_iff_based t).2 ⟨based_kept.step hb hstep, ordered_kept.step ho hstep⟩

end Sys2Proof.Proofs.SceneStack
end

section
/-! The egress result stays true (R124, R128, R130): whatever changes an input of the computation has it made again. -/

namespace Sys2Proof.Proofs.EgressResult

open Sys2Proof Sys2Proof.Machine Sys2Proof.Proofs.PartFrames Sys2Proof.Proofs.Steps Sys2Proof.Proofs.EgressComputation

/-- What holds of the egress unit also between a change of an input and the next computation. -/
structure Sized (s : State) : Prop where
  weight : ∀ d : Fin 4, 1 ≤ (s.door d).desc.weight
  exitOwned : ∀ d : Fin 4, (s.door d).desc.kind = .exit → (s.door d).desc.owned = true
  result : (s.egress.chosen = none ∧ s.egress.cost = 255)
    ∨ (s.egress.chosen.isSome = true ∧ 1 ≤ s.egress.cost ∧ s.egress.cost ≤ 200)
  running : s.egress.computed = true → s.start.phase = .run

theorem sized {s : State} (h : s.EgressSound) : Sized s := by
  obtain ⟨hw, he, hr, hp, -⟩ := h
  exact ⟨hw, he, hr, hp⟩

theorem Sized.sound {s : State} (h : Sized s)
    (hres : s.egress.computed = true → ∀ d : Fin 4, s.egress.chosen = some d → s.remaining d = some s.egress.cost) :
    s.EgressSound := ⟨h.weight, h.exitOwned, h.result, h.running, hres⟩

theorem Sized.same {s t : State} (h : Sized s) (hd : ∀ d, (t.door d).desc = (s.door d).desc) (he : t.egress = s.egress)
    (hp : t.start.phase = s.start.phase) : Sized t := by
  refine ⟨fun d => ?_, fun d => ?_, ?_, ?_⟩
  · rw [hd]; exact h.weight d
  · rw [hd]; exact h.exitOwned d
  · rw [he]; exact h.result
  · rw [he, hp]; exact h.running

/-! ### What a candidate is made of -/

theorem entryFor_congr {s t : State} (h : t.table.entries = s.table.entries) (n : Station) : t.entryFor n = s.entryFor n := by
  simp only [State.entryFor, h]

theorem remaining_congr {s t : State} (hd : ∀ d, (t.door d).desc = (s.door d).desc)
    (hl : ∀ d, (t.door d).lock = (s.door d).lock) (he : t.table.entries = s.table.entries)
    (hi : t.start.image = s.start.image) (d : Fin 4) : t.remaining d = s.remaining d := by
  have hc : t.cfg = s.cfg := by simp only [State.cfg, hi]
  have ho : t.own = s.own := by simp only [State.own, hc]
  have hp : t.passable d = s.passable d := by simp only [State.passable, hd, hl, entryFor_congr he]
  simp only [State.remaining, State.candidate, hp, hd, hc, ho, entryFor_congr he]

/-- The result depends on these parts of the state alone. -/
theorem same {s t : State} (h : s.EgressSound) (hd : ∀ d, (t.door d).desc = (s.door d).desc)
    (hl : ∀ d, (t.door d).lock = (s.door d).lock) (he : t.table.entries = s.table.entries) (hg : t.egress = s.egress)
    (hp : t.start.phase = s.start.phase) (hi : t.start.image = s.start.image) : t.EgressSound := by
  refine ((sized h).same hd hg hp).sound ?_
  obtain ⟨-, -, -, -, hres⟩ := h
  rw [hg]
  simpa only [remaining_congr hd hl he hi] using hres

/-- No door is written. -/
theorem same' {s t : State} (h : s.EgressSound) (hd : t.doors = s.doors) (he : t.table.entries = s.table.entries)
    (hg : t.egress = s.egress) (hp : t.start.phase = s.start.phase) (hi : t.start.image = s.start.image) : t.EgressSound :=
  same h (fun d => by rw [door_congr hd]) (fun d => by rw [door_congr hd]) he hg hp hi

/-- A result that has not been computed is bound to nothing. -/
theorem of_uncomputed {s : State} (hw : ∀ d : Fin 4, 1 ≤ (s.door d).desc.weight)
    (hx : ∀ d : Fin 4, (s.door d).desc.kind = .exit → (s.door d).desc.owned = true) (he : s.egress = .uncomputed) :
    s.EgressSound := by
  refine Sized.sound ⟨hw, hx, ?_, ?_⟩ ?_ <;> rw [he]
  · exact .inl ⟨rfl, rfl⟩
  · exact fun h => by cases h
  · exact fun h => by cases h

/-! ### A computation -/

/-- R128: a result taken over is true of the inputs it was computed from. -/
theorem computed_sound {s t : State} (h : Sized s) (hrun : s.start.phase = .run) (hd : ∀ d, (t.door d).desc = (s.door d).desc)
    (hl : ∀ d, (t.door d).lock = (s.door d).lock) (he : t.table.entries = s.table.entries)
    (hp : t.start.phase = s.start.phase) (hi : t.start.image = s.start.image) (hg : t.egress = s.computeEgress) :
    t.EgressSound := by
  refine Sized.sound ⟨fun d => ?_, fun d => ?_, ?_, fun _ => hp.trans hrun⟩ fun _ d hc => ?_
  · rw [hd]; exact h.weight d
  · rw [hd]; exact h.exitOwned d
  · rw [hg, computeEgress_cost, computeEgress_chosen]
    by_cases hleast : s.leastCost = 255
    · exact .inl ⟨chooseDoor_of_255 hleast, hleast⟩
    · obtain ⟨d, hchosen⟩ := exists_chooseDoor hleast
      exact .inr ⟨by simp [hchosen], (leastCost_range h.weight).resolve_left hleast⟩
  · rw [hg, computeEgress_chosen] at hc
    rw [remaining_congr hd hl he hi, hg, computeEgress_cost]
    exact remaining_of_chooseDoor hc

theorem takeEgress_sound (s : State) (first : Bool) (h : Sized s) (hrun : s.start.phase = .run) :
    (s.takeEgress s.computeEgress first).EgressSound :=
  computed_sound h hrun (fun d => by rw [door_congr (s := s) (by simp)]) (fun d => by rw [door_congr (s := s) (by simp)]) (by simp) (by simp)
    (by simp) (by simp)

/-- R130: a computation makes the result true, whatever input has changed. -/
theorem recomputeEgress_sound (s : State) (h : Sized s) : s.recomputeEgress.EgressSound := by
  unfold State.recomputeEgress
  split
  next hc => exact h.sound fun hy => by simp [hy] at hc
  next hc =>
    have hrun : s.start.phase = .run := h.running (by simpa using hc)
    split
    next he => exact computed_sound h hrun (fun _ => rfl) (fun _ => rfl) rfl rfl rfl he.symm
    next => exact takeEgress_sound s _ h hrun

/-! ### The doors -/

theorem doorShut_lock (s : State) (d e : Fin 4) : ((doorShut s d).door e).lock = (s.door e).lock := by
  rw [doorShut_door]; split
  next h => subst h; rfl
  next => rfl

theorem doorAway_lock (s : State) (d e : Fin 4) : ((doorAway s d).door e).lock = (s.door e).lock := by
  rw [doorAway_door]; split
  next h => subst h; rfl
  next => rfl

theorem doorUnsensed_lock (s : State) (d e : Fin 4) : ((doorUnsensed s d).door e).lock = (s.door e).lock := by
  rw [doorUnsensed_door]; split
  next h => subst h; rfl
  next => rfl

theorem doorRead_lock (s : State) (d e : Fin 4) (p : Position) : ((doorRead s d p).door e).lock = (s.door e).lock := by
  rw [doorRead_door]; split
  next h => subst h; rfl
  next => rfl

theorem doorStuck_lock (s : State) (d e : Fin 4) : ((doorStuck s d).door e).lock = (s.door e).lock := by
  rw [doorStuck_door]; split
  next h => subst h; rfl
  next => rfl

/-- A property of the egress unit and its inputs that the driving of a lock keeps. -/
structure LocksKept (P : State → Prop) : Prop where
  same : ∀ {s t : State}, P s → (∀ d, (t.door d).desc = (s.door d).desc) → (∀ d, (t.door d).lock = (s.door d).lock) →
    t.table.entries = s.table.entries → t.egress = s.egress → t.start.phase = s.start.phase →
    t.start.image = s.start.image → P t
  driveLock : ∀ s d, P s → P (s.driveLock d)

namespace LocksKept

variable {P : State → Prop} (D : LocksKept P)

include D

/-- No door is written. -/
theorem same' {s t : State} (h : P s) (hd : t.doors = s.doors) (he : t.table.entries = s.table.entries)
    (hg : t.egress = s.egress) (hp : t.start.phase = s.start.phase) (hi : t.start.image = s.start.image) : P t :=
  D.same h (fun d => by rw [door_congr hd]) (fun d => by rw [door_congr hd]) he hg hp hi

theorem deliver (fs : List (State → State)) (hf : ∀ f ∈ fs, ∀ s : State, P s → P (f s))
    (s : State) (h : P s) : P (Machine.deliver fs s) :=
  deliver_induct P (fun _ _ h => D.same' h rfl rfl rfl rfl rfl) fs hf s h

theorem driveHold (s : State) (d : Fin 4) (h : P s) : P (s.driveHold d) :=
  D.same h (by simp) (by simp) (by simp) (by simp) (by simp) (by simp)

theorem resolve (s : State) (d : Fin 4) (h : P s) : P (s.resolve d) := by
  unfold State.resolve
  split
  · exact D.same (D.driveHold _ d (D.driveLock s d h)) (by simp) (by simp) (by simp) (by simp) (by simp) (by simp)
  · exact h

theorem resolves (l : List (Fin 4)) (s : State) (h : P s) :
    P (Machine.deliver (l.map fun d t => t.resolve d) s) := by
  refine D.deliver _ (fun f hf t ht => ?_) s h
  obtain ⟨d, -, rfl⟩ := List.mem_map.1 hf
  exact D.resolve t d ht

theorem resolveAll (s : State) (h : P s) : P s.resolveAll := D.resolves _ s h

theorem release (s : State) (h : P s) : P s.release := by
  cases hf : s.start.freeze with
  | false => rwa [release_same hf]
  | true =>
    rw [release_frozen hf]
    have ht : P (thawed s) :=
      D.resolves _ (freezeEnded s) (D.same' h (by simp) (by simp) (by simp) (by simp) (by simp))
    exact D.same' ht (by simp) (by simp) (by simp) (by simp) (by simp)

theorem recomputeEvac (s : State) (h : P s) : P s.recomputeEvac := by
  by_cases hd : s.evacDue = s.fire.evac
  · rwa [recomputeEvac_same hd]
  · have hf : P (flagDelivered s) := by
      refine D.deliver _ ?_ (flagSet s) (D.same' h rfl rfl rfl rfl rfl)
      simp only [List.mem_cons, List.not_mem_nil, or_false]
      rintro f (rfl | rfl | rfl) t ht
      · exact D.resolveAll t ht
      · exact D.same' ht (by simp) (by simp) (by simp) (by simp) (by simp)
      · unfold releaseInEvac
        split
        · exact D.release t ht
        · exact ht
    rw [recomputeEvac_changed hd]
    exact D.same' hf (by simp) (by simp) (by simp) (by simp) (by simp)

theorem setFireState (s : State) (f : FireState) (h : P s) : P (s.setFireState f) := by
  have h1 : P (fireStateSet s f) := D.same' h rfl rfl rfl rfl rfl
  rcases setFireState_cases s f with ⟨-, he⟩ | ⟨-, -, -, he⟩ | ⟨-, -, he⟩ <;> rw [he]
  · exact h
  · exact h1
  · exact D.recomputeEvac _ h1

theorem enterFire (s : State) (h : P s) : P s.enterFire := by
  unfold State.enterFire
  split
  · exact h
  · exact D.setFireState _ _ (D.same' h (by simp) (by simp) (by simp) (by simp) (by simp))

theorem loopAlarm (s : State) (l : Fin 6) (h : P s) : P (s.loopAlarm l) := by
  have hv : P (s.enterVerify l) :=
    D.setFireState _ _ (D.same' h (by simp) (by simp) (by simp) (by simp) (by simp))
  have halarm : P (if s.fire.loops[l].kind = .smoke ∧ s.smokeTrusted l = false then s.enterVerify l
      else s.enterFire) := by
    split
    · exact hv
    · exact D.enterFire s h
  unfold State.loopAlarm
  split
  · exact halarm
  · exact halarm
  · split
    · exact h
    · exact D.enterFire s h
  · exact h

theorem restoreFire (s : State) (h : P s) : P s.restoreFire := by
  have hr : P (if s.loopInAlarm then s else s.endVerification.setFireState s.unlatchedFire) := by
    split
    · exact h
    · exact D.setFireState _ _ (D.same' h (by simp) (by simp) (by simp) (by simp) (by simp))
  unfold State.restoreFire
  split
  · exact h
  · exact D.setFireState _ _ h
  · exact hr
  · exact hr

theorem changeMode (s : State) (m : Mode) (h : P s) : P (s.changeMode m) := by
  by_cases hm : s.modes.mode = m
  · subst hm; rwa [changeMode_same]
  · have hd : P (modeDelivered s m) := by
      refine D.deliver _ ?_ _ (D.same' h rfl rfl rfl rfl rfl)
      simp only [List.mem_cons, List.not_mem_nil, or_false]
      rintro f (rfl | rfl) t ht
      · exact D.resolveAll t ht
      · unfold State.fireModeChange
        split
        · exact D.enterFire t ht
        · exact ht
    rw [changeMode_changed hm]
    exact D.same' hd (by simp) (by simp) (by simp) (by simp) (by simp)

theorem corroborateBy (old new : NbEntry) (s : State) (h : P s) : P (corroborateBy old new s) := by
  unfold PartFrames.corroborateBy State.corroborate
  (repeat' split)
  · exact D.enterFire s h
  · exact h
  · exact h

theorem resolveBy (old new : NbEntry) (s : State) (h : P s) : P (resolveBy old new s) := by
  unfold PartFrames.resolveBy
  split
  · exact D.resolves _ s h
  · exact h

theorem respondAlert (s : State) (h : P s) : P s.respondAlert := by
  cases hi : s.watch.intrusion with
  | true => rwa [respondAlert_set hi]
  | false =>
    rw [respondAlert_clear hi]
    exact D.same' (D.resolveAll (alerted s) (D.same' h (by simp) (by simp) (by simp) (by simp) (by simp)))
      (by simp) (by simp) (by simp) (by simp) (by simp)

theorem restoreWatch (s : State) (h : P s) : P s.restoreWatch := by
  by_cases hc : s.watch.intrusion = true ∧ s.inputActive = false
  · rw [restoreWatch_cleared hc]
    exact D.same' (D.resolveAll (latchesCleared s) (D.same' h (by simp) (by simp) (by simp) (by simp) (by simp)))
      (by simp) (by simp) (by simp) (by simp) (by simp)
  · rw [restoreWatch_kept hc]
    exact D.same' h rfl rfl rfl rfl rfl

theorem takePassage (s : State) (h : P s) : P s.takePassage := by
  have h1 : P (State.startTimer { s with doors := { s.doors with passage := true } } .t21 s.cfg.passage .ms100 .oneShot 0) :=
    D.same h (fun d => by rw [startTimer_door]; rfl) (fun d => by rw [startTimer_door]; rfl) (by simp) (by simp) (by simp) (by simp)
  unfold State.takePassage
  dsimp only
  split
  · exact h1
  · exact D.resolveAll _ h1

/-- A door written with the descriptor and the lock that stand, then its outputs driven. -/
theorem driven {s t : State} (h : P s) (d : Fin 4) (hd : ∀ e, (t.door e).desc = (s.door e).desc)
    (hl : ∀ e, (t.door e).lock = (s.door e).lock) (he : t.table = s.table) (hg : t.egress = s.egress) (hs : t.start = s.start) :
    P ((t.driveLock d).driveHold d) :=
  D.driveHold _ d (D.driveLock t d (D.same h hd hl (by rw [he]) hg (by rw [hs]) (by rw [hs])))

/-- A phase written leaves what the egress unit reads. -/
theorem phaseSet (s : State) (d : Fin 4) (p : Option DoorPhase) (h : P s) :
    P (s.setDoor d { s.door d with phase := p }) := by
  refine D.same h (fun e => ?_) (fun e => ?_) (by simp) (by simp) (by simp) (by simp)
  · exact (setDoor_desc s d e (by exact ⟨rfl, rfl⟩)).1
  · rw [State.setDoor_door]
    split
    next hde => subst hde; rfl
    next => rfl

theorem doorOpens (s : State) (d : Fin 4) (h : P s) : P (s.doorOpens d) := by
  have h1 : P (doorDriven s d) := by
    unfold doorDriven
    exact D.driven (t := doorAway s d) h d (fun e => (doorAway_desc s d e).1) (doorAway_lock s d) (by simp) (by simp) (by simp)
  rw [doorOpens_eq]
  have h2 := D.phaseSet (doorDriven s d) d (some (phaseByOutputs ((doorDriven s d).door d))) h1
  exact D.same h2 (by simp) (by simp) (by simp) (by simp) (by simp) (by simp)

theorem travelLapse (s : State) (d : Fin 4) (h : P s) : P (s.travelLapse d) := by
  by_cases hp : (s.door d).phase = some .closing
  · rw [travelLapse_closing hp]
    have h1 : P (doorStuck s d) := D.same h (fun e => (doorStuck_desc s d e).1) (doorStuck_lock s d) (by simp)
      (by simp) (by simp) (by simp)
    exact D.same (D.driveHold _ d h1) (by simp) (by simp) (by simp) (by simp) (by simp) (by simp)
  · rwa [travelLapse_same hp]

theorem changeEntry {s : State} {k : Fin 4} {old new : NbEntry} (h : P (entryReplaced s k old new))
    (hc : ∀ t, P t → P (recomputeIf (s.egressInputChanged old new) t)) : P (s.changeEntry k old new) := by
  rw [changeEntry_eq]
  refine D.deliver _ ?_ _ h
  simp only [List.mem_cons, List.not_mem_nil, or_false]
  rintro f (rfl | rfl | rfl) t ht
  · exact D.corroborateBy old new t ht
  · exact D.resolveBy old new t ht
  · exact hc t ht

end LocksKept

/-- What is driven anew is computed anew. -/
theorem driveLock_sound (s : State) (d : Fin 4) (h : Sized s) (hsame : s.driveLock d = s → s.EgressSound) :
    (s.driveLock d).EgressSound := by
  unfold State.driveLock at hsame ⊢
  dsimp only at hsame ⊢
  split
  next hc => exact hsame (if_pos hc)
  next =>
    refine recomputeEgress_sound _ (h.same (fun e => ?_) (by simp) (by simp))
    rw [markStatus_door]
    exact (setDoor_desc s d e (by exact ⟨rfl, rfl⟩)).1

theorem locksKept_sound : LocksKept State.EgressSound where
  same := same
  driveLock := fun s d h => driveLock_sound s d (sized h) fun _ => h

theorem driveLock_sized (s : State) (d : Fin 4) (h : Sized s) : Sized (s.driveLock d) := by
  by_cases hs : s.driveLock d = s
  · rwa [hs]
  · exact sized (driveLock_sound s d h fun he => absurd he hs)

theorem locksKept_sized : LocksKept Sized where
  same := fun h hd _ _ he hp _ => h.same hd he hp
  driveLock := driveLock_sized

/-! ### The neighbour entries -/

/-- What a door reads of a neighbour's entry: a shadow door's field only where the entry is its neighbour's. -/
def entryReading (desc : DoorDesc) (e : NbEntry) : Station × EntryState × Nat × Station × FireState × Bool :=
  (e.station, e.state, e.cost, e.via, e.fire,
    desc.isShadow && desc.neighbour == e.station && (e.fields[desc.nbDoor].fitted && e.fields[desc.nbDoor].passable))

/-- R113: where no change is one for the egress unit, every door reads the new entry as the old one. -/
theorem entryReading_eq {s : State} {old new : NbEntry} (hst : new.station = old.station)
    (h : s.egressInputChanged old new = false) (d : Fin 4) :
    entryReading (s.door d).desc new = entryReading (s.door d).desc old := by
  simp only [State.egressInputChanged, Bool.or_eq_false_iff, bne_eq_false_iff_eq, State.shadowFieldChanged, List.any_eq_false,
    List.mem_finRange, forall_const, Bool.and_eq_true, beq_iff_eq, bne_iff_ne, not_and, not_not] at h
  obtain ⟨⟨⟨⟨hstate, hcost⟩, hvia⟩, hfire⟩, hfields⟩ := h
  have hpass : ((s.door d).desc.isShadow && (s.door d).desc.neighbour == new.station
      && (new.fields[(s.door d).desc.nbDoor].fitted && new.fields[(s.door d).desc.nbDoor].passable))
      = ((s.door d).desc.isShadow && (s.door d).desc.neighbour == old.station
        && (old.fields[(s.door d).desc.nbDoor].fitted && old.fields[(s.door d).desc.nbDoor].passable)) := by
    rw [hst] at hfields ⊢
    by_cases hc : (s.door d).desc.isShadow = true ∧ (s.door d).desc.neighbour = old.station
    · rw [hfields d hc]
    · have hf : ((s.door d).desc.isShadow && (s.door d).desc.neighbour == old.station) = false := by
        rw [← Bool.not_eq_true]; simpa using hc
      simp only [hf, Bool.false_and]
  simp only [entryReading, hst, hstate, hcost, hvia, hfire]
  rw [hst] at hpass
  rw [hpass]

theorem entryFor_map {β : Type} (f : NbEntry → β) (station : β → Station) (hf : ∀ e, station (f e) = e.station) (s : State)
    (n : Station) : (s.entryFor n).map f
      = ((s.table.entries.map (Option.map f)).toList.filterMap id).find? fun b => station b == n := by
  have hl : (s.table.entries.map (Option.map f)).toList.filterMap id = (s.table.entries.toList.filterMap id).map f := by
    rw [Vector.toList_map, List.filterMap_map, List.map_filterMap]
    rfl
  simp only [hl, List.find?_map, State.entryFor, Function.comp_def, hf]

/-- An entry replaced by one that reads the same leaves what is read for every station. -/
theorem entryFor_replaced {β : Type} (f : NbEntry → β) (station : β → Station) (hf : ∀ e, station (f e) = e.station) {s t : State}
    {k : Fin 4} {old new : NbEntry} (hk : s.table.entries[k] = some old)
    (ht : t.table.entries = s.table.entries.set k (some new)) (hread : f new = f old) (n : Station) :
    (t.entryFor n).map f = (s.entryFor n).map f := by
  have hv : t.table.entries.map (Option.map f) = s.table.entries.map (Option.map f) := by
    ext i hi
    rw [ht]
    by_cases h : k.val = i
    · subst h
      have hk' : s.table.entries[k.val] = some old := hk
      simp [hread, hk']
    · simp [Vector.getElem_set_ne _ _ h]
  rw [entryFor_map f station hf, entryFor_map f station hf, hv]

/-- R127: the candidate depends on a neighbour's entry through what the door reads of it. -/
theorem candidate_of_reading {s t : State} {d : Fin 4} (hd : (t.door d).desc = (s.door d).desc)
    (hl : (t.door d).lock = (s.door d).lock) (hi : t.start.image = s.start.image)
    (hx : (s.door d).desc.kind = .exit → (s.door d).desc.owned = true)
    (hread : (t.entryFor (s.door d).desc.neighbour).map (entryReading (s.door d).desc)
      = (s.entryFor (s.door d).desc.neighbour).map (entryReading (s.door d).desc)) : t.candidate d = s.candidate d := by
  have hc : t.cfg = s.cfg := by simp only [State.cfg, hi]
  have ho : t.own = s.own := by simp only [State.own, hc]
  cases ht : t.entryFor (s.door d).desc.neighbour with
  | none =>
    have hs : s.entryFor (s.door d).desc.neighbour = none := by simpa [ht] using hread.symm
    simp only [State.candidate, State.passable, hd, hl, ht, hs]
  | some a =>
    rw [ht] at hread
    obtain ⟨b, hs, hb⟩ := Option.map_eq_some_iff.1 hread.symm
    simp only [entryReading, Prod.mk.injEq] at hb
    obtain ⟨hst, hstate, hcost, hvia, hfire, hfield⟩ := hb
    have hn : b.station = (s.door d).desc.neighbour := by simpa using List.find?_some hs
    have hp : t.passable d = s.passable d := by
      simp only [State.passable, hd, hl, ht, hs]
      cases hk : (s.door d).desc.kind with
      | blank => rfl
      | exit => simp [DoorDesc.isOwned, hk, hx hk]
      | interior =>
        by_cases hown : (s.door d).desc.owned = true
        · simp [DoorDesc.isOwned, hk, hown]
        · simpa [DoorDesc.isOwned, DoorDesc.isShadow, hk, hown, hn, ← hst] using hfield.symm
    simp only [State.candidate, hp, hd, ht, hs, hc, ho, hstate, hcost, hvia, hfire]

/-- R113: an entry that changes in nothing the egress unit takes leaves the result true. -/
theorem entryReplaced_sound {s : State} {k : Fin 4} {old new : NbEntry} (hk : s.table.entries[k] = some old)
    (hst : new.station = old.station) (hc : s.egressInputChanged old new = false) (h : s.EgressSound) :
    (entryReplaced s k old new).EgressSound := by
  have hdoor : ∀ d, (entryReplaced s k old new).door d = s.door d := fun d => door_congr (by simp) d
  refine ((sized h).same (fun d => by rw [hdoor]) (by simp) (by simp)).sound ?_
  obtain ⟨-, hx, -, -, hres⟩ := h
  have hrem : ∀ d, (entryReplaced s k old new).remaining d = s.remaining d := by
    intro d
    simp only [State.remaining]
    rw [candidate_of_reading (by rw [hdoor]) (by rw [hdoor]) (by simp) (hx d)]
    exact entryFor_replaced _ Prod.fst (fun _ => rfl) hk (by simp [State.setEntry]) (entryReading_eq hst hc d) _
  simpa only [entryReplaced_keeps, hrem] using hres

/-- R113, R130: an entry that changes is followed by a computation where the egress unit takes the change. -/
theorem changeEntry_sound {s : State} {k : Fin 4} {old new : NbEntry} (hk : s.table.entries[k] = some old)
    (hst : new.station = old.station) (h : s.EgressSound) : (s.changeEntry k old new).EgressSound := by
  cases hc : s.egressInputChanged old new with
  | false =>
    refine locksKept_sound.changeEntry (entryReplaced_sound hk hst hc h) fun t ht => ?_
    rwa [hc]
  | true =>
    have hz : Sized (entryReplaced s k old new) :=
      (sized h).same (fun d => by rw [door_congr (s := s) (by simp)]) (by simp) (by simp)
    rw [changeEntry_eq, hc]
    refine deliver_establishes (Q := Sized) _ (recomputeIf true) (by simp) (fun t _ ht => ht.same (fun _ => rfl) rfl rfl)
      (fun t _ ht => ht) ?_ ?_ (fun t ht => recomputeEgress_sound t ht) _ hz
    · simp only [List.mem_cons, List.not_mem_nil, or_false]
      rintro f (rfl | rfl | rfl) t ht
      · exact locksKept_sized.corroborateBy old new t ht
      · exact locksKept_sized.resolveBy old new t ht
      · exact sized (recomputeEgress_sound t ht)
    · simp only [List.mem_cons, List.not_mem_nil, or_false]
      rintro f (rfl | rfl | rfl) t ht
      · exact locksKept_sound.corroborateBy old new t ht
      · exact locksKept_sound.resolveBy old new t ht
      · exact recomputeEgress_sound t (sized ht)

theorem entryTakes_sound (s : State) (f : StatusFrame) (k : Fin 4) (h : s.EgressSound) : (s.entryTakes f k).EgressSound := by
  unfold State.entryTakes
  split
  · exact h
  next old hk =>
    split
    next hst =>
      exact changeEntry_sound (s := s.startSilence k) (by simpa using hk) hst.symm
        (same' h (by simp) (by simp) (by simp) (by simp) (by simp))
    next => exact h

theorem fallMute_sound (s : State) (k : Fin 4) (h : s.EgressSound) : (s.fallMute k).EgressSound := by
  unfold State.fallMute
  split
  · exact h
  next old hk =>
    split
    · exact h
    · exact changeEntry_sound hk rfl h

theorem rosterTakes_sound (s : State) (f : StatusFrame) (h : s.EgressSound) : (s.rosterTakes f).EgressSound := by
  have hr : ∀ l, (s.setRoster l).EgressSound := fun l => same' h rfl rfl rfl rfl rfl
  unfold State.rosterTakes
  dsimp only
  (repeat' split)
  · exact hr _
  · exact same' (locksKept_sound.recomputeEvac _ (hr (s.table.roster ++ [{ station := f.source, mark := true }])))
      (by simp) (by simp) (by simp) (by simp) (by simp)
  · exact locksKept_sound.recomputeEvac _ (hr _)
  · exact h

theorem sweepRoster_sound (s : State) (h : s.EgressSound) : s.sweepRoster.EgressSound := by
  have hr : ∀ l, (s.setRoster l).EgressSound := fun l => same' h rfl rfl rfl rfl rfl
  unfold State.sweepRoster
  dsimp only
  split
  · exact locksKept_sound.recomputeEvac _ (hr _)
  · exact hr _

/-! ### The starts -/

/-- R57: the weight of a descriptor is at least 1, and an EXIT door is owned. -/
theorem doorDescOf_sized (own : Station) (l : List Byte) (d : Fin 4) :
    1 ≤ (doorDescOf own l d).weight ∧ ((doorDescOf own l d).kind = .exit → (doorDescOf own l d).owned = true) := by
  have hw : 1 ≤ if bitsAt l (1 + 2 * d.val) 0 4 = 0 then 1 else bitsAt l (1 + 2 * d.val) 0 4 := by
    split
    · exact le_rfl
    · omega
  unfold doorDescOf
  dsimp only
  generalize (if bitsAt l (1 + 2 * d.val) 0 4 = 0 then 1 else bitsAt l (1 + 2 * d.val) 0 4) = w at hw ⊢
  split
  · exact ⟨hw, fun _ => rfl⟩
  · split
    · exact ⟨hw, fun hk => by cases hk⟩
    · exact ⟨le_rfl, fun hk => by cases hk⟩

theorem takeDesc_desc (r : DoorRec) (desc : DoorDesc) : (r.takeDesc desc).desc = desc := by
  unfold DoorRec.takeDesc; split <;> rfl

theorem judged_doors {t : ConfigTransfer} {img : Image} (h : judgeRead t = .good img) (d : Fin 4) :
    ∃ own l, img.doors[d] = doorDescOf own l d := by
  unfold judgeRead at h
  (repeat' split at h) <;> cases h
  exact ⟨_, _, by simp [imageOf]; rfl⟩

/-- Before RUN nothing has been computed. -/
theorem not_computed {s : State} (h : s.EgressSound) (hp : s.start.phase ≠ .run) : s.egress.computed = false := by
  obtain ⟨-, -, -, hrun, -⟩ := h
  cases hc : s.egress.computed with
  | false => rfl
  | true => exact absurd (hrun hc) hp

/-- A result not computed stays as it is while the doors keep to the rules of R57. -/
theorem sound_of_not_computed {s t : State} (h : s.EgressSound) (hc : s.egress.computed = false) (hg : t.egress = s.egress)
    (hw : ∀ d : Fin 4, 1 ≤ (t.door d).desc.weight)
    (hx : ∀ d : Fin 4, (t.door d).desc.kind = .exit → (t.door d).desc.owned = true) : t.EgressSound := by
  refine Sized.sound ⟨hw, hx, ?_, ?_⟩ ?_ <;> rw [hg]
  · exact (sized h).result
  · exact fun hy => by cases hc.symm.trans hy
  · exact fun hy => by cases hc.symm.trans hy

theorem configGood_sound (s : State) (t : ConfigTransfer) (img : Image) (hp : s.start.phase = .configRead)
    (hj : judgeRead t = .good img) (h : s.EgressSound) : (s.configGood img).EgressSound := by
  have hdesc : ∀ d, ((s.configGood img).door d).desc = img.doors[d] := by
    intro d
    cases hk : s.start.kind with
    | cold =>
      rw [configGood_cold img hk, door_congr (s := s.takeImage img) (by simp), takeImage_door, takeDesc_desc]
    | warm =>
      rw [configGood_warm img hk, door_congr (s := (troublesHeld (s.takeImage img)).markAjar) (by simp), markAjar_door,
        door_congr (s := s.takeImage img) (by simp), takeImage_door, takeDesc_desc]
  have hg : (s.configGood img).egress = s.egress := by
    cases hk : s.start.kind with
    | cold => simp [configGood_cold img hk]
    | warm => simp [configGood_warm img hk]
  refine sound_of_not_computed h (not_computed h (by simp [hp])) hg (fun d => ?_) (fun d => ?_)
  all_goals
    obtain ⟨own, l, hd⟩ := judged_doors hj d
    rw [hdesc, hd]
  · exact (doorDescOf_sized own l d).1
  · exact (doorDescOf_sized own l d).2

theorem releaseWarm_sound (s : State) (h : s.EgressSound) : s.releaseWarm.EgressSound := by
  have hdesc : ∀ d, (s.releaseWarm.door d).desc = (s.door d).desc := by
    intro d
    rw [releaseWarm_eq, door_congr (s := heldOver s) (by simp), heldOver_door]
    rfl
  refine of_uncomputed (fun d => ?_) (fun d => ?_) (by simp [releaseWarm_eq, heldOver])
  · rw [hdesc]; exact (sized h).weight d
  · rw [hdesc]; exact (sized h).exitOwned d

theorem afresh_sound {s : State} (hd : s.doors.records = Vector.replicate 4 (DoorRec.afresh .none)) (he : s.egress = .uncomputed) :
    s.EgressSound := by
  have hdesc : ∀ d, (s.door d).desc = .none := fun d => by simp [State.door, hd, DoorRec.afresh]
  refine of_uncomputed (fun d => ?_) (fun d => ?_) he
  · rw [hdesc]; exact le_rfl
  · rw [hdesc]; exact fun hk => by cases hk

theorem enterUnconfigured_sound (s : State) : s.enterUnconfigured.EgressSound := by
  have h1 : (s.stripped.enterTrouble .config).EgressSound :=
    same' (afresh_sound (s := s.stripped) rfl rfl) (by simp) (by simp) (by simp) (by simp) (by simp)
  have h2 : (s.stripped.enterTrouble .config).unconfiguredFire.EgressSound := by
    unfold State.unconfiguredFire
    split
    · exact locksKept_sound.enterFire _ h1
    · exact locksKept_sound.setFireState _ _ h1
    · exact h1
    · exact h1
  exact same' (locksKept_sound.recomputeEvac _ h2) (by simp [State.enterUnconfigured]) (by simp [State.enterUnconfigured])
    (by simp [State.enterUnconfigured]) (by simp [State.enterUnconfigured]) (by simp [State.enterUnconfigured])

theorem settle_sound (s : State) (h : s.EgressSound) : s.settle.EgressSound := by
  unfold State.settle
  split
  · exact h
  · exact locksKept_sound.changeMode _ _ (same' h rfl rfl rfl rfl rfl)

/-- R131, R180: the first computation is made in RUN, in any order with the other deliveries. -/
theorem beginRun_sound (s : State) (hl : s.listening = true) (h : s.EgressSound) : s.beginRun.EgressSound := by
  have hp : s.start.phase ≠ .run := by
    intro hr; simp [State.listening, hr] at hl
  have h1 : (s.setPhase .run).EgressSound :=
    sound_of_not_computed h (not_computed h hp) rfl (sized h).weight (sized h).exitOwned
  have hd : (deliver [State.settle, State.firstEgress, State.release] (s.setPhase .run)).EgressSound := by
    refine (deliver_induct (fun t => t.start.phase = .run ∧ t.EgressSound) (fun _ _ h => h) _ ?_ (s.setPhase .run)
      ⟨rfl, h1⟩).2
    simp only [List.mem_cons, List.not_mem_nil, or_false]
    rintro f (rfl | rfl | rfl) t ⟨hrun, ht⟩
    · exact ⟨by simpa using hrun, settle_sound t ht⟩
    · exact ⟨by simpa using hrun, takeEgress_sound t true (sized ht) hrun⟩
    · exact ⟨by simpa using hrun, locksKept_sound.release t ht⟩
  unfold State.beginRun
  dsimp only
  generalize deliver [State.settle, State.firstEgress, State.release] (s.setPhase .run) = t at hd ⊢
  have ht : (t.markStatus.startRefresh.startUnheard).EgressSound :=
    same' hd (by simp) (by simp) (by simp) (by simp) (by simp)
  split
  · exact same' ht (by simp) (by simp) (by simp) (by simp) (by simp)
  · exact ht

/-- R128, R130: every operation keeps the result true. -/
theorem kept : KeptByAll State.EgressSound := by
  constructor
  case toKept =>
    constructor
    case quiet => exact fun q h => same h q.desc q.lock (by rw [q.table]) q.egress q.startPhase q.image
    case buzzerSilenced => exact fun s h => same' h rfl rfl rfl rfl rfl
    case loopAlarm => exact locksKept_sound.loopAlarm
    case unlatched => exact fun s _ => locksKept_sound.setFireState s _
    case enterFire => exact fun s _ => locksKept_sound.enterFire s
    case rosterTakes => exact fun s f _ _ => rosterTakes_sound s f
    case entryTakes => exact entryTakes_sound
    case fallMute => exact fallMute_sound
    case sweepRoster => exact sweepRoster_sound
    case changeMode => exact locksKept_sound.changeMode
    case respondAlert => exact locksKept_sound.respondAlert
    case takePassage => exact fun s _ => locksKept_sound.takePassage s
    case passageWithdrawn => exact fun s h => locksKept_sound.resolveAll _ (same h (fun _ => rfl) (fun _ => rfl) rfl rfl rfl rfl)
    case firstReading =>
      intro s d p _ _ _ h
      rw [firstReading_eq]
      exact locksKept_sound.resolve _ d (same h (fun e => (doorRead_desc s d e p).1) (fun e => doorRead_lock s d e p) (by simp)
        (by simp) (by simp) (by simp))
    case doorCloses =>
      intro s d _ _ _ h
      rw [doorCloses_eq]
      exact locksKept_sound.driven h d (fun e => (doorShut_desc s d e).1) (doorShut_lock s d) (by simp) (by simp) (by simp)
    case doorOpens => exact fun s d _ _ _ => locksKept_sound.doorOpens s d
    case doorLost =>
      intro s d _ _ _ h
      rw [doorLost_eq]
      exact locksKept_sound.driven h d (fun e => (doorUnsensed_desc s d e).1) (doorUnsensed_lock s d) (by simp) (by simp) (by simp)
    case travelLapse => exact locksKept_sound.travelLapse
    case frameOver =>
      intro s t _ _ _ h
      exact releaseWarm_sound _ (same' h rfl rfl rfl rfl rfl)
    case releaseWarm => exact fun s _ _ => releaseWarm_sound s
    case enterUnconfigured => exact fun s _ _ _ => enterUnconfigured_sound s
    case configGood => exact fun s t img _ hp hj => configGood_sound s t img hp hj
    case beginRun => exact fun s _ => beginRun_sound s
    all_goals
      intros
      exact same' ‹State.EgressSound _› (by simp) (by simp) (by simp) (by simp) (by simp)
  case cold => exact fun s => afresh_sound rfl rfl
  case releaseCold => exact fun s _ _ _ => afresh_sound rfl rfl
  case restoreFire => exact fun s _ => locksKept_sound.restoreFire s
  case restoreWatch => exact locksKept_sound.restoreWatch
  case raiseCall => exact fun s p h => same' h (by simp) (by simp) (by simp) (by simp) (by simp)

/-- Settles O54. -/
theorem egressResultStaysTrue : Obligations.EgressResultStaysTrue :=
  fun _ _ h hstep => kept.step h hstep

end Sys2Proof.Proofs.EgressResult
end

section
/-! The claims on a door and their resolution (R60 to R65): the standing slot of the highest level with a preference decides. -/

namespace Sys2Proof.Proofs.Claims

open Sys2Proof Sys2Proof.Machine Sys2Proof.Proofs.PartFrames

/-- One step of `strongest`: the better of the best wish so far and the next. -/
def better {α : Type} (best : Option (Nat × α)) (x : Nat × α) : Option (Nat × α) :=
  match best with
  | none => some x
  | some b => if b.1 < x.1 then some x else some b

theorem strongest_eq_foldl {α : Type} (l : List (Nat × α)) : strongest l = l.foldl better none := rfl

/-- A best wish stays while no later one has a higher level. -/
theorem foldl_better_of_le {α : Type} {b : Nat × α} {l : List (Nat × α)} (h : ∀ x ∈ l, x.1 ≤ b.1) :
    l.foldl better (some b) = some b := by
  induction l with
  | nil => rfl
  | cons x l ih =>
    have hx : ¬b.1 < x.1 := Nat.not_lt.2 (h x (by simp))
    simpa only [List.foldl_cons, better, hx, if_false] using ih fun y hy => h y (by simp [hy])

/-- The first of the wishes wins where none behind it has a higher level. -/
theorem strongest_first {α : Type} {b : Nat × α} {l : List (Nat × α)} (h : ∀ x ∈ l, x.1 ≤ b.1) : strongest (b :: l) = some b :=
  foldl_better_of_le h

/-- The first of the wishes loses to a higher level behind it. -/
theorem strongest_second {α : Type} {a b : Nat × α} {l : List (Nat × α)} (h : a.1 < b.1) :
    strongest (a :: b :: l) = strongest (b :: l) := by
  simp [strongest_eq_foldl, better, h]

theorem strongest_isNone {α : Type} (l : List (Nat × α)) : (strongest l).isNone = true ↔ l = [] := by
  have hsome : ∀ (l : List (Nat × α)) b, (l.foldl better (some b)).isNone = false := by
    intro l
    induction l with
    | nil => exact fun _ => rfl
    | cons x l ih =>
      intro b
      by_cases h : b.1 < x.1 <;> simp only [List.foldl_cons, better, h, if_true, if_false, ih]
  cases l with
  | nil => simp [strongest]
  | cons x l => simp [strongest_eq_foldl, better, hsome]

/-- A wish at a level above every other is the strongest. -/
theorem strongest_of_mem {α : Type} {b : Nat × α} {l : List (Nat × α)} (hb : b ∈ l) (h : ∀ x ∈ l, x = b ∨ x.1 < b.1) :
    strongest l = some b := by
  have hfrom : ∀ (l : List (Nat × α)) best, b ∈ l → (∀ x ∈ l, x = b ∨ x.1 < b.1) → (∀ c, best = some c → c = b ∨ c.1 < b.1) →
      l.foldl better best = some b := by
    intro l
    induction l with
    | nil => exact fun _ hm => by cases hm
    | cons x l ih =>
      intro best hm hl hbest
      have hle : ∀ y ∈ l, y.1 ≤ b.1 := fun y hy => by
        rcases hl y (by simp [hy]) with rfl | hy
        · exact le_rfl
        · exact hy.le
      have hx := hl x (by simp)
      rcases List.mem_cons.1 hm with rfl | hm'
      · have hstep : better best b = some b := by
          cases best with
          | none => rfl
          | some c =>
            rcases hbest c rfl with rfl | hc
            · simp [better]
            · simp [better, hc]
        rw [List.foldl_cons, hstep]
        exact foldl_better_of_le hle
      · refine ih _ hm' (fun y hy => hl y (by simp [hy])) fun c hc => ?_
        cases best with
        | none => cases hc; exact hx
        | some a =>
          simp only [better] at hc
          split at hc <;> cases hc
          · exact hx
          · exact hbest _ rfl
  exact hfrom l none hb h fun c hc => by cases hc

/-! ### The resolution -/

section
variable (s : State) (d : Fin 4)

/-- The levels between SCHEDULE and FIRE that the configuration may give. -/
structure LevelsFit : Prop where
  lockdown : 3 ≤ s.cfg.lockdownLevel ∧ s.cfg.lockdownLevel ≤ 15
  passage : 3 ≤ s.cfg.passageLevel ∧ s.cfg.passageLevel ≤ 15

theorem lockdown_stands : s.slotStands d .lockdown = true ↔
    s.watch.intrusion = true ∨ ((s.door d).desc.kind = .interior
      ∧ ∃ e, s.entryFor (s.door d).desc.neighbour = some e ∧ e.intrusion = true) := by
  simp only [State.slotStands, State.neighbourIntrusion, Bool.or_eq_true, Bool.and_eq_true, beq_iff_eq]
  cases s.entryFor (s.door d).desc.neighbour <;> simp

/-- R61: what SCHEDULE prefers for the lock. -/
theorem scheduleLock_eq (m : Mode) (k : DoorKind) : slotLock m k .schedule =
    some (if m = .night ∨ (m = .closed ∧ k = .exit) then .locked else .free) := by
  cases m <;> cases k <;> rfl

/-- R61: what SCHEDULE prefers for the hold. -/
theorem scheduleHold_eq (m : Mode) (k : DoorKind) : slotHold m k .schedule =
    some (if m = .pub ∧ k = .interior then .holding else .dropped) := by
  cases m <;> cases k <;> rfl

variable {s}

/-- R60: no slot has a level above FIRE's. -/
theorem slotLevel_le (L : LevelsFit s) (slot : ClaimSlot) : s.slotLevel slot ≤ 16 := by
  obtain ⟨-, h1⟩ := L.lockdown
  obtain ⟨-, h2⟩ := L.passage
  cases slot <;> simp only [State.slotLevel] <;> omega

theorem wishes_levels {α : Type} (L : LevelsFit s) (pref : ClaimSlot → Option α) (slots : List ClaimSlot) :
    ∀ x ∈ slots.filterMap (fun slot => if s.slotStands d slot then (pref slot).map fun w => (s.slotLevel slot, w) else none),
      x.1 ≤ 16 := by
  intro x hx
  obtain ⟨slot, -, hs⟩ := List.mem_filterMap.1 hx
  split at hs
  · obtain ⟨w, -, rfl⟩ := Option.map_eq_some_iff.1 hs
    exact slotLevel_le L slot
  · cases hs

variable {d}

/-- R62: FIRE's wish is the strongest. -/
theorem strongest_fire {α : Type} (L : LevelsFit s) (he : s.fire.evac = true) {pref : ClaimSlot → Option α} {w : α}
    (hw : pref .fire = some w) : strongest (s.wishes d pref) = some (16, w) := by
  have hl : s.wishes d pref = (16, w) :: [ClaimSlot.lockdown, .passage, .schedule].filterMap
      (fun slot => if s.slotStands d slot then (pref slot).map fun w => (s.slotLevel slot, w) else none) := by
    simp only [State.wishes, ClaimSlot.inOrder]
    rw [List.filterMap_cons_some (b := (16, w)) (by simp [State.slotStands, he, hw, State.slotLevel])]
  rw [hl]
  exact strongest_first (wishes_levels d L pref _)

theorem resolvedLock_of_evac (L : LevelsFit s) (he : s.fire.evac = true) : s.resolvedLock d = .free := by
  rw [State.resolvedLock, strongest_fire L he (w := .free) rfl]; rfl

theorem resolvedHold_of_evac (L : LevelsFit s) (he : s.fire.evac = true) : s.resolvedHold d = .dropped := by
  rw [State.resolvedHold, strongest_fire L he (w := .dropped) rfl]; rfl

/-- The wishes for the lock without FIRE. -/
theorem lockWishes_eq (he : s.fire.evac = false) : s.wishes d (slotLock s.modes.mode (s.door d).desc.kind) =
    (if s.slotStands d .lockdown then [(s.cfg.lockdownLevel, LockOut.locked)] else [])
      ++ (if s.doors.passage then [(s.cfg.passageLevel, LockOut.free)] else [])
      ++ [(2, if s.modes.mode = .night ∨ (s.modes.mode = .closed ∧ (s.door d).desc.kind = .exit) then .locked else .free)] := by
  have hfire : s.slotStands d .fire = false := he
  have hsched : s.slotStands d .schedule = true := rfl
  have hpass : s.slotStands d .passage = s.doors.passage := rfl
  simp only [State.wishes, ClaimSlot.inOrder, List.filterMap_cons, List.filterMap_nil, hfire, hsched, hpass, scheduleLock_eq]
  cases s.slotStands d .lockdown <;> cases s.doors.passage <;> rfl

/-- The wishes for the hold without FIRE. -/
theorem holdWishes_eq (he : s.fire.evac = false) : s.wishes d (slotHold s.modes.mode (s.door d).desc.kind) =
    (if s.slotStands d .lockdown then [(s.cfg.lockdownLevel, HoldOut.dropped)] else [])
      ++ [(2, if s.modes.mode = .pub ∧ (s.door d).desc.kind = .interior then .holding else .dropped)] := by
  have hfire : s.slotStands d .fire = false := he
  have hsched : s.slotStands d .schedule = true := rfl
  simp only [State.wishes, ClaimSlot.inOrder, List.filterMap_cons, List.filterMap_nil, hfire, hsched, scheduleHold_eq]
  cases s.slotStands d .lockdown <;> cases hp : s.slotStands d .passage <;> rfl

/-- R65: the resolved lock. -/
theorem resolvedLock_eq (L : LevelsFit s) : s.resolvedLock d =
    if s.fire.evac then .free
    else if s.slotStands d .lockdown ∧ (s.doors.passage = true → s.cfg.passageLevel ≤ s.cfg.lockdownLevel) then .locked
    else if s.doors.passage then .free
    else if s.modes.mode = .night ∨ (s.modes.mode = .closed ∧ (s.door d).desc.kind = .exit) then .locked
    else .free := by
  obtain ⟨hl, -⟩ := L.lockdown
  obtain ⟨hp, -⟩ := L.passage
  cases he : s.fire.evac with
  | true => simpa using resolvedLock_of_evac L he
  | false =>
    rw [State.resolvedLock, lockWishes_eq he]
    have hlow : 2 < s.cfg.lockdownLevel ∧ 2 < s.cfg.passageLevel := ⟨by omega, by omega⟩
    cases hld : s.slotStands d .lockdown <;> cases hpa : s.doors.passage
    · simp [strongest]
    · simp only [Bool.false_eq_true, if_false, if_true, List.nil_append, List.cons_append, false_and]
      rw [strongest_first (by simpa using hlow.2.le)]
      rfl
    · simp only [Bool.false_eq_true, if_false, if_true, List.nil_append, List.append_nil, List.cons_append, false_implies, and_self]
      rw [strongest_first (by simpa using hlow.1.le)]
      rfl
    · simp only [Bool.false_eq_true, if_false, if_true, List.cons_append, List.nil_append, true_implies, true_and]
      by_cases hle : s.cfg.passageLevel ≤ s.cfg.lockdownLevel
      · rw [strongest_first (by simpa using ⟨hle, hlow.1.le⟩), if_pos hle]
        rfl
      · rw [strongest_second (by simpa using hle), strongest_first (by simpa using hlow.2.le), if_neg hle]
        rfl

/-- R65: the resolved hold. -/
theorem resolvedHold_eq (L : LevelsFit s) : s.resolvedHold d =
    if s.fire.evac then .dropped
    else if s.slotStands d .lockdown then .dropped
    else if s.modes.mode = .pub ∧ (s.door d).desc.kind = .interior then .holding
    else .dropped := by
  obtain ⟨hl, -⟩ := L.lockdown
  cases he : s.fire.evac with
  | true => simpa using resolvedHold_of_evac L he
  | false =>
    rw [State.resolvedHold, holdWishes_eq he]
    cases hld : s.slotStands d .lockdown
    · simp [strongest]
    · simp only [if_true, List.cons_append, List.nil_append, Bool.false_eq_true, if_false]
      rw [strongest_first (by simpa using by omega)]
      rfl

/-- R61, R62: a hold is resolved in PUBLIC alone, without an evacuation. -/
theorem of_resolvedHold (L : LevelsFit s) (h : s.resolvedHold d = .holding) : s.modes.mode = .pub ∧ s.fire.evac = false := by
  rw [resolvedHold_eq L] at h
  split at h
  · cases h
  next he =>
    split at h
    · cases h
    · split at h
      next hm => exact ⟨hm.1, by simpa using he⟩
      next => cases h

end

/-- R65: a standing slot with a preference, above every other, decides. -/
theorem slotLock_of_highest {s : State} {d : Fin 4} {slot : ClaimSlot} (hs : s.slotStands d slot = true)
    (hp : (slotLock s.modes.mode (s.door d).desc.kind slot).isSome = true)
    (h : ∀ other : ClaimSlot, other ≠ slot → s.slotStands d other = true → s.slotLevel other < s.slotLevel slot) :
    slotLock s.modes.mode (s.door d).desc.kind slot = some (s.resolvedLock d) := by
  obtain ⟨w, hw⟩ := Option.isSome_iff_exists.1 hp
  have hbest : strongest (s.wishes d (slotLock s.modes.mode (s.door d).desc.kind)) = some (s.slotLevel slot, w) := by
    refine strongest_of_mem (List.mem_filterMap.2 ⟨slot, by cases slot <;> simp [ClaimSlot.inOrder], by simp [hs, hw]⟩) ?_
    intro x hx
    obtain ⟨other, -, ho⟩ := List.mem_filterMap.1 hx
    split at ho
    next hstands =>
      obtain ⟨v, hv, rfl⟩ := Option.map_eq_some_iff.1 ho
      by_cases hne : other = slot
      · subst hne
        rw [hw] at hv
        cases hv
        exact .inl rfl
      · exact .inr (h other hne hstands)
    next => cases ho
  rw [hw, State.resolvedLock, hbest]
  rfl

/-- Settles O30. -/
theorem highestClaimDecidesTheDoor : Obligations.HighestClaimDecidesTheDoor :=
  ⟨fun _ _ hl hl' hp hp' =>
    have L : LevelsFit _ := ⟨⟨hl, hl'⟩, ⟨hp, hp'⟩⟩
    ⟨resolvedLock_eq L, resolvedHold_eq L⟩,
   lockdown_stands, fun _ _ _ => slotLock_of_highest, strongest_isNone⟩

end Sys2Proof.Proofs.Claims
end

section
/-! What the driving of the outputs makes of a door (R66, R67, R72): the lock and the hold it is resolved to, outside a freeze. -/

namespace Sys2Proof.Proofs.DoorDrive

open Sys2Proof Sys2Proof.Machine Sys2Proof.Proofs.PartFrames Sys2Proof.Proofs.Steps Sys2Proof.Proofs.Claims

/-! ### One door -/

/-- What holds of a door record whatever is resolved. -/
structure Fit (r : DoorRec) : Prop where
  phase : phaseFits r.position r.phase = true
  locked : r.lock = .locked → r.position ≠ some .opened ∨ r.phase = some .forced
  magnet : r.hold = .holding → r.desc.magnet = true
  unread : r.desc.isOwned = false ∨ r.position = none → r.lock = .free ∧ r.hold = .dropped
  unowned : r.desc.isOwned = false → r.position = none

/-- The lock keeps to the evacuation flag and, where `follow` says so, to the resolution. -/
structure LockMeets (follow : Bool) (s : State) (d : Fin 4) : Prop where
  evac : s.fire.evac = true → (s.door d).lock = .free
  resolved : follow = true → s.drivable d = true → (s.door d).position ≠ some .opened → (s.door d).lock = s.resolvedLock d

/-- The hold keeps to PUBLIC without evacuation, but in a freeze, and, where `follow` says so, to the resolution. -/
structure HoldMeets (follow : Bool) (s : State) (d : Fin 4) : Prop where
  mode : (s.door d).hold = .holding → s.frozen d = true ∨ (s.modes.mode = .pub ∧ s.fire.evac = false)
  resolved : follow = true → s.drivable d = true →
    (s.door d).hold = (holdFor (s.resolvedHold d) (s.door d).desc.magnet (s.door d).deferred (s.door d).phase).1

/-- Both outputs of a door keep to what is resolved. -/
structure Meets (follow : Bool) (s : State) (d : Fin 4) : Prop where
  lock : LockMeets follow s d
  hold : HoldMeets follow s d

theorem doorSound_iff (s : State) (d : Fin 4) : s.DoorSound d ↔ Fit (s.door d) ∧ Meets false s d := by
  constructor
  · rintro ⟨hph, hlock, hmag, hmode, hevac, hun, hown⟩
    exact ⟨⟨hph, hlock, hmag, hun, hown⟩, ⟨hevac, fun h => by cases h⟩, hmode, fun h => by cases h⟩
  · rintro ⟨hf, hl, hh⟩
    exact ⟨hf.phase, hf.locked, hf.magnet, hh.mode, hl.evac, hf.unread, hf.unowned⟩

/-! ### What the resolution is made of -/

/-- The mode, the evacuation flag, the configuration and the freeze are the same. -/
structure SameRules (s t : State) : Prop where
  mode : t.modes.mode = s.modes.mode
  evac : t.fire.evac = s.fire.evac
  image : t.start.image = s.start.image
  freeze : t.start.freeze = s.start.freeze

/-- Everything the resolution of every door is made of is the same. -/
structure SameClaims (s t : State) : Prop extends SameRules s t where
  intrusion : t.watch.intrusion = s.watch.intrusion
  passage : t.doors.passage = s.doors.passage
  entries : t.table.entries = s.table.entries

section
variable {s t u : State} {d : Fin 4}

namespace SameRules

theorem cfg (h : SameRules s t) : t.cfg = s.cfg := by simp only [State.cfg, h.image]

theorem levels (h : SameRules s t) (L : LevelsFit s) : LevelsFit t := by
  obtain ⟨h1, h2⟩ := L
  exact ⟨by rw [h.cfg]; exact h1, by rw [h.cfg]; exact h2⟩

theorem resolvedLock (h : SameRules s t) (hst : ∀ slot, t.slotStands d slot = s.slotStands d slot)
    (hd : (t.door d).desc = (s.door d).desc) : t.resolvedLock d = s.resolvedLock d := by
  simp only [State.resolvedLock, State.wishes, hst, State.slotLevel, h.cfg, h.mode, hd]

theorem resolvedHold (h : SameRules s t) (hst : ∀ slot, t.slotStands d slot = s.slotStands d slot)
    (hd : (t.door d).desc = (s.door d).desc) : t.resolvedHold d = s.resolvedHold d := by
  simp only [State.resolvedHold, State.wishes, hst, State.slotLevel, h.cfg, h.mode, hd]

theorem frozen (h : SameRules s t) (hk : (t.door d).keep = (s.door d).keep) : t.frozen d = s.frozen d := by
  simp only [State.frozen, h.freeze, hk]

theorem drivable (h : SameRules s t) (hd : (t.door d).desc = (s.door d).desc) (hp : (t.door d).position = (s.door d).position)
    (hk : (t.door d).keep = (s.door d).keep) : t.drivable d = s.drivable d := by
  simp only [State.drivable, State.sensed, h.frozen hk, hd, hp]

end SameRules

namespace SameClaims

theorem refl (s : State) : SameClaims s s := ⟨⟨rfl, rfl, rfl, rfl⟩, rfl, rfl, rfl⟩

theorem trans (h : SameClaims s t) (k : SameClaims t u) : SameClaims s u :=
  ⟨⟨k.mode.trans h.mode, k.evac.trans h.evac, k.image.trans h.image, k.freeze.trans h.freeze⟩,
   k.intrusion.trans h.intrusion, k.passage.trans h.passage, k.entries.trans h.entries⟩

theorem stands (h : SameClaims s t) (hd : (t.door d).desc = (s.door d).desc) (slot : ClaimSlot) :
    t.slotStands d slot = s.slotStands d slot := by
  have he : ∀ n, t.entryFor n = s.entryFor n := fun n => by simp only [State.entryFor, h.entries]
  cases slot <;> simp only [State.slotStands, State.neighbourIntrusion, h.evac, h.intrusion, h.passage, hd, he]

end SameClaims

end

section
variable {b : Bool} {s t : State} {d : Fin 4}

theorem LockMeets.congr (h : LockMeets b s d) (hc : SameRules s t) (hst : ∀ slot, t.slotStands d slot = s.slotStands d slot)
    (hd : (t.door d).desc = (s.door d).desc) (hp : (t.door d).position = (s.door d).position)
    (hk : (t.door d).keep = (s.door d).keep) (hl : (t.door d).lock = (s.door d).lock) : LockMeets b t d where
  evac := by rw [hc.evac, hl]; exact h.evac
  resolved := by rw [hc.drivable hd hp hk, hc.resolvedLock hst hd, hl, hp]; exact h.resolved

theorem HoldMeets.congr (h : HoldMeets b s d) (hc : SameRules s t) (hst : ∀ slot, t.slotStands d slot = s.slotStands d slot)
    (hd : (t.door d).desc = (s.door d).desc) (hp : (t.door d).position = (s.door d).position)
    (hk : (t.door d).keep = (s.door d).keep) (hh : (t.door d).hold = (s.door d).hold)
    (hdef : (t.door d).deferred = (s.door d).deferred) (hph : (t.door d).phase = (s.door d).phase) : HoldMeets b t d where
  mode := by rw [hc.frozen hk, hc.mode, hc.evac, hh]; exact h.mode
  resolved := by rw [hc.drivable hd hp hk, hc.resolvedHold hst hd, hd, hh, hdef, hph]; exact h.resolved

/-- The record that the rules of R66 and R67 read is the same. -/
structure SameDoor (r r' : DoorRec) : Prop where
  desc : r'.desc = r.desc
  position : r'.position = r.position
  keep : r'.keep = r.keep
  lock : r'.lock = r.lock
  hold : r'.hold = r.hold
  deferred : r'.deferred = r.deferred
  phase : r'.phase = r.phase

theorem SameDoor.of_eq {r r' : DoorRec} (h : r' = r) : SameDoor r r' := by subst h; exact ⟨rfl, rfl, rfl, rfl, rfl, rfl, rfl⟩

theorem Fit.congr {r r' : DoorRec} (h : Fit r) (k : SameDoor r r') : Fit r' where
  phase := by rw [k.position, k.phase]; exact h.phase
  locked := by rw [k.position, k.phase, k.lock]; exact h.locked
  magnet := by rw [k.hold, k.desc]; exact h.magnet
  unread := by rw [k.position, k.desc, k.lock, k.hold]; exact h.unread
  unowned := by rw [k.position, k.desc]; exact h.unowned

theorem Meets.congr_of_stands (h : Meets b s d) (hc : SameRules s t) (hst : ∀ slot, t.slotStands d slot = s.slotStands d slot)
    (k : SameDoor (s.door d) (t.door d)) : Meets b t d :=
  ⟨h.lock.congr hc hst k.desc k.position k.keep k.lock, h.hold.congr hc hst k.desc k.position k.keep k.hold k.deferred k.phase⟩

theorem Meets.congr (h : Meets b s d) (hc : SameClaims s t) (k : SameDoor (s.door d) (t.door d)) : Meets b t d :=
  h.congr_of_stands hc.toSameRules (hc.stands k.desc) k

end

/-! ### The lock -/

theorem lockFor_locked {resolved now : LockOut} {p : Option Position} (h : lockFor resolved p now = .locked) :
    now = .locked ∨ p ≠ some .opened := by
  cases resolved with
  | free => cases h
  | locked =>
    simp only [lockFor] at h
    split at h
    · exact .inl h
    next hp => exact .inr hp

theorem lockFor_resolved {resolved now : LockOut} {p : Option Position} (h : p ≠ some .opened) :
    lockFor resolved p now = resolved := by
  cases resolved <;> simp [lockFor, h]

theorem resolve_claims (s : State) (d : Fin 4) : SameClaims s (s.resolve d) :=
  ⟨⟨by simp, by simp, by simp, by simp⟩, by simp, by simp, by simp⟩

theorem driveLock_claims (s : State) (d : Fin 4) : SameClaims s (s.driveLock d) :=
  ⟨⟨by simp, by simp, by simp, by simp⟩, by simp, by simp, by simp⟩

theorem driveHold_claims (s : State) (d : Fin 4) : SameClaims s (s.driveHold d) :=
  ⟨⟨by simp, by simp, by simp, by simp⟩, by simp, by simp, by simp⟩

theorem ajarUpdate_claims (s : State) (d : Fin 4) : SameClaims s (s.ajarUpdate d) :=
  ⟨⟨by simp, by simp, by simp, by simp⟩, by simp, by simp, by simp⟩

theorem ajarUpdate_sameDoor (s : State) (d e : Fin 4) : SameDoor (s.door e) ((s.ajarUpdate d).door e) :=
  ⟨by simp, by simp, by simp, by simp, by simp, by simp, by simp⟩

/-- R66: what the lock becomes. -/
theorem driveLock_lock (s : State) (d : Fin 4) : ((s.driveLock d).door d).lock =
    if s.drivable d then lockFor (s.resolvedLock d) (s.door d).position (s.door d).lock else (s.door d).lock := by
  rw [State.driveLock_door]
  cases s.drivable d <;> simp

theorem driveLock_other (s : State) (d e : Fin 4) (h : d ≠ e) : (s.driveLock d).door e = s.door e := by
  rw [State.driveLock_door, if_neg (fun hh => h hh.1)]

theorem sensed_iff (s : State) (d : Fin 4) :
    s.sensed d = true ↔ (s.door d).desc.isOwned = true ∧ (s.door d).position ≠ none := by
  simp [State.sensed, Option.isSome_iff_ne_none]

/-- A door that is not driven is frozen, or its outputs are FREE and DROPPED. -/
theorem undriven {s : State} {d : Fin 4} (hf : Fit (s.door d)) (h : s.drivable d = false) :
    s.frozen d = true ∨ ((s.door d).lock = .free ∧ (s.door d).hold = .dropped) := by
  cases hz : s.frozen d with
  | true => exact .inl rfl
  | false =>
    refine .inr (hf.unread ?_)
    have hs : ¬s.sensed d = true := fun hs => by simp [State.drivable, hs, hz] at h
    rw [sensed_iff, not_and_or, not_not, Bool.not_eq_true] at hs
    exact hs

/-- R66: a lock driven keeps to the evacuation flag and to the resolution, unless the evacuation finds the door frozen. -/
theorem driveLock_meets (b : Bool) {s : State} {d : Fin 4} (L : LevelsFit s)
    (hun : s.drivable d = false → s.fire.evac = true → (s.door d).lock = .free) : LockMeets b (s.driveLock d) d where
  evac := by
    intro he
    rw [(driveLock_claims s d).evac] at he
    rw [driveLock_lock]
    split
    · rw [resolvedLock_of_evac L he]; rfl
    next hd => exact hun (by simpa using hd) he
  resolved := by
    intro _ hd hp
    obtain ⟨hdesc, hpos, -, hkeep, -⟩ := driveLock_site s d d
    rw [(driveLock_claims s d).drivable hdesc hpos hkeep] at hd
    rw [hpos] at hp
    rw [driveLock_lock, if_pos hd, (driveLock_claims s d).resolvedLock ((driveLock_claims s d).stands hdesc) hdesc]
    exact lockFor_resolved hp

/-! ### The hold -/

/-- R67, R72: what becomes of a driven door's hold, hold-deferred flag and phase. -/
theorem driveHold_door (s : State) (d : Fin 4) :
    (s.sensed d = false ∧ s.driveHold d = s)
      ∨ (s.sensed d = true ∧ s.frozen d = true ∧ ((s.driveHold d).door d).hold = (s.door d).hold
        ∧ ((s.driveHold d).door d).phase = (s.door d).phase)
      ∨ (s.sensed d = true ∧ s.frozen d = false
        ∧ ((s.driveHold d).door d).hold = (holdFor (s.resolvedHold d) (s.door d).desc.magnet (s.door d).deferred (s.door d).phase).1
        ∧ ((s.driveHold d).door d).deferred
            = (holdFor (s.resolvedHold d) (s.door d).desc.magnet (s.door d).deferred (s.door d).phase).2
        ∧ (((s.driveHold d).door d).phase = (s.door d).phase
          ∨ ((s.door d).position = some .opened ∧ (s.door d).phase = some .held ∧ ((s.driveHold d).door d).phase = some .closing
            ∧ ((s.driveHold d).door d).hold = .dropped)
          ∨ ((s.door d).position = some .opened ∧ (s.door d).phase = some .opened
            ∧ ((s.driveHold d).door d).phase = some .held ∧ ((s.driveHold d).door d).hold = .holding))) := by
  cases hs : s.sensed d with
  | false => exact .inl ⟨rfl, State.driveHold_unsensed s d hs⟩
  | true =>
    cases hz : s.frozen d with
    | true => exact .inr (.inl ⟨rfl, rfl, by simp [State.driveHold_frozen s d hs hz], by simp [State.driveHold_frozen s d hs hz]⟩)
    | false =>
      refine .inr (.inr ⟨rfl, rfl, ?_⟩)
      simp only [State.driveHold, hs, hz, Bool.not_true, Bool.false_eq_true, if_false, Bool.false_or, beq_iff_eq]
      generalize holdFor (s.resolvedHold d) (s.door d).desc.magnet (s.door d).deferred (s.door d).phase = new
      split
      next heq => simp [← heq]
      next =>
        unfold State.holdChanged
        simp only [State.setDoor_door, if_true]
        split
        next hc => simp [hc]
        next =>
          split
          next hc => simp [hc]
          next => simp

/-- R67: the resolution of a hold that has just been driven gives the output that stands. -/
theorem holdFor_again (resolved : HoldOut) (magnet deferred : Bool) (phase phase' : Option DoorPhase)
    (h : (holdFor resolved magnet deferred phase).1 = .holding → phase' ≠ some .closing ∧ phase' ≠ some .blocked) :
    (holdFor resolved magnet (holdFor resolved magnet deferred phase).2 phase').1
      = (holdFor resolved magnet deferred phase).1 := by
  cases resolved with
  | dropped => rfl
  | holding =>
    cases magnet with
    | false => rfl
    | true =>
      by_cases hp : phase = some .closing ∨ phase = some .blocked
      · simp [holdFor, hp]
      · cases deferred with
        | true => simp [holdFor, hp]
        | false =>
          have := h (by simp [holdFor, hp])
          simp [holdFor, hp, this]

theorem holdFor_holding {resolved : HoldOut} {magnet deferred : Bool} {phase : Option DoorPhase}
    (h : (holdFor resolved magnet deferred phase).1 = .holding) :
    resolved = .holding ∧ magnet = true ∧ phase ≠ some .closing ∧ phase ≠ some .blocked := by
  unfold holdFor at h
  (repeat' split at h) <;> simp_all

/-- R67: a hold driven keeps to the resolution, and a frozen one to what it was. -/
theorem driveHold_meets (b : Bool) {s : State} {d : Fin 4} (L : LevelsFit s) (hf : s.sensed d = false → (s.door d).hold = .dropped) :
    HoldMeets b (s.driveHold d) d := by
  have hc := driveHold_claims s d
  obtain ⟨hdesc, hpos, -, hkeep, -⟩ := driveHold_site s d d
  rcases driveHold_door s d with ⟨hs, he⟩ | ⟨hs, hz, -, -⟩ | ⟨hs, hz, hh, hdef, hph⟩
  · rw [he]
    refine ⟨fun hy => ?_, fun _ hd => ?_⟩
    · rw [hf hs] at hy; cases hy
    · rw [State.drivable, hs] at hd; cases hd
  · have hz' : (s.driveHold d).frozen d = true := (hc.frozen hkeep).trans hz
    exact ⟨fun _ => .inl hz', fun _ hd => by simp [State.drivable, hz'] at hd⟩
  · refine ⟨fun hy => .inr ?_, fun _ _ => ?_⟩
    · rw [hh] at hy
      obtain ⟨hr, -⟩ := holdFor_holding hy
      rw [hc.mode, hc.evac]
      exact of_resolvedHold L hr
    · rw [hc.resolvedHold (hc.stands hdesc) hdesc, hdesc, hdef, hh, holdFor_again]
      intro hy
      obtain ⟨-, -, hne⟩ := holdFor_holding hy
      rcases hph with hph | ⟨-, -, -, hdrop⟩ | ⟨-, -, hph, -⟩
      · rw [hph]; exact hne
      · rw [← hh, hdrop] at hy; cases hy
      · rw [hph]; exact ⟨by simp, by simp⟩

/-! ### A door driven -/

theorem driveLock_fit {s : State} {d : Fin 4} (h : Fit (s.door d)) : Fit ((s.driveLock d).door d) := by
  obtain ⟨hdesc, hpos, -, -, hph, hh, -⟩ := driveLock_site s d d
  refine ⟨by rw [hpos, hph]; exact h.phase, ?_, by rw [hh, hdesc]; exact h.magnet, ?_, by rw [hpos, hdesc]; exact h.unowned⟩
  · rw [hpos, hph, driveLock_lock]
    split
    · intro hl
      rcases lockFor_locked hl with hl | hp
      · exact h.locked hl
      · exact .inl hp
    · exact h.locked
  · rw [hpos, hdesc, hh]
    intro hun
    refine ⟨?_, (h.unread hun).2⟩
    have hd : s.drivable d = false := by
      rw [← Bool.not_eq_true, State.drivable_iff, sensed_iff]
      rintro ⟨⟨ho, hp⟩, -⟩
      rcases hun with hun | hun
      · rw [hun] at ho; cases ho
      · exact hp hun
    rw [driveLock_lock, hd]
    exact (h.unread hun).1

theorem driveHold_fit {s : State} {d : Fin 4} (h : Fit (s.door d)) : Fit ((s.driveHold d).door d) := by
  obtain ⟨hdesc, hpos, -, -, hl⟩ := driveHold_site s d d
  rcases driveHold_door s d with ⟨-, he⟩ | ⟨hs, -, hh, hph⟩ | ⟨hs, -, hh, -, hph⟩
  · rwa [he]
  · refine ⟨?_, ?_, ?_, ?_, ?_⟩
    · rw [hpos, hph]; exact h.phase
    · rw [hpos, hph, hl]; exact h.locked
    · rw [hdesc, hh]; exact h.magnet
    · rw [hdesc, hpos, hl, hh]; exact h.unread
    · rw [hdesc, hpos]; exact h.unowned
  · obtain ⟨hown, hread⟩ := (sensed_iff s d).1 hs
    refine ⟨?_, ?_, ?_, ?_, ?_⟩
    · rw [hpos]
      rcases hph with hph | ⟨hop, -, hph, -⟩ | ⟨hop, -, hph, -⟩
      · rw [hph]; exact h.phase
      · rw [hop, hph]; rfl
      · rw [hop, hph]; rfl
    · rw [hpos, hl]
      intro hlock
      rcases hph with hph | ⟨hop, hheld, -⟩ | ⟨hop, hopen, -⟩
      · rw [hph]; exact h.locked hlock
      · rcases h.locked hlock with hne | hf
        · exact absurd hop hne
        · rw [hheld] at hf; cases hf
      · rcases h.locked hlock with hne | hf
        · exact absurd hop hne
        · rw [hopen] at hf; cases hf
    · rw [hdesc, hh]
      exact fun hy => (holdFor_holding hy).2.1
    · rw [hdesc, hpos]
      rintro (hy | hy)
      · rw [hown] at hy; cases hy
      · exact absurd hy hread
    · rw [hdesc, hpos]; exact h.unowned

/-- R66, R67: a door driven is fit and meets what is resolved, unless an evacuation finds it frozen. -/
theorem driven_meets (b : Bool) {s : State} {d : Fin 4} (L : LevelsFit s) (hf : Fit (s.door d))
    (hz : s.frozen d = true → s.fire.evac = true → (s.door d).lock = .free) : Meets b ((s.driveLock d).driveHold d) d := by
  have hc := driveLock_claims s d
  have hlock : LockMeets b (s.driveLock d) d := by
    refine driveLock_meets b L fun hd he => ?_
    rcases undriven hf hd with hfz | ⟨hl, -⟩
    · exact hz hfz he
    · exact hl
  obtain ⟨hdesc, hpos, -, hkeep, hl⟩ := driveHold_site (s.driveLock d) d d
  refine ⟨hlock.congr (driveHold_claims _ d).toSameRules ((driveHold_claims _ d).stands hdesc) hdesc hpos hkeep hl, driveHold_meets b (hc.levels L) fun hs => ?_⟩
  have hun := hs
  rw [← Bool.not_eq_true, sensed_iff, not_and_or, not_not, Bool.not_eq_true] at hun
  exact ((driveLock_fit hf).unread hun).2

theorem driven_fit {s : State} {d : Fin 4} (h : Fit (s.door d)) : Fit (((s.driveLock d).driveHold d).door d) :=
  driveHold_fit (driveLock_fit h)

theorem driven_other (s : State) {d e : Fin 4} (h : d ≠ e) : ((s.driveLock d).driveHold d).door e = s.door e := by
  rw [State.driveHold_other _ _ _ h, driveLock_other _ _ _ h]

theorem driven_claims (s : State) (d : Fin 4) : SameClaims s ((s.driveLock d).driveHold d) :=
  (driveLock_claims s d).trans (driveHold_claims _ d)

end Sys2Proof.Proofs.DoorDrive
end

section
/-! The doors through a delivery: each resolution fits its own door and leaves the others, so that after the deliveries of a change every
door keeps to the claims that stand (R60, R65, R83). -/

namespace Sys2Proof.Proofs.DoorDrive

open Sys2Proof Sys2Proof.Machine Sys2Proof.Proofs.PartFrames Sys2Proof.Proofs.Steps Sys2Proof.Proofs.Claims

/-- What holds of the doors also between a change of a claim and its delivery. -/
structure Loose (s : State) : Prop where
  levels : LevelsFit s
  fit : ∀ d, Fit (s.door d)

/-- Between a change of a claim and its delivery, with no freeze in an evacuation. -/
structure Half (s : State) : Prop extends Loose s where
  calm : s.fire.evac = true → s.start.freeze = false

/-- The doors as they stand between events. -/
structure Sound (follow : Bool) (s : State) : Prop extends Half s where
  meets : ∀ d, Meets follow s d

section
variable {b : Bool} {s t : State} {d e : Fin 4}

theorem Loose.congr (h : Loose s) (hi : t.start.image = s.start.image) (k : ∀ d, SameDoor (s.door d) (t.door d)) : Loose t := by
  obtain ⟨h1, h2⟩ := h.levels
  have hc : t.cfg = s.cfg := by simp only [State.cfg, hi]
  exact ⟨⟨by rw [hc]; exact h1, by rw [hc]; exact h2⟩, fun d => (h.fit d).congr (k d)⟩

theorem Half.congr (h : Half s) (hr : SameRules s t) (k : ∀ d, SameDoor (s.door d) (t.door d)) : Half t :=
  ⟨h.toLoose.congr hr.image k, by rw [hr.evac, hr.freeze]; exact h.calm⟩

theorem Sound.congr (h : Sound b s) (hc : SameClaims s t) (k : ∀ d, SameDoor (s.door d) (t.door d)) : Sound b t :=
  ⟨h.toHalf.congr hc.toSameRules k, fun d => (h.meets d).congr hc (k d)⟩

theorem Half.unfrozen (h : Half s) (he : s.fire.evac = true) (d : Fin 4) : s.frozen d = false := by
  simp [State.frozen, h.calm he]

theorem sameDoors (h : t.doors = s.doors) (d : Fin 4) : SameDoor (s.door d) (t.door d) := .of_eq (door_congr h d)

/-- A door that is not owned keeps to every resolution. -/
theorem Meets.of_unowned (hf : Fit (s.door d)) (h : (s.door d).desc.isOwned = false) : Meets b s d := by
  obtain ⟨hl, hh⟩ := hf.unread (.inl h)
  have hd : s.drivable d = false := by simp [State.drivable, State.sensed, h]
  exact ⟨⟨fun _ => hl, fun _ hy => by simp [hd] at hy⟩, ⟨fun hy => by simp [hh] at hy, fun _ hy => by simp [hd] at hy⟩⟩

/-- A door that is not driven follows no resolution. -/
theorem Meets.of_undriven (hd : s.drivable d = false) (h : Meets false s d) : Meets b s d :=
  ⟨⟨h.lock.evac, fun _ hy => by simp [hd] at hy⟩, ⟨h.hold.mode, fun _ hy => by simp [hd] at hy⟩⟩

/-- R62: in an evacuation without a freeze FREE and DROPPED are what is resolved. -/
theorem Meets.of_evac (L : LevelsFit s) (he : s.fire.evac = true) (hl : (s.door d).lock = .free) (hh : (s.door d).hold = .dropped) :
    Meets b s d :=
  ⟨⟨fun _ => hl, fun _ _ _ => by rw [hl, resolvedLock_of_evac L he]⟩,
   ⟨fun hy => by simp [hh] at hy, fun _ _ => by rw [hh, resolvedHold_of_evac L he]; rfl⟩⟩

/-- In an evacuation without a freeze every door is FREE and DROPPED. -/
theorem Sound.outputs_of_evac (h : Sound b s) (he : s.fire.evac = true) (d : Fin 4) :
    (s.door d).lock = .free ∧ (s.door d).hold = .dropped := by
  refine ⟨(h.meets d).lock.evac he, ?_⟩
  cases hh : (s.door d).hold with
  | dropped => rfl
  | holding =>
    rcases (h.meets d).hold.mode hh with hz | ⟨-, hn⟩
    · cases (h.unfrozen he d).symm.trans hz
    · cases he.symm.trans hn

end

/-! ### A resolution -/

theorem resolve_fit (s : State) (d e : Fin 4) (h : Fit (s.door e)) : Fit ((s.resolve d).door e) := by
  by_cases hde : d = e
  · subst hde
    unfold State.resolve
    split
    · exact (driven_fit h).congr (ajarUpdate_sameDoor _ d d)
    · exact h
  · rwa [State.resolve_other _ _ _ hde]

theorem resolve_loose (s : State) (d : Fin 4) (h : Loose s) : Loose (s.resolve d) :=
  ⟨(resolve_claims s d).levels h.levels, fun e => resolve_fit s d e (h.fit e)⟩

/-- A door resolved keeps to what is resolved, unless an evacuation finds it frozen. -/
theorem resolve_meets (b : Bool) {s : State} {d : Fin 4} (h : Loose s)
    (hz : s.frozen d = true → s.fire.evac = true → (s.door d).lock = .free) : Meets b (s.resolve d) d := by
  unfold State.resolve
  split
  · exact (driven_meets b h.levels (h.fit d) hz).congr (ajarUpdate_claims _ d) (ajarUpdate_sameDoor _ d d)
  next ho => exact .of_unowned (h.fit d) (by simpa using ho)

theorem resolve_keeps_meets {b : Bool} (s : State) (d e : Fin 4) (hl : Loose s) (h : Meets b s e) : Meets b (s.resolve d) e := by
  by_cases hde : d = e
  · subst hde
    exact resolve_meets b hl fun _ => h.lock.evac
  · exact h.congr (resolve_claims s d) (.of_eq (State.resolve_other _ _ _ hde))

theorem deliver_loose (fs : List (State → State)) (hf : ∀ f ∈ fs, ∀ s, Loose s → Loose (f s)) (s : State) (h : Loose s) :
    Loose (deliver fs s) := deliver_induct Loose (fun _ _ h => h.congr rfl fun _ => .of_eq rfl) fs hf s h

theorem resolves_loose (l : List (Fin 4)) (s : State) (h : Loose s) : Loose (deliver (l.map fun d t => t.resolve d) s) := by
  refine deliver_loose _ (fun f hf t ht => ?_) s h
  obtain ⟨d, -, rfl⟩ := List.mem_map.1 hf
  exact resolve_loose t d ht

theorem afterDraw_claims (s : State) (n : Nat) : SameClaims s (s.afterDraw n) := ⟨⟨rfl, rfl, rfl, rfl⟩, rfl, rfl, rfl⟩

/-- A property of the doors that is loose, with what is met at one door, goes through a delivery. -/
theorem deliver_meets {b : Bool} (fs : List (State → State)) (d : Fin 4)
    (hf : ∀ f ∈ fs, ∀ s, Loose s → Meets b s d → Loose (f s) ∧ Meets b (f s) d) (s : State) (hl : Loose s) (h : Meets b s d) :
    Meets b (deliver fs s) d :=
  (deliver_induct (fun t => Loose t ∧ Meets b t d)
    (fun t n ht => ⟨ht.1.congr rfl fun _ => .of_eq rfl, ht.2.congr (afterDraw_claims t n) (.of_eq rfl)⟩) fs
    (fun f hm t ht => hf f hm t ht.1 ht.2) s ⟨hl, h⟩).2

theorem resolves_keep {b : Bool} (l : List (Fin 4)) (s : State) (d : Fin 4) (hl : Loose s) (h : Meets b s d) :
    Meets b (deliver (l.map fun d t => t.resolve d) s) d := by
  refine deliver_meets _ d (fun f hf t hlt ht => ?_) s hl h
  obtain ⟨e, -, rfl⟩ := List.mem_map.1 hf
  exact ⟨resolve_loose t e hlt, resolve_keeps_meets t e d hlt ht⟩

/-- Before its resolution a door waits: loose, and FREE where an evacuation finds it frozen. -/
structure Waits (s : State) (d : Fin 4) : Prop where
  loose : Loose s
  free : s.frozen d = true → s.fire.evac = true → (s.door d).lock = .free

theorem Waits.resolve {s : State} {d : Fin 4} (h : Waits s d) (e : Fin 4) : Waits (s.resolve e) d := by
  refine ⟨resolve_loose s e h.loose, fun hz he => ?_⟩
  have hc := resolve_claims s e
  obtain ⟨-, -, -, hk⟩ := resolve_site s e d
  rw [hc.frozen hk] at hz
  rw [hc.evac] at he
  by_cases hde : e = d
  · subst hde
    exact (resolve_meets false h.loose h.free).lock.evac (hc.evac.trans he)
  · rw [State.resolve_other _ _ _ hde]
    exact h.free hz he

theorem Waits.afterDraw {s : State} {d : Fin 4} (h : Waits s d) (n : Nat) : Waits (s.afterDraw n) d :=
  ⟨h.loose.congr rfl fun _ => .of_eq rfl, h.free⟩

theorem Half.waits {s : State} (h : Half s) (d : Fin 4) : Waits s d :=
  ⟨h.toLoose, fun hz he => by cases (h.unfrozen he d).symm.trans hz⟩

/-- A door among those resolved keeps to what is resolved. -/
theorem resolves_meets (b : Bool) {l : List (Fin 4)} {s : State} {d : Fin 4} (hd : d ∈ l) (h : Waits s d) :
    Meets b (deliver (l.map fun d t => t.resolve d) s) d := by
  refine (deliver_establishes (Q := fun t => Waits t d) (R := fun t => Loose t ∧ Meets b t d) _ (fun t => t.resolve d)
    (List.mem_map.2 ⟨d, hd, rfl⟩) (fun t n ht => ht.afterDraw n)
    (fun t n ht => ⟨ht.1.congr rfl fun _ => .of_eq rfl, ht.2.congr (afterDraw_claims t n) (.of_eq rfl)⟩)
    ?_ ?_ (fun t ht => ⟨resolve_loose t d ht.loose, resolve_meets b ht.loose ht.free⟩) s h).2
  · intro f hf t ht
    obtain ⟨e, -, rfl⟩ := List.mem_map.1 hf
    exact ht.resolve e
  · rintro f hf t ⟨hlt, ht⟩
    obtain ⟨e, -, rfl⟩ := List.mem_map.1 hf
    exact ⟨resolve_loose t e hlt, resolve_keeps_meets t e d hlt ht⟩

theorem resolveAll_meets (b : Bool) {s : State} {d : Fin 4} (h : Waits s d) : Meets b s.resolveAll d := by
  cases ho : (s.door d).desc.isOwned with
  | true => exact resolves_meets b (by simp [State.ownedDoors, ho]) h
  | false =>
    refine .of_unowned ((resolves_loose _ s h.loose).fit d) ?_
    rw [(resolveAll_site s d).1]
    exact ho

theorem resolves_claims (l : List (Fin 4)) (s : State) : SameClaims s (deliver (l.map fun d t => t.resolve d) s) :=
  ⟨⟨by simp, by simp, by simp, by simp⟩, by simp, by simp, by simp⟩

theorem resolveAll_claims (s : State) : SameClaims s s.resolveAll := resolves_claims _ s

theorem resolves_half (l : List (Fin 4)) (s : State) (h : Half s) : Half (deliver (l.map fun d t => t.resolve d) s) := by
  have hc := resolves_claims l s
  exact ⟨resolves_loose l s h.toLoose, by rw [hc.evac, hc.freeze]; exact h.calm⟩

/-- R60: every door resolved keeps to the claims that stand. -/
theorem resolveAll_sound (b : Bool) (s : State) (h : Half s) : Sound b s.resolveAll :=
  ⟨resolves_half _ s h, fun d => resolveAll_meets b (h.waits d)⟩

/-! ### The end of a freeze -/

theorem freezeEnded_loose (s : State) (h : Loose s) : Loose (freezeEnded s) := h.congr rfl fun _ => .of_eq rfl

theorem freezeEnded_waits (s : State) (d : Fin 4) (h : Loose s) : Waits (freezeEnded s) d :=
  ⟨freezeEnded_loose s h, fun hz => by cases hz⟩

theorem refreshLights_claims (s : State) : SameClaims s s.refreshLights :=
  ⟨⟨by simp, by simp, by simp, by simp⟩, by simp, by simp, by simp⟩

theorem release_loose (s : State) (h : Loose s) : Loose s.release := by
  cases hf : s.start.freeze with
  | false => rwa [release_same hf]
  | true =>
    rw [release_frozen hf]
    have ht : Loose (thawed s) := resolves_loose _ _ (freezeEnded_loose s h)
    exact ht.congr (by simp) (sameDoors (by simp))

/-- R83: the end of a freeze resolves the doors that were frozen; the others keep to what is resolved. -/
theorem release_meets {b : Bool} (s : State) (d : Fin 4) (hl : Loose s) (h : s.frozen d = true ∨ Meets b s d) :
    Meets b s.release d := by
  cases hf : s.start.freeze with
  | false =>
    rw [release_same hf]
    exact h.resolve_left (by simp [State.frozen, hf])
  | true =>
    rw [release_frozen hf]
    have hw := freezeEnded_waits s d hl
    have ht : Meets b (thawed s) d := by
      by_cases ho : (s.door d).desc.isOwned = true
      · by_cases hk : (s.door d).keep = true
        · have hmem : d ∈ (freezeEnded s).ownedDoors.filter fun d => ((freezeEnded s).door d).keep :=
            List.mem_filter.2 ⟨List.mem_filter.2 ⟨List.mem_finRange d, ho⟩, hk⟩
          exact resolves_meets b hmem hw
        · have hz : s.frozen d = false := by simp [State.frozen, hk]
          have hm := h.resolve_left (by simp [hz])
          have hst : ∀ slot, (freezeEnded s).slotStands d slot = s.slotStands d slot := fun slot => by cases slot <;> rfl
          have hdr : (freezeEnded s).drivable d = s.drivable d := by
            simp only [State.drivable, hz]; rfl
          refine resolves_keep _ _ d hw.loose ⟨⟨hm.lock.evac, fun hb hd => ?_⟩, ⟨fun hy => .inr ?_, fun hb hd => ?_⟩⟩
          · exact hm.lock.resolved hb (hdr ▸ hd)
          · exact (hm.hold.mode hy).resolve_left (by simp [hz])
          · exact hm.hold.resolved hb (hdr ▸ hd)
      · refine .of_unowned ((resolves_loose _ _ hw.loose).fit d) ?_
        have hdesc : ((thawed s).door d).desc = (s.door d).desc := (resolves_site _ (freezeEnded s) d).1
        rw [hdesc]
        simpa using ho
    exact ht.congr (refreshLights_claims _) (.of_eq (refreshLights_door _ d))

theorem release_sound {b : Bool} (s : State) (h : Sound b s) : Sound b s.release :=
  ⟨⟨release_loose s h.toLoose, fun _ => by simp⟩, fun d => release_meets s d h.toLoose (.inr (h.meets d))⟩

theorem release_half (s : State) (h : Half s) : Half s.release := ⟨release_loose s h.toLoose, fun _ => by simp⟩

/-! ### The evacuation flag -/

theorem relevelAll_claims (s : State) : SameClaims s s.relevelAll :=
  ⟨⟨by simp, by simp, by simp, by simp⟩, by simp, by simp, by simp⟩

theorem relevelAll_sameDoor (s : State) (d : Fin 4) : SameDoor (s.door d) (s.relevelAll.door d) := sameDoors (by simp) d

theorem relevelAll_loose (s : State) (h : Loose s) : Loose s.relevelAll := h.congr (by simp) (relevelAll_sameDoor s)

theorem releaseInEvac_loose (s : State) (h : Loose s) : Loose (releaseInEvac s) := by
  unfold releaseInEvac
  split
  · exact release_loose s h
  · exact h

theorem releaseInEvac_meets {b : Bool} (s : State) (d : Fin 4) (hl : Loose s) (h : Meets b s d) : Meets b (releaseInEvac s) d := by
  unfold releaseInEvac
  split
  · exact release_meets s d hl (.inr h)
  · exact h

theorem flagSet_loose (s : State) (h : Loose s) : Loose (flagSet s) := h.congr rfl fun _ => .of_eq rfl

theorem flagDelivered_loose (s : State) (h : Loose s) : Loose (flagDelivered s) := by
  refine deliver_loose _ ?_ _ (flagSet_loose s h)
  simp only [List.mem_cons, List.not_mem_nil, or_false]
  rintro f (rfl | rfl | rfl) t ht
  · exact resolves_loose _ t ht
  · exact relevelAll_loose t ht
  · exact releaseInEvac_loose t ht

/-- R34: the rising flag ends any freeze. -/
theorem flagDelivered_calm (s : State) : (flagDelivered s).fire.evac = true → (flagDelivered s).start.freeze = false := by
  refine deliver_establishes (Q := fun _ => True) (R := fun t : State => t.fire.evac = true → t.start.freeze = false) _ releaseInEvac
    (by simp) (fun _ _ h => h) (fun _ _ h => h) (fun _ _ _ _ => trivial) ?_ ?_ (flagSet s) trivial
  · simp only [List.mem_cons, List.not_mem_nil, or_false]
    rintro f (rfl | rfl | rfl) t ht
    · simpa using ht
    · simpa using ht
    · unfold releaseInEvac
      split
      · exact fun _ => by simp
      · exact ht
  · intro t _
    unfold releaseInEvac
    split
    next => exact fun _ => by simp
    next he => exact fun hy => absurd hy he

/-- What each delivery of the flag leaves of a door that keeps to what is resolved. -/
theorem flagDeliveries_keep {b : Bool} {d : Fin 4} : ∀ f ∈ [State.resolveAll, State.relevelAll, releaseInEvac], ∀ t : State,
    Loose t ∧ Meets b t d → Loose (f t) ∧ Meets b (f t) d := by
  simp only [List.mem_cons, List.not_mem_nil, or_false]
  rintro f (rfl | rfl | rfl) t ⟨hl, hm⟩
  · exact ⟨resolves_loose _ t hl, resolves_keep _ t d hl hm⟩
  · exact ⟨relevelAll_loose t hl, hm.congr (relevelAll_claims t) (relevelAll_sameDoor t d)⟩
  · exact ⟨releaseInEvac_loose t hl, releaseInEvac_meets t d hl hm⟩

/-- R34: a door that an evacuation finds frozen is resolved by the release, and every other by the door unit. -/
theorem flagDelivered_meets (b : Bool) (s : State) (d : Fin 4) (h : Loose s) : Meets b (flagDelivered s) d := by
  have hR : ∀ (t : State) (n : Nat), Loose t ∧ Meets b t d → Loose (t.afterDraw n) ∧ Meets b (t.afterDraw n) d :=
    fun t n ht => ⟨ht.1.congr rfl fun _ => .of_eq rfl, ht.2.congr (afterDraw_claims t n) (.of_eq rfl)⟩
  have hu := flagSet_loose s h
  by_cases hz : (flagSet s).frozen d = true ∧ (flagSet s).fire.evac = true
  · refine (deliver_establishes (Q := fun t => Loose t ∧ t.fire.evac = true ∧ (t.frozen d = true ∨ Meets b t d))
      (R := fun t => Loose t ∧ Meets b t d) _ releaseInEvac (by simp) ?_ hR ?_ flagDeliveries_keep ?_ (flagSet s)
      ⟨hu, hz.2, .inl hz.1⟩).2
    · rintro t n ⟨hl, he, hm⟩
      exact ⟨hl.congr rfl fun _ => .of_eq rfl, he, hm.imp id fun hm => hm.congr (afterDraw_claims t n) (.of_eq rfl)⟩
    · simp only [List.mem_cons, List.not_mem_nil, or_false]
      rintro f (rfl | rfl | rfl) t ⟨hl, he, hm⟩
      · have hc := resolveAll_claims t
        obtain ⟨-, -, -, hk⟩ := resolveAll_site t d
        exact ⟨resolves_loose _ t hl, hc.evac.trans he, hm.imp (fun hm => (hc.frozen hk).trans hm) fun hm => resolves_keep _ t d hl hm⟩
      · have hc := relevelAll_claims t
        have hd := relevelAll_sameDoor t d
        exact ⟨relevelAll_loose t hl, hc.evac.trans he, hm.imp (fun hm => (hc.frozen hd.keep).trans hm) fun hm => hm.congr hc hd⟩
      · have hr : releaseInEvac t = t.release := by simp [releaseInEvac, he]
        rw [hr]
        exact ⟨release_loose t hl, by simpa using he, .inr (release_meets t d hl hm)⟩
    · rintro t ⟨hl, he, hm⟩
      have hr : releaseInEvac t = t.release := by simp [releaseInEvac, he]
      rw [hr]
      exact ⟨release_loose t hl, release_meets t d hl hm⟩
  · refine (deliver_establishes (Q := fun t => Loose t ∧ ¬(t.frozen d = true ∧ t.fire.evac = true))
      (R := fun t => Loose t ∧ Meets b t d) _ State.resolveAll (by simp) ?_ hR ?_ flagDeliveries_keep ?_ (flagSet s) ⟨hu, hz⟩).2
    · exact fun t n ht => ⟨ht.1.congr rfl fun _ => .of_eq rfl, ht.2⟩
    · simp only [List.mem_cons, List.not_mem_nil, or_false]
      rintro f (rfl | rfl | rfl) t ⟨hl, hn⟩
      · have hc := resolveAll_claims t
        obtain ⟨-, -, -, hk⟩ := resolveAll_site t d
        exact ⟨resolves_loose _ t hl, by rwa [hc.frozen hk, hc.evac]⟩
      · have hc := relevelAll_claims t
        exact ⟨relevelAll_loose t hl, by rwa [hc.frozen (relevelAll_sameDoor t d).keep, hc.evac]⟩
      · unfold releaseInEvac
        split
        · exact ⟨release_loose t hl, fun hy => by simp [State.frozen] at hy⟩
        · exact ⟨hl, hn⟩
    · rintro t ⟨hl, hn⟩
      exact ⟨resolves_loose _ t hl, resolveAll_meets b ⟨hl, fun hy he => absurd ⟨hy, he⟩ hn⟩⟩

/-- R33, R34: the flag recomputed and delivered leaves every door with what the claims resolve to. -/
theorem flagDelivered_sound (b : Bool) (s : State) (h : Loose s) : Sound b (flagDelivered s) :=
  ⟨⟨flagDelivered_loose s h, flagDelivered_calm s⟩, fun d => flagDelivered_meets b s d h⟩

theorem recomputeEvac_changed_sound (b : Bool) {s : State} (hd : s.evacDue ≠ s.fire.evac) (h : Loose s) : Sound b s.recomputeEvac := by
  rw [recomputeEvac_changed hd]
  exact (flagDelivered_sound b s h).congr
    ⟨⟨by simp, by simp, by simp, by simp⟩, by simp, by simp, by simp⟩ (sameDoors (by simp))

theorem recomputeEvac_sound {b : Bool} (s : State) (h : Sound b s) : Sound b s.recomputeEvac := by
  by_cases hd : s.evacDue = s.fire.evac
  · rwa [recomputeEvac_same hd]
  · exact recomputeEvac_changed_sound b hd h.toLoose

theorem recomputeEvac_half (s : State) (h : Half s) : Half s.recomputeEvac := by
  by_cases hd : s.evacDue = s.fire.evac
  · rwa [recomputeEvac_same hd]
  · exact (recomputeEvac_changed_sound false hd h.toLoose).toHalf

end Sys2Proof.Proofs.DoorDrive
end

section
/-! The doors through the operations of the commands (R60 to R83): every lock FREE in an evacuation, and every output the resolved one. -/

namespace Sys2Proof.Proofs.DoorDrive

open Sys2Proof Sys2Proof.Machine Sys2Proof.Proofs.PartFrames Sys2Proof.Proofs.Steps Sys2Proof.Proofs.Claims

/-! ### The fire state and the mode -/

/-- A property of the doors that a resolution and a delivery of the evacuation flag keep. -/
structure FlagKept (P : State → Prop) : Prop where
  same : ∀ {s t : State}, P s → SameClaims s t → (∀ d, SameDoor (s.door d) (t.door d)) → P t
  resolve : ∀ s d, P s → P (s.resolve d)
  recomputeEvac : ∀ s, P s → P s.recomputeEvac

theorem flagKept_half : FlagKept Half where
  same := fun h hc k => h.congr hc.toSameRules k
  resolve := fun s d h => ⟨resolve_loose s d h.toLoose, by simpa using h.calm⟩
  recomputeEvac := recomputeEvac_half

theorem flagKept_sound (b : Bool) : FlagKept (Sound b) where
  same := fun h hc k => h.congr hc k
  resolve := fun s d h => ⟨⟨resolve_loose s d h.toLoose, by simpa using h.calm⟩,
    fun e => resolve_keeps_meets s d e h.toLoose (h.meets e)⟩
  recomputeEvac := recomputeEvac_sound

/-- Half, and what is met at one door. -/
structure HalfMeets (b : Bool) (d : Fin 4) (s : State) : Prop extends Half s where
  meets : Meets b s d

theorem flagKept_halfMeets (b : Bool) (d : Fin 4) : FlagKept (HalfMeets b d) where
  same := fun h hc k => ⟨h.toHalf.congr hc.toSameRules k, h.meets.congr hc (k d)⟩
  resolve := fun s e h => ⟨flagKept_half.resolve s e h.toHalf, resolve_keeps_meets s e d h.toLoose h.meets⟩
  recomputeEvac := fun s h => by
    by_cases hd : s.evacDue = s.fire.evac
    · rwa [recomputeEvac_same hd]
    · have hs := recomputeEvac_changed_sound b hd h.toLoose
      exact ⟨hs.toHalf, hs.meets d⟩

namespace FlagKept

variable {P : State → Prop} (F : FlagKept P)

include F

/-- No door is written. -/
theorem same' {s t : State} (h : P s) (hc : SameClaims s t) (hd : t.doors = s.doors) : P t := F.same h hc (sameDoors hd)

theorem deliver (fs : List (State → State)) (hf : ∀ f ∈ fs, ∀ s, P s → P (f s)) (s : State) (h : P s) : P (Machine.deliver fs s) :=
  deliver_induct P (fun s n h => F.same' h (afterDraw_claims s n) rfl) fs hf s h

theorem resolves (l : List (Fin 4)) (s : State) (h : P s) : P (Machine.deliver (l.map fun d t => t.resolve d) s) := by
  refine F.deliver _ (fun f hf t ht => ?_) s h
  obtain ⟨d, -, rfl⟩ := List.mem_map.1 hf
  exact F.resolve t d ht

/-- R20: a change of the fire state reaches the doors through the evacuation flag alone. -/
theorem setFireState (s : State) (f : FireState) (h : P s) : P (s.setFireState f) := by
  have h1 : P (fireStateSet s f) := F.same' h ⟨⟨rfl, rfl, rfl, rfl⟩, rfl, rfl, rfl⟩ rfl
  rcases setFireState_cases s f with ⟨-, he⟩ | ⟨-, -, -, he⟩ | ⟨-, -, he⟩ <;> rw [he]
  · exact h
  · exact h1
  · exact F.recomputeEvac _ h1

theorem enterFire (s : State) (h : P s) : P s.enterFire := by
  unfold State.enterFire
  split
  · exact h
  · exact F.setFireState _ _ (F.same' h ⟨⟨by simp, by simp, by simp, by simp⟩, by simp, by simp, by simp⟩ (by simp))

theorem fireModeChange (s : State) (h : P s) : P s.fireModeChange := by
  unfold State.fireModeChange
  split
  · exact F.enterFire s h
  · exact h

theorem corroborateBy (old new : NbEntry) (s : State) (h : P s) : P (corroborateBy old new s) := by
  unfold PartFrames.corroborateBy State.corroborate
  (repeat' split)
  · exact F.enterFire s h
  · exact h
  · exact h

theorem resolveBy (old new : NbEntry) (s : State) (h : P s) : P (resolveBy old new s) := by
  unfold PartFrames.resolveBy
  split
  · exact F.resolves _ s h
  · exact h

theorem recomputeIf (c : Bool) (s : State) (h : P s) : P (recomputeIf c s) :=
  F.same' h ⟨⟨by simp, by simp, by simp, by simp⟩, by simp, by simp, by simp⟩ (by simp)

theorem loopAlarm (s : State) (l : Fin 6) (h : P s) : P (s.loopAlarm l) := by
  have halarm : P (if s.fire.loops[l].kind = .smoke ∧ s.smokeTrusted l = false then s.enterVerify l else s.enterFire) := by
    split
    · exact F.setFireState _ _ (F.same' h ⟨⟨by simp, by simp, by simp, by simp⟩, by simp, by simp, by simp⟩ (by simp))
    · exact F.enterFire s h
  unfold State.loopAlarm
  split
  · exact halarm
  · exact halarm
  · split
    · exact h
    · exact F.enterFire s h
  · exact h

theorem restoreFire (s : State) (h : P s) : P s.restoreFire := by
  have hr : P (if s.loopInAlarm then s else s.endVerification.setFireState s.unlatchedFire) := by
    split
    · exact h
    · exact F.setFireState _ _ (F.same' h ⟨⟨by simp, by simp, by simp, by simp⟩, by simp, by simp, by simp⟩ (by simp))
  unfold State.restoreFire
  split
  · exact h
  · exact F.setFireState _ _ h
  · exact hr
  · exact hr

theorem rosterTakes (s : State) (f : StatusFrame) (h : P s) : P (s.rosterTakes f) := by
  have hr : ∀ l, P (s.setRoster l) := fun l => F.same' h ⟨⟨rfl, rfl, rfl, rfl⟩, rfl, rfl, rfl⟩ rfl
  unfold State.rosterTakes
  dsimp only
  (repeat' split)
  · exact hr _
  · exact F.same' (F.recomputeEvac _ (hr (s.table.roster ++ [{ station := f.source, mark := true }])))
      ⟨⟨by simp, by simp, by simp, by simp⟩, by simp, by simp, by simp⟩ (by simp)
  · exact F.recomputeEvac _ (hr _)
  · exact h

theorem sweepRoster (s : State) (h : P s) : P s.sweepRoster := by
  have hr : ∀ l, P (s.setRoster l) := fun l => F.same' h ⟨⟨rfl, rfl, rfl, rfl⟩, rfl, rfl, rfl⟩ rfl
  unfold State.sweepRoster
  dsimp only
  split
  · exact F.recomputeEvac _ (hr _)
  · exact hr _

end FlagKept

section
variable {b : Bool}

theorem same {s t : State} (h : Sound b s) (hc : SameClaims s t) (hd : t.doors = s.doors) : Sound b t := h.congr hc (sameDoors hd)

/-- R10: a mode change resolves every door, before or after the fire unit takes it. -/
theorem changeMode_sound (s : State) (m : Mode) (h : Sound b s) : Sound b (s.changeMode m) := by
  by_cases hm : s.modes.mode = m
  · subst hm; rwa [changeMode_same]
  · have hset : Half { s with modes := { s.modes with mode := m } } :=
      ⟨h.toLoose.congr rfl fun _ => .of_eq rfl, h.calm⟩
    have hd : Sound b (modeDelivered s m) := by
      refine deliver_establishes (Q := Half) _ State.resolveAll (by simp) (fun t n ht => flagKept_half.same' ht (afterDraw_claims t n) rfl)
        (fun t n ht => same ht (afterDraw_claims t n) rfl) ?_ ?_ (fun t ht => resolveAll_sound b t ht) _ hset
      · simp only [List.mem_cons, List.not_mem_nil, or_false]
        rintro f (rfl | rfl) t ht
        · exact resolves_half _ t ht
        · exact flagKept_half.fireModeChange t ht
      · simp only [List.mem_cons, List.not_mem_nil, or_false]
        rintro f (rfl | rfl) t ht
        · exact resolveAll_sound b t ht.toHalf
        · exact (flagKept_sound b).fireModeChange t ht
    rw [changeMode_changed hm]
    exact same hd ⟨⟨by simp, by simp, by simp, by simp⟩, by simp, by simp, by simp⟩ (by simp)

/-! ### The claims of the watch unit, of PASSAGE and of a neighbour -/

theorem resolveAll_of_half (s t : State) (h : Sound b s) (hr : SameRules s t) (hd : t.doors.records = s.doors.records) :
    Sound b t.resolveAll :=
  resolveAll_sound b t (h.toHalf.congr hr fun d => .of_eq (by simp only [State.door, hd]))

theorem respondAlert_sound (s : State) (h : Sound b s) : Sound b s.respondAlert := by
  cases hi : s.watch.intrusion with
  | true => rwa [respondAlert_set hi]
  | false =>
    rw [respondAlert_clear hi]
    exact same (resolveAll_of_half s (alerted s) h ⟨by simp, by simp, by simp, by simp⟩ (by simp))
      ⟨⟨rfl, rfl, rfl, rfl⟩, rfl, rfl, rfl⟩ rfl

theorem restoreWatch_sound (s : State) (h : Sound b s) : Sound b s.restoreWatch := by
  by_cases hc : s.watch.intrusion = true ∧ s.inputActive = false
  · rw [restoreWatch_cleared hc]
    exact same (resolveAll_of_half s (latchesCleared s) h ⟨by simp, by simp, by simp, by simp⟩ (by simp))
      ⟨⟨rfl, rfl, rfl, rfl⟩, rfl, rfl, rfl⟩ rfl
  · rw [restoreWatch_kept hc]
    exact same h ⟨⟨rfl, rfl, rfl, rfl⟩, rfl, rfl, rfl⟩ rfl

theorem takePassage_sound (s : State) (h : Sound b s) : Sound b s.takePassage := by
  unfold State.takePassage
  dsimp only
  split
  next hp => exact same h ⟨⟨by simp, by simp, by simp, by simp⟩, by simp, by simp [hp], by simp⟩ (by simp [← hp])
  next => exact resolveAll_of_half s _ h ⟨by simp, by simp, by simp, by simp⟩ (by simp)

theorem passageWithdrawn_sound (s : State) (h : Sound b s) : Sound b (passageWithdrawn s) :=
  resolveAll_of_half s _ h ⟨rfl, rfl, rfl, rfl⟩ rfl

/-- What a claim reads of an entry. -/
def claimReading (e : NbEntry) : Station × Bool := (e.station, e.intrusion)

/-- What a claim of a door toward another neighbour reads of an entry. -/
def claimApart (n : Station) (e : NbEntry) : Station × Bool := (e.station, e.intrusion && e.station != n)

theorem entryReplaced_rules (s : State) (k : Fin 4) (old new : NbEntry) : SameRules s (entryReplaced s k old new) :=
  ⟨by simp, by simp, by simp, by simp⟩

theorem entryReplaced_doors (s : State) (k : Fin 4) (old new : NbEntry) (d : Fin 4) :
    (entryReplaced s k old new).door d = s.door d := door_congr (by simp) d

theorem neighbourIntrusion_replaced {s : State} {k : Fin 4} {old new : NbEntry} (hk : s.table.entries[k] = some old)
    (hst : new.station = old.station) (d : Fin 4)
    (h : old.intrusion = new.intrusion ∨ ¬((s.door d).desc.kind = .interior ∧ (s.door d).desc.neighbour = new.station)) :
    (entryReplaced s k old new).neighbourIntrusion d = s.neighbourIntrusion d := by
  have ht : (entryReplaced s k old new).table.entries = s.table.entries.set k (some new) := by simp [State.setEntry]
  simp only [State.neighbourIntrusion, entryReplaced_doors]
  by_cases hi : (s.door d).desc.kind = .interior
  · have heq : ((entryReplaced s k old new).entryFor (s.door d).desc.neighbour).map NbEntry.intrusion
        = (s.entryFor (s.door d).desc.neighbour).map NbEntry.intrusion := by
      rcases h with h | h
      · have hr := congrArg (Option.map Prod.snd) (EgressResult.entryFor_replaced claimReading Prod.fst (fun _ => rfl) hk ht
          (by simp [claimReading, hst, h]) (s.door d).desc.neighbour)
        simpa only [Option.map_map, Function.comp_def, claimReading] using hr
      · have hne : (s.door d).desc.neighbour ≠ new.station := fun hn => h ⟨hi, hn⟩
        have hr := congrArg (Option.map Prod.snd) (EgressResult.entryFor_replaced (claimApart new.station) Prod.fst (fun _ => rfl)
          hk ht (by simp [claimApart, hst]) (s.door d).desc.neighbour)
        have hapart : ∀ t : State, ((t.entryFor (s.door d).desc.neighbour).map (claimApart new.station)).map Prod.snd
            = (t.entryFor (s.door d).desc.neighbour).map NbEntry.intrusion := by
          intro t
          cases hf : t.entryFor (s.door d).desc.neighbour with
          | none => rfl
          | some e =>
            have he : e.station = (s.door d).desc.neighbour := by simpa using List.find?_some hf
            simp [claimApart, he, hne]
        rwa [hapart, hapart] at hr
    rw [heq]
  · simp only [beq_eq_false_iff_ne.2 hi, Bool.false_and]

/-- A door that the change of an entry does not reach keeps to what is resolved. -/
theorem entryReplaced_meets {s : State} {k : Fin 4} {old new : NbEntry} (hk : s.table.entries[k] = some old)
    (hst : new.station = old.station) (d : Fin 4)
    (h : old.intrusion = new.intrusion ∨ ¬((s.door d).desc.kind = .interior ∧ (s.door d).desc.neighbour = new.station))
    (hm : Meets b s d) : Meets b (entryReplaced s k old new) d := by
  refine hm.congr_of_stands (entryReplaced_rules s k old new) (fun slot => ?_) (.of_eq (entryReplaced_doors s k old new d))
  cases slot with
  | lockdown => simp only [State.slotStands, neighbourIntrusion_replaced hk hst d h, entryReplaced_keeps]
  | fire | passage | schedule => simp [State.slotStands]

/-- R63, R113: a change of a neighbour's intrusion flag resolves the doors toward it. -/
theorem changeEntry_sound {s : State} {k : Fin 4} {old new : NbEntry} (hk : s.table.entries[k] = some old)
    (hst : new.station = old.station) (h : Sound b s) : Sound b (s.changeEntry k old new) := by
  have hhalf : Half (entryReplaced s k old new) :=
    h.toHalf.congr (entryReplaced_rules s k old new) fun d => .of_eq (entryReplaced_doors s k old new d)
  have hkeep : ∀ {P : State → Prop}, FlagKept P → ∀ f ∈ [corroborateBy old new, resolveBy old new,
      recomputeIf (s.egressInputChanged old new)], ∀ t, P t → P (f t) := by
    intro P F
    simp only [List.mem_cons, List.not_mem_nil, or_false]
    rintro f (rfl | rfl | rfl) t ht
    · exact F.corroborateBy old new t ht
    · exact F.resolveBy old new t ht
    · exact F.recomputeIf _ t ht
  rw [changeEntry_eq]
  refine ⟨flagKept_half.deliver _ (hkeep flagKept_half) _ hhalf, fun d => ?_⟩
  have F := flagKept_halfMeets b d
  by_cases hreach : old.intrusion ≠ new.intrusion ∧ (s.door d).desc.isOwned = true
      ∧ (s.door d).desc.kind = .interior ∧ (s.door d).desc.neighbour = new.station
  · obtain ⟨hne, ho, hint, hn⟩ := hreach
    refine (deliver_establishes (Q := fun t => Half t ∧ (t.door d).desc = (s.door d).desc) (R := HalfMeets b d) _ (resolveBy old new)
      (by simp) (fun t n ht => ⟨flagKept_half.same' ht.1 (afterDraw_claims t n) rfl, ht.2⟩)
      (fun t n ht => F.same' ht (afterDraw_claims t n) rfl) ?_ (hkeep F) ?_ _
      ⟨hhalf, by rw [entryReplaced_doors]⟩).meets
    · intro f hf t ht
      refine ⟨hkeep flagKept_half f hf t ht.1, ?_⟩
      simp only [List.mem_cons, List.not_mem_nil, or_false] at hf
      rcases hf with rfl | rfl | rfl
      · rw [(corroborateBy_site old new t d).1]; exact ht.2
      · rw [(resolveBy_site old new t d).1]; exact ht.2
      · rw [recomputeIf_door]; exact ht.2
    · rintro t ⟨ht, hdesc⟩
      have hr : resolveBy old new t = t.resolveToward new.station := by simp [resolveBy, hne]
      rw [hr]
      refine ⟨resolves_half _ t ht, resolves_meets b ?_ (ht.waits d)⟩
      exact List.mem_filter.2 ⟨List.mem_filter.2 ⟨List.mem_finRange d, by rw [hdesc]; exact ho⟩, by rw [hdesc]; simp [hint, hn]⟩
  · refine (F.deliver _ (hkeep F) _ ⟨hhalf, ?_⟩).meets
    by_cases ho : (s.door d).desc.isOwned = true
    · refine entryReplaced_meets hk hst d ?_ (h.meets d)
      by_cases hne : old.intrusion = new.intrusion
      · exact .inl hne
      · exact .inr fun hc => hreach ⟨hne, ho, hc⟩
    · exact .of_unowned (hhalf.fit d) (by rw [entryReplaced_doors]; simpa using ho)

theorem entryTakes_sound (s : State) (f : StatusFrame) (k : Fin 4) (h : Sound b s) : Sound b (s.entryTakes f k) := by
  unfold State.entryTakes
  split
  · exact h
  next old hk =>
    split
    next hst =>
      exact changeEntry_sound (s := s.startSilence k) (by simpa using hk) hst.symm
        (same h ⟨⟨by simp, by simp, by simp, by simp⟩, by simp, by simp, by simp⟩ (by simp))
    next => exact h

theorem fallMute_sound (s : State) (k : Fin 4) (h : Sound b s) : Sound b (s.fallMute k) := by
  unfold State.fallMute
  split
  · exact h
  next old hk =>
    split
    · exact h
    · exact changeEntry_sound hk rfl h

end

end Sys2Proof.Proofs.DoorDrive
end

section
/-! The doors through their own events and through the starts (R69 to R73, R80 to R84). -/

namespace Sys2Proof.Proofs.DoorDrive

open Sys2Proof Sys2Proof.Machine Sys2Proof.Proofs.PartFrames Sys2Proof.Proofs.Steps Sys2Proof.Proofs.Claims

section
variable {b : Bool}

/-! ### A door's own events -/

/-- One door driven, the others keeping to what is resolved. -/
theorem driven_sound {t : State} {d : Fin 4} (h : Half t) (hm : ∀ e, d ≠ e → Meets b t e) :
    Sound b ((t.driveLock d).driveHold d) := by
  have hc := driven_claims t d
  refine ⟨⟨⟨hc.levels h.levels, fun e => ?_⟩, by rw [hc.evac, hc.freeze]; exact h.calm⟩, fun e => ?_⟩
  · by_cases hde : d = e
    · subst hde; exact driven_fit (h.fit d)
    · rw [driven_other t hde]; exact h.fit e
  · by_cases hde : d = e
    · subst hde; exact driven_meets b h.levels (h.fit d) (h.waits d).free
    · exact (hm e hde).congr hc (.of_eq (driven_other t hde))

/-- One door written, the claims and the other doors as they stand. -/
theorem written_half {s t : State} (h : Half s) (hc : SameClaims s t) {d : Fin 4} (hd : Fit (t.door d))
    (he : ∀ e, d ≠ e → t.door e = s.door e) : Half t := by
  refine ⟨⟨hc.levels h.levels, fun e => ?_⟩, by rw [hc.evac, hc.freeze]; exact h.calm⟩
  by_cases hde : d = e
  · subst hde; exact hd
  · rw [he e hde]; exact h.fit e

theorem doorShut_claims (s : State) (d : Fin 4) : SameClaims s (doorShut s d) :=
  ⟨⟨by simp, by simp, by simp, by simp⟩, by simp, by simp, by simp⟩

theorem doorAway_claims (s : State) (d : Fin 4) : SameClaims s (doorAway s d) :=
  ⟨⟨by simp, by simp, by simp, by simp⟩, by simp, by simp, by simp⟩

theorem doorUnsensed_claims (s : State) (d : Fin 4) : SameClaims s (doorUnsensed s d) :=
  ⟨⟨by simp, by simp, by simp, by simp⟩, by simp, by simp, by simp⟩

theorem doorRead_claims (s : State) (d : Fin 4) (p : Position) : SameClaims s (doorRead s d p) :=
  ⟨⟨by simp, by simp, by simp, by simp⟩, by simp, by simp, by simp⟩

theorem doorStuck_claims (s : State) (d : Fin 4) : SameClaims s (doorStuck s d) :=
  ⟨⟨by simp, by simp, by simp, by simp⟩, by simp, by simp, by simp⟩

theorem doorCloses_sound (s : State) (d : Fin 4) (ho : (s.door d).desc.isOwned = true) (h : Sound b s) : Sound b (s.doorCloses d) := by
  have hother : ∀ e, d ≠ e → (doorShut s d).door e = s.door e := fun e hde => by rw [doorShut_door, if_neg hde]
  have hfit : Fit ((doorShut s d).door d) := by
    rw [doorShut_door, if_pos rfl]
    exact ⟨rfl, fun _ => .inl (by simp), (h.fit d).magnet, fun hun => by simp [ho] at hun, fun hun => by simp [ho] at hun⟩
  rw [doorCloses_eq]
  exact driven_sound (written_half h.toHalf (doorShut_claims s d) hfit hother) fun e hde =>
    (h.meets e).congr (doorShut_claims s d) (.of_eq (hother e hde))

theorem doorLost_sound (s : State) (d : Fin 4) (ho : (s.door d).desc.isOwned = true) (h : Sound b s) : Sound b (s.doorLost d) := by
  have hother : ∀ e, d ≠ e → (doorUnsensed s d).door e = s.door e := fun e hde => by rw [doorUnsensed_door, if_neg hde]
  have hfit : Fit ((doorUnsensed s d).door d) := by
    rw [doorUnsensed_door, if_pos rfl]
    exact ⟨rfl, fun _ => .inl (by simp), (h.fit d).magnet, fun hun => by simp [ho] at hun, fun hun => by simp [ho] at hun⟩
  rw [doorLost_eq]
  exact driven_sound (written_half h.toHalf (doorUnsensed_claims s d) hfit hother) fun e hde =>
    (h.meets e).congr (doorUnsensed_claims s d) (.of_eq (hother e hde))

/-- R80: a door is FREE and DROPPED before its first reading, so every phase of a reading fits. -/
theorem firstReading_sound (s : State) (d : Fin 4) (p : Position) (ho : (s.door d).desc.isOwned = true)
    (hnone : (s.door d).position = none) (h : Sound b s) : Sound b (s.firstReading d p) := by
  have hother : ∀ e, d ≠ e → (doorRead s d p).door e = s.door e := fun e hde => by rw [doorRead_door, if_neg hde]
  obtain ⟨hlock, hhold⟩ := (h.fit d).unread (.inr hnone)
  have hfit : Fit ((doorRead s d p).door d) := by
    rw [doorRead_door, if_pos rfl]
    refine ⟨by cases p <;> rfl, ?_, ?_, fun hun => by simp [ho] at hun, fun hun => by simp [ho] at hun⟩
    · simp [hlock]
    · simp [hhold]
  have hh := written_half h.toHalf (doorRead_claims s d p) hfit hother
  rw [firstReading_eq]
  refine ⟨flagKept_half.resolve _ d hh, fun e => ?_⟩
  by_cases hde : d = e
  · subst hde; exact resolve_meets b hh.toLoose (hh.waits d).free
  · exact ((h.meets e).congr (doorRead_claims s d p) (.of_eq (hother e hde))).congr (resolve_claims _ d)
      (.of_eq (State.resolve_other _ _ _ hde))

/-- R73: a door stuck in its travel is open, and was FREE where it is not FORCED. -/
theorem travelLapse_sound (s : State) (d : Fin 4) (h : Sound b s) : Sound b (s.travelLapse d) := by
  by_cases hp : (s.door d).phase = some .closing
  · have hc := doorStuck_claims s d
    have hd : (doorStuck s d).door d = { s.door d with phase := some .blocked } := by rw [doorStuck_door, if_pos rfl]
    have hother : ∀ e, d ≠ e → (doorStuck s d).door e = s.door e := fun e hde => by rw [doorStuck_door, if_neg hde]
    have hopen : (s.door d).position = some .opened := by
      have hfits := (h.fit d).phase
      rw [hp] at hfits
      revert hfits
      cases (s.door d).position with
      | none => intro hf; cases hf
      | some q => cases q <;> simp [phaseFits]
    have hfit : Fit ((doorStuck s d).door d) := by
      rw [hd]
      refine ⟨by rw [hopen]; rfl, fun hl => ?_, (h.fit d).magnet, (h.fit d).unread, (h.fit d).unowned⟩
      exact .inl (((h.fit d).locked hl).resolve_right (by simp [hp]))
    have hh := written_half h.toHalf hc hfit hother
    have hlock : LockMeets b (doorStuck s d) d :=
      (h.meets d).lock.congr hc.toSameRules (hc.stands (by rw [hd])) (by rw [hd]) (by rw [hd]) (by rw [hd]) (by rw [hd])
    have hcd := driveHold_claims (doorStuck s d) d
    obtain ⟨hdesc, hpos, -, hkeep, hl⟩ := driveHold_site (doorStuck s d) d d
    have hun : (doorStuck s d).sensed d = false → ((doorStuck s d).door d).hold = .dropped := by
      intro hs
      rw [← Bool.not_eq_true, sensed_iff, not_and_or, not_not, Bool.not_eq_true] at hs
      exact (hfit.unread hs).2
    have hdriven : Sound b ((doorStuck s d).driveHold d) := by
      refine ⟨⟨⟨hcd.levels hh.levels, fun e => ?_⟩, by rw [hcd.evac, hcd.freeze]; exact hh.calm⟩, fun e => ?_⟩
      · by_cases hde : d = e
        · subst hde; exact driveHold_fit hfit
        · rw [State.driveHold_other _ _ _ hde]; exact hh.fit e
      · by_cases hde : d = e
        · subst hde
          exact ⟨hlock.congr hcd.toSameRules (hcd.stands hdesc) hdesc hpos hkeep hl, driveHold_meets b hh.levels hun⟩
        · exact ((h.meets e).congr hc (.of_eq (hother e hde))).congr hcd (.of_eq (State.driveHold_other _ _ _ hde))
    rw [travelLapse_closing hp]
    exact hdriven.congr (ajarUpdate_claims _ d) (ajarUpdate_sameDoor _ d)
  · rwa [travelLapse_same hp]

/-- R70: an opened door's phase as its outputs make it. -/
theorem phaseByOutputs_fits (r : DoorRec) : phaseFits (some .opened) (some (phaseByOutputs r)) = true := by
  unfold phaseByOutputs; split <;> rfl

theorem phaseByOutputs_moves (r : DoorRec) : some (phaseByOutputs r) ≠ some .closing ∧ some (phaseByOutputs r) ≠ some .blocked := by
  unfold phaseByOutputs; split <;> simp

theorem phaseByOutputs_locked {r : DoorRec} (h : r.lock = .locked) : phaseByOutputs r = .forced := by
  simp [phaseByOutputs, h]

/-- R70: an opened door whose outputs have been driven, before its phase is taken from them. -/
structure Opened (b : Bool) (s : State) (d : Fin 4) (u : State) : Prop where
  claims : SameClaims s u
  other : ∀ e, d ≠ e → u.door e = s.door e
  desc : (u.door d).desc = (s.door d).desc
  position : (u.door d).position = some .opened
  lock : LockMeets b u d
  mode : (u.door d).hold = .holding → u.frozen d = true ∨ (u.modes.mode = .pub ∧ u.fire.evac = false)
  magnet : (u.door d).hold = .holding → (u.door d).desc.magnet = true
  resolved : ∀ phase : Option DoorPhase, phase ≠ some .closing ∧ phase ≠ some .blocked → b = true → u.drivable d = true →
    (u.door d).hold = (holdFor (u.resolvedHold d) (u.door d).desc.magnet (u.door d).deferred phase).1

/-- R67: the hold of a door driven in a position that has been read. -/
theorem driveHold_opened {s t : State} {d : Fin 4} (h : Sound b s) (ho : (s.door d).desc.isOwned = true) (hc : SameClaims s t)
    (hother : ∀ e, d ≠ e → t.door e = s.door e) (hdesc : (t.door d).desc = (s.door d).desc)
    (hopen : (t.door d).position = some .opened) (hhold : (t.door d).hold = (s.door d).hold) (hlock : LockMeets b t d) :
    Opened b s d (t.driveHold d) := by
  have hch := driveHold_claims t d
  obtain ⟨hdh, hph, -, hkh, hlh⟩ := driveHold_site t d d
  have hs : t.sensed d = true := by rw [sensed_iff, hdesc, hopen]; exact ⟨ho, by simp⟩
  have hm : HoldMeets b (t.driveHold d) d := driveHold_meets b (hc.levels h.levels) fun hn => by simp [hs] at hn
  refine ⟨hc.trans hch, fun e hde => by rw [State.driveHold_other _ _ _ hde, hother e hde], hdh.trans hdesc, hph.trans hopen,
    hlock.congr hch.toSameRules (hch.stands hdh) hdh hph hkh hlh, hm.mode, fun hy => ?_, fun phase hmoves _ hdr => ?_⟩
  · rw [hdh]
    rcases driveHold_door t d with ⟨hn, -⟩ | ⟨-, -, hh, -⟩ | ⟨-, -, hh, -⟩
    · cases hs.symm.trans hn
    · rw [hh, hhold] at hy
      rw [hdesc]
      exact (h.fit d).magnet hy
    · rw [hh] at hy
      exact (holdFor_holding hy).2.1
  · rcases driveHold_door t d with ⟨hn, -⟩ | ⟨-, hz, -, -⟩ | ⟨-, -, hh, hdef, -⟩
    · cases hs.symm.trans hn
    · rw [State.drivable, hch.frozen hkh, hz] at hdr
      simp at hdr
    · rw [hch.resolvedHold (hch.stands hdh) hdh, hdh, hdef, holdFor_again _ _ _ _ _ fun _ => hmoves, hh]

/-- R70: the outputs are driven before the phase is taken from them. -/
theorem doorDriven_opened (s : State) (d : Fin 4) (ho : (s.door d).desc.isOwned = true) (h : Sound b s) :
    Opened b s d (doorDriven s d) := by
  have hd : (doorAway s d).door d = { s.door d with position := some .opened, filter := Filter.clear } := by
    rw [doorAway_door, if_pos rfl]
  have hca := doorAway_claims s d
  have hsensed : (doorAway s d).sensed d = true := by rw [sensed_iff, hd]; exact ⟨ho, by simp⟩
  have hlock : LockMeets b ((doorAway s d).driveLock d) d := by
    refine driveLock_meets b (hca.levels h.levels) fun hn he => ?_
    have hz : (doorAway s d).frozen d = true := by simpa [State.drivable, hsensed] using hn
    rw [hca.frozen (by rw [hd])] at hz
    rw [hca.evac] at he
    cases (h.unfrozen he d).symm.trans hz
  obtain ⟨hdl, hpl, -, -, -, hhl, -⟩ := driveLock_site (doorAway s d) d d
  unfold doorDriven
  refine driveHold_opened h ho (hca.trans (driveLock_claims _ d)) (fun e hde => ?_) ?_ ?_ ?_ hlock
  · rw [driveLock_other _ _ _ hde, doorAway_door, if_neg hde]
  · rw [hdl, hd]
  · rw [hpl, hd]
  · rw [hhl, hd]

/-- R70: the phase taken from the outputs fits them. -/
theorem Opened.phased {s u v : State} {d : Fin 4} (h : Sound b s) (ho : (s.door d).desc.isOwned = true) (k : Opened b s d u)
    (hc : SameClaims u v) (hd : v.door d = { u.door d with phase := some (phaseByOutputs (u.door d)) })
    (he : ∀ e, d ≠ e → v.door e = u.door e) : Sound b v := by
  have hcs := k.claims.trans hc
  have hother : ∀ e, d ≠ e → v.door e = s.door e := fun e hde => (he e hde).trans (k.other e hde)
  have hfit : Fit (v.door d) := by
    rw [hd]
    refine ⟨?_, fun hl => .inr (congrArg some (phaseByOutputs_locked (r := u.door d) hl)), k.magnet, ?_, ?_⟩
    · rw [k.position]; exact phaseByOutputs_fits _
    · rw [k.position, k.desc, ho]; simp
    · rw [k.desc, ho]; simp
  refine ⟨written_half h.toHalf hcs hfit hother, fun e => ?_⟩
  by_cases hde : d = e
  · subst hde
    refine ⟨k.lock.congr hc.toSameRules (hc.stands (by rw [hd])) (by rw [hd]) (by rw [hd]) (by rw [hd]) (by rw [hd]), ?_, fun hb hdr => ?_⟩
    · rw [hc.frozen (by rw [hd]), hc.mode, hc.evac, hd]; exact k.mode
    · rw [hc.drivable (by rw [hd]) (by rw [hd]) (by rw [hd])] at hdr
      rw [hc.resolvedHold (hc.stands (by rw [hd])) (by rw [hd]), hd]
      exact k.resolved _ (phaseByOutputs_moves _) hb hdr
  · exact (h.meets e).congr hcs (.of_eq (hother e hde))

theorem doorOpens_sound (s : State) (d : Fin 4) (ho : (s.door d).desc.isOwned = true) (h : Sound b s) : Sound b (s.doorOpens d) := by
  have hk := doorDriven_opened s d ho h
  rw [doorOpens_eq]
  generalize doorDriven s d = u at hk ⊢
  have hset : Sound b (u.setDoor d { u.door d with phase := some (phaseByOutputs (u.door d)) }) := by
    refine hk.phased h ho ⟨⟨rfl, rfl, rfl, rfl⟩, rfl, rfl, rfl⟩ ?_ fun e hde => ?_
    · rw [State.setDoor_door, if_pos rfl]
    · rw [State.setDoor_door, if_neg hde]
  exact hset.congr (ajarUpdate_claims _ d) (ajarUpdate_sameDoor _ d)

end

end Sys2Proof.Proofs.DoorDrive
end

section
/-! The doors at the starts (R81 to R84, R182), and what every step keeps of them. -/

namespace Sys2Proof.Proofs.DoorDrive

open Sys2Proof Sys2Proof.Machine Sys2Proof.Proofs.PartFrames Sys2Proof.Proofs.Steps Sys2Proof.Proofs.Claims

/-! ### The CONFIG-READ -/

/-- R81, R182: in the CONFIG-READ of a warm restart every door is held over, frozen but for an evacuation; after a cold start none has
been read there. -/
structure Starts (s : State) : Prop where
  unread : s.start.phase = .configRead → s.start.kind = .cold → ∀ d : Fin 4, (s.door d).position = none
  frozen : s.start.phase = .configRead → s.start.kind = .warm → s.start.freeze = true ∨ s.fire.evac = true
  keep : s.start.phase = .configRead → s.start.kind = .warm → ∀ d : Fin 4, (s.door d).keep = true

section
variable {s t : State}

theorem Starts.of_phase (h : s.start.phase ≠ .configRead) : Starts s :=
  ⟨fun hp => absurd hp h, fun hp => absurd hp h, fun hp => absurd hp h⟩

theorem Starts.congr (h : Starts s) (hp : t.start.phase = s.start.phase) (hk : t.start.kind = s.start.kind)
    (hf : t.start.freeze = s.start.freeze ∨ t.fire.evac = true) (he : s.fire.evac = true → t.fire.evac = true)
    (hpos : ∀ d, (t.door d).position = (s.door d).position) (hkeep : ∀ d, (t.door d).keep = (s.door d).keep) : Starts t := by
  refine ⟨?_, fun h1 h2 => ?_, ?_⟩
  · simpa only [hp, hk, hpos] using h.unread
  · rcases hf with hf | hf
    · rw [hf]
      exact (h.frozen (hp ▸ h1) (hk ▸ h2)).imp id he
    · exact .inr hf
  · simpa only [hp, hk, hkeep] using h.keep

/-- Neither the start unit, nor the flag, nor a door is written. -/
theorem Starts.same (h : Starts s) (hs : t.start = s.start) (he : t.fire.evac = s.fire.evac) (hd : t.doors = s.doors) : Starts t :=
  h.congr (by rw [hs]) (by rw [hs]) (.inl (by rw [hs])) (fun hy => he.trans hy) (fun d => by rw [door_congr hd])
    (fun d => by rw [door_congr hd])

/-- Outside CONFIG-READ nothing is asked. -/
theorem Starts.of_not_configRead (h : s.start.phase ≠ .configRead) (hp : t.start.phase = s.start.phase) : Starts t :=
  .of_phase (by rwa [hp])

/-- R33, R34: the flag recomputed; in CONFIG-READ it does not fall. -/
theorem recomputeEvac_starts (s : State) (h : Starts s) (hc : s.start.phase = .configRead → s.evacDue = true ∨ s.evacDue = s.fire.evac) :
    Starts s.recomputeEvac := by
  by_cases hd : s.evacDue = s.fire.evac
  · rwa [recomputeEvac_same hd]
  · by_cases hp : s.start.phase = .configRead
    · have hdue := (hc hp).resolve_right hd
      exact h.congr (by simp) (by simp) (.inr (by simp [hdue])) (fun _ => by simp [hdue]) (by simp) (by simp)
    · exact .of_not_configRead hp (by simp)

theorem enterFire_starts (s : State) (h : Starts s) : Starts s.enterFire := by
  unfold State.enterFire
  split
  · exact h
  next hne =>
    have h1 : Starts (s.endVerification.setSounderSilenced false) := h.same (by simp) (by simp) (by simp)
    rcases setFireState_cases (s.endVerification.setSounderSilenced false) .fire with ⟨-, he⟩ | ⟨-, -, -, he⟩ | ⟨-, -, he⟩ <;> rw [he]
    · exact h1
    · exact h1.same rfl rfl rfl
    · exact recomputeEvac_starts _ (h1.same rfl rfl rfl) fun _ => .inl (by simp [State.evacDue])

/-- R20: a change that does not leave FIRE does not reach the evacuation flag. -/
theorem setFireState_starts (s : State) (f : FireState) (hf : f ≠ .fire) (hs : s.fire.state ≠ .fire) (h : Starts s) :
    Starts (s.setFireState f) := by
  rcases setFireState_cases s f with ⟨-, he⟩ | ⟨-, -, -, he⟩ | ⟨-, hor, -⟩
  · rwa [he]
  · rw [he]; exact h.same rfl rfl rfl
  · exact absurd hor (by simp [hf, hs])

theorem deliver_starts (fs : List (State → State)) (hf : ∀ f ∈ fs, ∀ s, Starts s → Starts (f s)) (s : State) (h : Starts s) :
    Starts (deliver fs s) := deliver_induct Starts (fun _ _ h => h.same rfl rfl rfl) fs hf s h

theorem resolveAll_starts (s : State) (h : Starts s) : Starts s.resolveAll :=
  h.congr (by simp) (by simp) (.inl (by simp)) (fun hy => by simpa using hy) (by simp) (by simp)

theorem unlatched_ne_fire (s : State) : s.unlatchedFire ≠ .fire := by
  unfold State.unlatchedFire; split <;> simp

theorem loopAlarm_starts (s : State) (l : Fin 6) (h : Starts s) : Starts (s.loopAlarm l) := by
  have halarm : s.fire.state ≠ .fire → Starts (if s.fire.loops[l].kind = .smoke ∧ s.smokeTrusted l = false then s.enterVerify l
      else s.enterFire) := by
    intro hne
    split
    · exact setFireState_starts _ _ (by simp) (by simpa using hne) (h.same (by simp) (by simp) (by simp))
    · exact enterFire_starts s h
  unfold State.loopAlarm
  split
  next hc => exact halarm (by simp [hc])
  next hc => exact halarm (by simp [hc])
  · split
    · exact h
    · exact enterFire_starts s h
  · exact h

theorem changeMode_starts (s : State) (m : Mode) (h : Starts s) : Starts (s.changeMode m) := by
  by_cases hm : s.modes.mode = m
  · subst hm; rwa [changeMode_same]
  · have hd : Starts (modeDelivered s m) := by
      refine deliver_starts _ ?_ _ (h.same rfl rfl rfl)
      simp only [List.mem_cons, List.not_mem_nil, or_false]
      rintro f (rfl | rfl) t ht
      · exact resolveAll_starts t ht
      · unfold State.fireModeChange
        split
        · exact enterFire_starts t ht
        · exact ht
    rw [changeMode_changed hm]
    exact hd.same (by simp) (by simp) (by simp)

theorem changeEntry_starts (s : State) (k : Fin 4) (old new : NbEntry) (h : Starts s) : Starts (s.changeEntry k old new) := by
  rw [changeEntry_eq]
  refine deliver_starts _ ?_ _ (h.same (by simp) (by simp) (by simp))
  simp only [List.mem_cons, List.not_mem_nil, or_false]
  rintro f (rfl | rfl | rfl) t ht
  · unfold corroborateBy State.corroborate
    (repeat' split)
    · exact enterFire_starts t ht
    · exact ht
    · exact ht
  · exact ht.congr (by simp) (by simp) (.inl (by simp)) (fun hy => by simpa using hy) (by simp) (by simp)
  · exact ht.same (by simp) (by simp) (by simp)

theorem entryTakes_starts (s : State) (f : StatusFrame) (k : Fin 4) (h : Starts s) : Starts (s.entryTakes f k) := by
  unfold State.entryTakes
  (repeat' split)
  · exact h
  · exact changeEntry_starts _ _ _ _ (h.same (by simp) (by simp) (by simp))
  · exact h

theorem fallMute_starts (s : State) (k : Fin 4) (h : Starts s) : Starts (s.fallMute k) := by
  unfold State.fallMute
  (repeat' split)
  · exact h
  · exact h
  · exact changeEntry_starts s _ _ _ h

/-- R119: in CONFIG-READ the roster is empty, and its sweep changes nothing. -/
theorem sweepRoster_starts (s : State) (hr : s.RosterSound) (h : Starts s) : Starts s.sweepRoster := by
  by_cases hp : s.start.phase = .configRead
  · obtain ⟨-, -, hempty⟩ := hr
    have hnil := hempty (.inl hp)
    have hs : s.sweepRoster = s.setRoster [] := by simp [State.sweepRoster, hnil]
    rw [hs]
    exact h.same rfl rfl rfl
  · exact .of_not_configRead hp (by simp)

theorem hearing_not_configRead (h : s.hearing = true) : s.start.phase ≠ .configRead := by
  intro hp
  simp [State.hearing, hp] at h

end

/-! ### A cold start, and a station without a configuration -/

section
variable {b : Bool} {s t : State}

/-- Doors that start afresh without a descriptor are neither owned nor read. -/
theorem Sound.of_afresh (hd : s.doors.records = Vector.replicate 4 (DoorRec.afresh .none)) (hi : s.start.image = none)
    (hz : s.start.freeze = false) : Sound b s := by
  have hdoor : ∀ d, s.door d = DoorRec.afresh .none := fun d => by simp [State.door, hd]
  have hfit : ∀ d, Fit (s.door d) := fun d => by
    rw [hdoor]
    exact ⟨rfl, fun h => (by cases h), fun h => (by cases h), fun _ => ⟨rfl, rfl⟩, fun _ => rfl⟩
  refine ⟨⟨⟨?_, hfit⟩, fun _ => hz⟩, fun d => .of_unowned (hfit d) (by rw [hdoor]; rfl)⟩
  have hc : s.cfg = Image.unconfigured := by simp [State.cfg, hi]
  rw [show LevelsFit s ↔ _ from ⟨fun h => And.intro h.1 h.2, fun h => ⟨h.1, h.2⟩⟩, hc]
  decide

theorem unconfiguredGuard_intrusion (s : State) : s.unconfiguredGuard.watch.intrusion = s.watch.intrusion := by
  unfold State.unconfiguredGuard; (repeat' split) <;> simp

theorem enterUnconfigured_sound (s : State) : Sound b s.enterUnconfigured := by
  have h1 : Sound b (s.stripped.enterTrouble .config) :=
    same (.of_afresh (s := s.stripped) rfl rfl rfl) ⟨⟨by simp, by simp, by simp, by simp⟩, by simp, by simp, by simp⟩ (by simp)
  have h2 : Sound b (s.stripped.enterTrouble .config).unconfiguredFire := by
    unfold State.unconfiguredFire
    split
    · exact (flagKept_sound b).enterFire _ h1
    · exact (flagKept_sound b).setFireState _ _ h1
    · exact h1
    · exact h1
  unfold State.enterUnconfigured
  have h3 := recomputeEvac_sound _ h2
  generalize ((s.stripped.enterTrouble .config).unconfiguredFire).recomputeEvac = u at h3 ⊢
  exact same h3 ⟨⟨by simp, by simp, by simp, by simp⟩, by simp [unconfiguredGuard_intrusion], by simp, by simp⟩ (by simp)

/-! ### A warm restart -/

/-- R81: a door held over is frozen, or FREE and DROPPED in the evacuation that goes on. -/
theorem releaseWarm_sound (s : State) (he : s.EvacuationSound) (h : Sound b s) : Sound b s.releaseWarm := by
  have hdoor : ∀ d, (heldOver s).door d = (s.door d).held := heldOver_door s
  have hloose : Loose (heldOver s) := by
    refine ⟨?_, fun d => ?_⟩
    · obtain ⟨h1, h2⟩ := h.levels
      exact ⟨h1, h2⟩
    · rw [hdoor]
      obtain ⟨hp, hl, hm, hu, ho⟩ := h.fit d
      exact ⟨hp, hl, hm, hu, ho⟩
  have hsound : Sound b (heldOver s) := by
    cases hf : (s.fire.state == .fire) with
    | true =>
      have hev : s.fire.evac = true := by rw [he, State.evacDue, hf]; rfl
      have hev' : (heldOver s).fire.evac = true := hf
      refine ⟨⟨hloose, fun _ => by simp [heldOver, hf]⟩, fun d => ?_⟩
      obtain ⟨hl, hh⟩ := h.outputs_of_evac hev d
      exact .of_evac hloose.levels hev' (by rw [hdoor]; exact hl) (by rw [hdoor]; exact hh)
    | false =>
      have hev' : (heldOver s).fire.evac = false := hf
      have hz : ∀ d, (heldOver s).frozen d = true := fun d => by simp [State.frozen, heldOver, hf, State.door, DoorRec.held]
      refine ⟨⟨hloose, fun hy => by cases hev'.symm.trans hy⟩, fun d => .of_undriven (by simp [State.drivable, hz]) ?_⟩
      exact ⟨⟨fun hy => (by cases hev'.symm.trans hy), fun hy => by cases hy⟩, ⟨fun _ => .inl (hz d), fun hy => by cases hy⟩⟩
  rw [releaseWarm_eq]
  exact same hsound ⟨⟨by simp, by simp, by simp, by simp⟩, by simp, by simp, by simp⟩ (by simp)

theorem releaseWarm_starts (s : State) : Starts s.releaseWarm := by
  have hdoor : ∀ d, s.releaseWarm.door d = (s.door d).held := fun d => by
    rw [releaseWarm_eq, door_congr (s := heldOver s) (by simp), heldOver_door]
  have hk : s.releaseWarm.start.kind = .warm := by simp [releaseWarm_eq, heldOver]
  refine ⟨fun _ hc => (by cases hk.symm.trans hc), fun _ _ => ?_, fun _ _ d => by rw [hdoor]; rfl⟩
  cases hf : (s.fire.state == .fire) <;> simp [releaseWarm_eq, heldOver, hf]

/-! ### A good read -/

theorem takeDesc_cases (r : DoorRec) (desc : DoorDesc) :
    (sameFitting r.desc desc = true ∧ r.takeDesc desc = { r with desc := desc }) ∨ r.takeDesc desc = DoorRec.afresh desc := by
  unfold DoorRec.takeDesc
  split
  next h => exact .inl ⟨h, rfl⟩
  next => exact .inr rfl

theorem sameFitting_iff (a b : DoorDesc) :
    sameFitting a b = true ↔ a.kind = b.kind ∧ a.owned = b.owned ∧ a.magnet = b.magnet := by
  simp [sameFitting, and_assoc]

theorem takeDesc_fit {r : DoorRec} (desc : DoorDesc) (h : Fit r) : Fit (r.takeDesc desc) := by
  rcases takeDesc_cases r desc with ⟨hs, he⟩ | he <;> rw [he]
  · obtain ⟨hkind, hown, hmag⟩ := (sameFitting_iff _ _).1 hs
    have ho : desc.isOwned = r.desc.isOwned := by simp only [DoorDesc.isOwned, hkind, hown]
    refine ⟨h.phase, h.locked, ?_, ?_, ?_⟩
    · rw [← hmag]; exact h.magnet
    · rw [ho]; exact h.unread
    · rw [ho]; exact h.unowned
  · exact ⟨rfl, fun hy => (by cases hy), fun hy => (by cases hy), fun _ => ⟨rfl, rfl⟩, fun _ => rfl⟩

theorem clampNearer_range {lo hi : Nat} (h : lo ≤ hi) (v : Nat) : lo ≤ clampNearer lo hi v ∧ clampNearer lo hi v ≤ hi := by
  unfold clampNearer
  (repeat' split) <;> omega

theorem judged_levels {x : ConfigTransfer} {img : Image} (h : judgeRead x = .good img) :
    (3 ≤ img.lockdownLevel ∧ img.lockdownLevel ≤ 15) ∧ 3 ≤ img.passageLevel ∧ img.passageLevel ≤ 15 := by
  unfold judgeRead at h
  (repeat' split at h) <;> cases h
  exact ⟨clampNearer_range (by decide) _, clampNearer_range (by decide) _⟩

/-- R57, R81: each door as the image leaves it: read before only where its descriptor came back fitting. -/
theorem takeImage_sound (s : State) {x : ConfigTransfer} {img : Image} (hj : judgeRead x = .good img)
    (hp : s.start.phase = .configRead) (hst : b = true → Starts s) (h : Sound b s) : Sound b (s.takeImage img) := by
  have hlevels : LevelsFit (s.takeImage img) := by
    obtain ⟨h1, h2⟩ := judged_levels hj
    exact ⟨by simpa [State.cfg] using h1, by simpa [State.cfg] using h2⟩
  have hfit : ∀ d, Fit ((s.takeImage img).door d) := fun d => by
    rw [takeImage_door]; exact takeDesc_fit _ (h.fit d)
  refine ⟨⟨⟨hlevels, hfit⟩, by simpa using h.calm⟩, fun d => ?_⟩
  rcases takeDesc_cases (s.door d) img.doors[d] with ⟨-, he⟩ | he
  · rw [← takeImage_door] at he
    cases hev : s.fire.evac with
    | true =>
      obtain ⟨hl, hh⟩ := h.outputs_of_evac hev d
      exact .of_evac hlevels (by simpa using hev) (by rw [he]; exact hl) (by rw [he]; exact hh)
    | false =>
      have hz : (s.takeImage img).frozen d = s.frozen d := by simp [State.frozen, he]
      have hweak : Meets false (s.takeImage img) d := by
        refine ⟨⟨fun hy => by simp [hev] at hy, fun hy => by cases hy⟩, ⟨fun hy => ?_, fun hy => by cases hy⟩⟩
        rw [he] at hy
        rw [hz, (takeImage_keeps s img).2.2.2.1]
        exact ((h.meets d).hold.mode hy).imp id fun hm => ⟨hm.1, by simpa using hm.2⟩
      cases hb : b with
      | false => exact hweak
      | true =>
        refine .of_undriven ?_ hweak
        cases hk : s.start.kind with
        | cold => simp [State.drivable, State.sensed, he, (hst hb).unread hp hk d]
        | warm =>
          have hfr : s.start.freeze = true := ((hst hb).frozen hp hk).resolve_right (by simp [hev])
          have hfz : (s.takeImage img).frozen d = true := by rw [hz, State.frozen, hfr, (hst hb).keep hp hk d]; rfl
          simp [State.drivable, hfz]
  · rw [← takeImage_door] at he
    have hweak : Meets false (s.takeImage img) d := by
      refine ⟨⟨fun _ => by rw [he]; rfl, fun hy => by cases hy⟩, ⟨fun hy => ?_, fun hy => by cases hy⟩⟩
      rw [he] at hy
      cases hy
    exact .of_undriven (by simp [State.drivable, State.sensed, he, DoorRec.afresh]) hweak

theorem configGood_sound (s : State) {x : ConfigTransfer} {img : Image} (hj : judgeRead x = .good img)
    (hp : s.start.phase = .configRead) (hst : b = true → Starts s) (h : Sound b s) : Sound b (s.configGood img) := by
  have ht := takeImage_sound s hj hp hst h
  cases hk : s.start.kind with
  | cold =>
    rw [configGood_cold img hk]
    exact same ht ⟨⟨by simp, by simp, by simp, by simp⟩, by simp, by simp, by simp⟩ (by simp)
  | warm =>
    have hm : Sound b (troublesHeld (s.takeImage img)) :=
      same ht ⟨⟨by simp, by simp, by simp, by simp⟩, by simp, by simp, by simp⟩ (by simp)
    rw [configGood_warm img hk]
    generalize troublesHeld (s.takeImage img) = u at hm ⊢
    have hu : Sound b u.markAjar := hm.congr ⟨⟨rfl, rfl, rfl, rfl⟩, rfl, rfl, rfl⟩ fun d => by
      rw [markAjar_door]; exact ⟨rfl, rfl, rfl, rfl, rfl, rfl, rfl⟩
    generalize u.markAjar = v at hu ⊢
    exact same hu ⟨⟨by simp, by simp, by simp, by simp⟩, by simp, by simp, by simp⟩ (by simp)

theorem settle_sound (s : State) (h : Sound b s) : Sound b s.settle := by
  unfold State.settle
  split
  · exact h
  · exact changeMode_sound _ _ (same h ⟨⟨rfl, rfl, rfl, rfl⟩, rfl, rfl, rfl⟩ rfl)

theorem beginRun_sound (s : State) (h : Sound b s) : Sound b s.beginRun := by
  have hd : Sound b (deliver [State.settle, State.firstEgress, State.release] (s.setPhase .run)) := by
    refine (flagKept_sound b).deliver _ ?_ _ (same h ⟨⟨rfl, rfl, rfl, rfl⟩, rfl, rfl, rfl⟩ rfl)
    simp only [List.mem_cons, List.not_mem_nil, or_false]
    rintro f (rfl | rfl | rfl) t ht
    · exact settle_sound t ht
    · exact same ht ⟨⟨by simp, by simp, by simp, by simp⟩, by simp, by simp, by simp⟩ (by simp)
    · exact release_sound t ht
  unfold State.beginRun
  dsimp only
  generalize deliver [State.settle, State.firstEgress, State.release] (s.setPhase .run) = u at hd ⊢
  have hu : Sound b (u.markStatus.startRefresh.startUnheard) :=
    same hd ⟨⟨by simp, by simp, by simp, by simp⟩, by simp, by simp, by simp⟩ (by simp)
  split
  · exact same hu ⟨⟨by simp, by simp, by simp, by simp⟩, by simp, by simp, by simp⟩ (by simp)
  · exact hu

end

end Sys2Proof.Proofs.DoorDrive
end

section
/-! What every step keeps of the doors (O55, O57). -/

namespace Sys2Proof.Proofs.DoorDrive

open Sys2Proof Sys2Proof.Machine Sys2Proof.Proofs.PartFrames Sys2Proof.Proofs.Steps Sys2Proof.Proofs.Claims

/-- The doors between events, with what they rest on: the flag follows fire and roster; where `follow` says so, also the roster is
sound and CONFIG-READ finds the doors as its start leaves them. -/
structure Doors (follow : Bool) (s : State) : Prop where
  flag : s.EvacuationSound
  sound : Sound follow s
  roster : follow = true → s.RosterSound
  starts : follow = true → Starts s

theorem doorsSound_iff (s : State) : s.DoorsSound ↔ Doors false s := by
  constructor
  · rintro ⟨hflag, hcalm, ⟨hl, hl', hp, hp'⟩, hdoors⟩
    have hd := fun d => (doorSound_iff s d).1 (hdoors d)
    exact ⟨hflag, ⟨⟨⟨⟨⟨hl, hl'⟩, ⟨hp, hp'⟩⟩, fun d => (hd d).1⟩, hcalm⟩, fun d => (hd d).2⟩, fun h => (by cases h), fun h => by cases h⟩
  · rintro ⟨hflag, h, -, -⟩
    obtain ⟨hl, hp⟩ := h.levels
    exact ⟨hflag, h.calm, ⟨hl.1, hl.2, hp.1, hp.2⟩, fun d =>
      (doorSound_iff s d).2 ⟨h.fit d, ⟨(h.meets d).lock.evac, fun hy => (by cases hy)⟩, (h.meets d).hold.mode, fun hy => by cases hy⟩⟩

/-- A door meets what is resolved where it follows its resolution while it is driven. -/
theorem meets_of_follows {s : State} {d : Fin 4} (h : Meets false s d) (hf : s.drivable d = true → s.DoorFollows d) :
    Meets true s d :=
  ⟨⟨h.lock.evac, fun _ hd => (hf hd).1⟩, ⟨h.hold.mode, fun _ hd => (hf hd).2⟩⟩

theorem doorsFollow_iff {s : State} (hr : s.RosterSound) (hd : s.DoorsSound) : s.DoorsFollow ↔ Doors true s := by
  obtain ⟨hflag, hsound, -, -⟩ := (doorsSound_iff s).1 hd
  constructor
  · rintro ⟨hcold, hfreeze, hkeep, hfollow⟩
    exact ⟨hflag, ⟨hsound.toHalf, fun d => meets_of_follows (hsound.meets d) (hfollow d)⟩, fun _ => hr, fun _ => ⟨hcold, hfreeze, hkeep⟩⟩
  · rintro ⟨-, h, -, hstarts⟩
    obtain ⟨hcold, hfreeze, hkeep⟩ := hstarts rfl
    exact ⟨hcold, hfreeze, hkeep, fun d hdr => ⟨(h.meets d).lock.resolved rfl hdr, (h.meets d).hold.resolved rfl hdr⟩⟩

section
variable {b : Bool} {s t : State}

/-- A change of blocks that nothing of this depends on. -/
theorem Doors.same (h : Doors b s) (hflag : t.EvacuationSound) (hroster : b = true → t.RosterSound) (hc : SameClaims s t)
    (hs : b = true → t.start.phase = s.start.phase ∧ t.start.kind = s.start.kind)
    (k : ∀ d, SameDoor (s.door d) (t.door d)) : Doors b t :=
  ⟨hflag, h.sound.congr hc k, hroster, fun hb => (h.starts hb).congr (hs hb).1 (hs hb).2 (.inl hc.freeze) (fun hy => hc.evac.trans hy)
    (fun d => (k d).position) (fun d => (k d).keep)⟩

theorem Doors.unreached (h : Doors b s) (hf : t.fire.state = s.fire.state) (hr : t.table.roster = s.table.roster)
    (hc : SameClaims s t) (hs : t.start = s.start) (hd : t.doors = s.doors) : Doors b t :=
  h.same (Evacuation.same h.flag hf hc.evac hr) (fun hb => Roster.same (h.roster hb) hr hc.image (by rw [hs])) hc
    (fun _ => ⟨by rw [hs], by rw [hs]⟩) (sameDoors hd)

end

theorem enterUnconfigured_phase (s : State) : s.enterUnconfigured.start.phase = .unconfigured := by
  have h : ∀ t : State, t.unconfiguredFire.start.phase = t.start.phase := fun t => by
    unfold State.unconfiguredFire; split <;> simp
  simp [State.enterUnconfigured, h]
  rfl

/-- R60 to R84: every operation keeps the doors with what they rest on. -/
theorem kept (b : Bool) : KeptByAll (Doors b) := by
  have E := Evacuation.kept
  have R := Roster.kept
  constructor
  case toKept =>
    constructor
    case quiet =>
      intro s t q h
      exact h.same (E.quiet q h.flag) (fun hb => R.quiet q (h.roster hb))
        ⟨⟨q.mode, q.evac, q.image, q.freeze⟩, q.intrusion, q.passage, by rw [q.table]⟩ (fun _ => ⟨q.startPhase, q.kind⟩)
        (fun d => ⟨q.desc d, q.position d, q.keep d, q.lock d, q.hold d, q.deferred d, q.doorPhase d⟩)
    case loopAlarm =>
      exact fun s l h => ⟨E.loopAlarm s l h.flag, (flagKept_sound b).loopAlarm s l h.sound, fun hb => R.loopAlarm s l (h.roster hb),
        fun hb => loopAlarm_starts s l (h.starts hb)⟩
    case unlatched =>
      intro s hs h
      refine ⟨E.unlatched s hs h.flag, (flagKept_sound b).setFireState s _ h.sound, fun hb => R.unlatched s hs (h.roster hb),
        fun hb => setFireState_starts s _ (unlatched_ne_fire s) ?_ (h.starts hb)⟩
      rcases hs with hs | hs <;> simp [hs]
    case enterFire =>
      exact fun s hs h => ⟨E.enterFire s hs h.flag, (flagKept_sound b).enterFire s h.sound, fun hb => R.enterFire s hs (h.roster hb),
        fun hb => enterFire_starts s (h.starts hb)⟩
    case rosterTakes =>
      exact fun s f hh hn h => ⟨E.rosterTakes s f hh hn h.flag, (flagKept_sound b).rosterTakes s f h.sound,
        fun hb => R.rosterTakes s f hh hn (h.roster hb), fun _ => .of_not_configRead (hearing_not_configRead hh) (by simp)⟩
    case entryTakes =>
      exact fun s f k h => ⟨E.entryTakes s f k h.flag, entryTakes_sound s f k h.sound, fun hb => R.entryTakes s f k (h.roster hb),
        fun hb => entryTakes_starts s f k (h.starts hb)⟩
    case fallMute =>
      exact fun s k h => ⟨E.fallMute s k h.flag, fallMute_sound s k h.sound, fun hb => R.fallMute s k (h.roster hb),
        fun hb => fallMute_starts s k (h.starts hb)⟩
    case sweepRoster =>
      exact fun s h => ⟨E.sweepRoster s h.flag, (flagKept_sound b).sweepRoster s h.sound, fun hb => R.sweepRoster s (h.roster hb),
        fun hb => sweepRoster_starts s (h.roster hb) (h.starts hb)⟩
    case changeMode =>
      exact fun s m h => ⟨E.changeMode s m h.flag, changeMode_sound s m h.sound, fun hb => R.changeMode s m (h.roster hb),
        fun hb => changeMode_starts s m (h.starts hb)⟩
    case respondAlert =>
      exact fun s h => ⟨E.respondAlert s h.flag, respondAlert_sound s h.sound, fun hb => R.respondAlert s (h.roster hb),
        fun hb => (h.starts hb).congr (by simp) (by simp) (.inl (by simp)) (fun hy => by simpa using hy) (by simp) (by simp)⟩
    case takePassage =>
      exact fun s hh h => ⟨E.takePassage s hh h.flag, takePassage_sound s h.sound, fun hb => R.takePassage s hh (h.roster hb),
        fun _ => .of_not_configRead (hearing_not_configRead hh) (by simp)⟩
    case passageWithdrawn =>
      exact fun s h => ⟨E.passageWithdrawn s h.flag, passageWithdrawn_sound s h.sound, fun hb => R.passageWithdrawn s (h.roster hb),
        fun hb => resolveAll_starts _ ((h.starts hb).congr rfl rfl (.inl rfl) id (fun _ => rfl) (fun _ => rfl))⟩
    case firstReading =>
      exact fun s d p hh ho hp h => ⟨E.firstReading s d p hh ho hp h.flag, firstReading_sound s d p ho hp h.sound,
        fun hb => R.firstReading s d p hh ho hp (h.roster hb), fun _ => .of_not_configRead (hearing_not_configRead hh) (by simp)⟩
    case doorCloses =>
      exact fun s d hh ho hp h => ⟨E.doorCloses s d hh ho hp h.flag, doorCloses_sound s d ho h.sound,
        fun hb => R.doorCloses s d hh ho hp (h.roster hb), fun _ => .of_not_configRead (hearing_not_configRead hh) (by simp)⟩
    case doorOpens =>
      exact fun s d hh ho hp h => ⟨E.doorOpens s d hh ho hp h.flag, doorOpens_sound s d ho h.sound,
        fun hb => R.doorOpens s d hh ho hp (h.roster hb), fun _ => .of_not_configRead (hearing_not_configRead hh) (by simp)⟩
    case doorLost =>
      exact fun s d hh ho hp h => ⟨E.doorLost s d hh ho hp h.flag, doorLost_sound s d ho h.sound,
        fun hb => R.doorLost s d hh ho hp (h.roster hb), fun _ => .of_not_configRead (hearing_not_configRead hh) (by simp)⟩
    case travelLapse =>
      exact fun s d h => ⟨E.travelLapse s d h.flag, travelLapse_sound s d h.sound, fun hb => R.travelLapse s d (h.roster hb),
        fun hb => (h.starts hb).congr (by simp) (by simp) (.inl (by simp)) (fun hy => by simpa using hy) (by simp) (by simp)⟩
    case frameOver =>
      intro s t hs ht h k
      have hsound : Sound b t.hold := same k.sound ⟨⟨rfl, rfl, rfl, rfl⟩, rfl, rfl, rfl⟩ rfl
      exact ⟨E.frameOver s t hs ht h.flag k.flag, releaseWarm_sound _ k.flag hsound,
        fun hb => R.frameOver s t hs ht (h.roster hb) (k.roster hb), fun _ => releaseWarm_starts _⟩
    case releaseWarm =>
      exact fun s hs hn h => ⟨E.releaseWarm s hs hn h.flag, releaseWarm_sound s h.flag h.sound,
        fun hb => R.releaseWarm s hs hn (h.roster hb), fun _ => releaseWarm_starts s⟩
    case enterUnconfigured =>
      exact fun s hl hp h => ⟨E.enterUnconfigured s hl hp h.flag, enterUnconfigured_sound s,
        fun hb => R.enterUnconfigured s hl hp (h.roster hb), fun _ => .of_phase (by rw [enterUnconfigured_phase]; simp)⟩
    case configGood =>
      intro s x img hl hp hj h
      refine ⟨E.configGood s x img hl hp hj h.flag, configGood_sound s hj hp h.starts h.sound,
        fun hb => R.configGood s x img hl hp hj (h.roster hb), fun _ => .of_phase ?_⟩
      cases hk : s.start.kind with
      | cold => simp [configGood_cold img hk]
      | warm => simp [configGood_warm img hk]
    case beginRun =>
      exact fun s hl hp h => ⟨E.beginRun s hl hp h.flag, beginRun_sound s h.sound, fun hb => R.beginRun s hl hp (h.roster hb),
        fun _ => .of_phase (by unfold State.beginRun; dsimp only; split <;> simp)⟩
    case buzzerSilenced =>
      exact fun s h => h.unreached rfl rfl ⟨⟨rfl, rfl, rfl, rfl⟩, rfl, rfl, rfl⟩ rfl rfl
    case guardWatch =>
      exact fun s _ h => h.unreached (by simp) (by simp)
        ⟨⟨by simp, by simp, by simp, by simp⟩, by unfold State.guardWatch; split <;> simp, by simp, by simp⟩ (by simp) (by simp)
    case ackVerification =>
      intro s h
      unfold State.ackVerification
      dsimp only
      split
      · exact h.unreached (by simp) (by simp) ⟨⟨by simp, by simp, by simp, by simp⟩, by simp, by simp, by simp⟩ (by simp) (by simp)
      · exact h
    case pressTest =>
      exact fun s _ h => h.unreached (by simp [State.pressTest]) (by simp [State.pressTest])
        ⟨⟨by simp [State.pressTest], by simp [State.pressTest], by simp [State.pressTest], by simp [State.pressTest]⟩,
          by simp [State.pressTest], by simp [State.pressTest], by simp [State.pressTest]⟩ (by simp [State.pressTest])
        (by simp [State.pressTest])
    all_goals
      intros
      exact Doors.unreached ‹Doors _ _› (by simp) (by simp)
        ⟨⟨by simp, by simp, by simp, by simp⟩, by simp, by simp, by simp⟩ (by simp) (by simp)
  case cold =>
    exact fun s => ⟨E.cold s, .of_afresh rfl rfl rfl, fun _ => R.cold s,
      fun _ => ⟨fun _ _ d => by simp [State.cold, State.reset, State.door, DoorRec.afresh], fun _ hk => (by cases hk), fun _ hk => by cases hk⟩⟩
  case releaseCold =>
    exact fun s k1 k2 k3 => ⟨E.releaseCold s k1 k2 k3, .of_afresh rfl rfl rfl, fun _ => R.releaseCold s k1 k2 k3,
      fun _ => ⟨fun _ _ d => by simp [State.releaseCold, State.cold, State.reset, State.door, DoorRec.afresh],
        fun _ hk => (by cases hk), fun _ hk => by cases hk⟩⟩
  case restoreFire =>
    intro s hk h
    refine ⟨E.restoreFire s hk h.flag, (flagKept_sound b).restoreFire s h.sound, fun hb => R.restoreFire s hk (h.roster hb),
      fun _ => .of_not_configRead (s := s) (fun hp => ?_) (by simp)⟩
    simp [State.keyed, State.hearing, hp] at hk
  case restoreWatch =>
    exact fun s h => ⟨E.restoreWatch s h.flag, restoreWatch_sound s h.sound, fun hb => R.restoreWatch s (h.roster hb),
      fun hb => (h.starts hb).congr (by simp) (by simp) (.inl (by simp)) (fun hy => by simpa using hy) (by simp) (by simp)⟩
  case raiseCall =>
    exact fun s p h => h.unreached (by simp) (by simp)
      ⟨⟨by simp, by simp, by simp, by simp⟩, by simp, by simp, by simp⟩ (by simp) (by simp)

/-- Settles O55. -/
theorem doorsStayFreeInAFire : Obligations.DoorsStayFreeInAFire :=
  fun s t h hstep => (doorsSound_iff t).2 ((kept false).step ((doorsSound_iff s).1 h) hstep)

/-- Settles O57. -/
theorem doorOutputsFollowTheResolution : Obligations.DoorOutputsFollowTheResolution := by
  intro s t hr hd hf hstep
  have ht := (kept true).step ((doorsFollow_iff hr hd).1 hf) hstep
  exact (doorsFollow_iff (ht.roster rfl) (doorsStayFreeInAFire s t hd hstep)).2 ht

end Sys2Proof.Proofs.DoorDrive
end

section
/-! The sustained buzzer patterns follow their conditions (R23, R186, R187): they are set anew wherever one of these changes. -/

namespace Sys2Proof.Proofs.BuzzerPatterns

open Sys2Proof Sys2Proof.Machine Sys2Proof.Proofs.PartFrames Sys2Proof.Proofs.Steps

/-- The sustained patterns depend on these parts of the state alone. -/
theorem same {s t : State} (h : s.BuzzerSound) (hv : t.buzzer.verify.isSome = s.buzzer.verify.isSome)
    (ht : t.buzzer.trouble.isSome = s.buzzer.trouble.isSome) (hp : t.fire.phase = s.fire.phase) (hr : t.troubles = s.troubles) :
    t.BuzzerSound := by
  simpa only [State.BuzzerSound, hv, ht, hp, hr] using h

theorem same' {s t : State} (h : s.BuzzerSound) (hb : t.buzzer = s.buzzer) (hp : t.fire.phase = s.fire.phase)
    (hr : t.troubles = s.troubles) : t.BuzzerSound := same h (by rw [hb]) (by rw [hb]) hp hr

theorem syncBuzzer_sound (s : State) : s.syncBuzzer.BuzzerSound := by
  unfold State.syncBuzzer
  refine ⟨?_, ?_⟩ <;> dsimp only <;> split <;> simp_all

theorem present_sound (s : State) (o : OneShot) (h : s.BuzzerSound) : (s.present o).BuzzerSound := by
  cases o <;> exact same h rfl rfl rfl rfl

theorem enterTrouble_sound (s : State) (x : Trouble) (h : s.BuzzerSound) : (s.enterTrouble x).BuzzerSound := by
  unfold State.enterTrouble
  split
  · exact h
  · exact syncBuzzer_sound _

theorem removeTroubles_sound (s : State) (g : Trouble → Bool) : (s.removeTroubles g).BuzzerSound := syncBuzzer_sound _

theorem removeTrouble_sound (s : State) (x : Trouble) : (s.removeTrouble x).BuzzerSound := syncBuzzer_sound _

theorem deliver_sound (fs : List (State → State)) (hf : ∀ f ∈ fs, ∀ s : State, s.BuzzerSound → (f s).BuzzerSound)
    (s : State) (h : s.BuzzerSound) : (deliver fs s).BuzzerSound :=
  deliver_induct State.BuzzerSound (fun _ _ h => h) fs hf s h

theorem recomputeEvac_sound (s : State) (h : s.BuzzerSound) : s.recomputeEvac.BuzzerSound := by
  by_cases hd : s.evacDue = s.fire.evac
  · rwa [recomputeEvac_same hd]
  · rw [recomputeEvac_changed hd]
    exact same' h (by simp) (by simp) (by simp)

theorem setFireState_sound (s : State) (f : FireState) (h : s.BuzzerSound) : (s.setFireState f).BuzzerSound := by
  have h1 : (fireStateSet s f).BuzzerSound := same' h rfl rfl rfl
  rcases setFireState_cases s f with ⟨-, he⟩ | ⟨-, -, -, he⟩ | ⟨-, -, he⟩ <;> rw [he]
  · exact h
  · exact h1
  · exact recomputeEvac_sound _ h1

theorem endVerification_sound (s : State) : s.endVerification.BuzzerSound := syncBuzzer_sound _

theorem enterFire_sound (s : State) (h : s.BuzzerSound) : s.enterFire.BuzzerSound := by
  unfold State.enterFire
  split
  · exact h
  · exact setFireState_sound _ _ (same' (endVerification_sound s) (by simp) (by simp) (by simp))

theorem loopAlarm_sound (s : State) (l : Fin 6) (h : s.BuzzerSound) : (s.loopAlarm l).BuzzerSound := by
  have halarm : (if s.fire.loops[l].kind = .smoke ∧ s.smokeTrusted l = false then s.enterVerify l
      else s.enterFire).BuzzerSound := by
    split
    · exact setFireState_sound _ _ (syncBuzzer_sound _)
    · exact enterFire_sound s h
  unfold State.loopAlarm
  split
  · exact halarm
  · exact halarm
  · split
    · exact h
    · exact enterFire_sound s h
  · exact h

theorem restoreFire_sound (s : State) (h : s.BuzzerSound) : s.restoreFire.BuzzerSound := by
  have hr : (if s.loopInAlarm then s else s.endVerification.setFireState s.unlatchedFire).BuzzerSound := by
    split
    · exact h
    · exact setFireState_sound _ _ (endVerification_sound s)
  unfold State.restoreFire
  split
  · exact h
  · exact setFireState_sound _ _ h
  · exact hr
  · exact hr

theorem ackVerification_sound (s : State) (h : s.BuzzerSound) : s.ackVerification.BuzzerSound := by
  unfold State.ackVerification
  dsimp only
  split
  · exact same' (syncBuzzer_sound { s.stopTimer .t0 with fire := { (s.stopTimer .t0).fire with phase := .investigation } })
      (by simp) (by simp) (by simp)
  · exact h

theorem changeMode_sound (s : State) (m : Mode) (h : s.BuzzerSound) : (s.changeMode m).BuzzerSound := by
  by_cases hm : s.modes.mode = m
  · subst hm; rwa [changeMode_same]
  · have hd : (modeDelivered s m).BuzzerSound := by
      refine deliver_sound _ ?_ _ (same' h rfl rfl rfl)
      simp only [List.mem_cons, List.not_mem_nil, or_false]
      rintro f (rfl | rfl) t ht
      · exact same' ht (by simp) (by simp) (by simp)
      · unfold State.fireModeChange
        split
        · exact enterFire_sound t ht
        · exact ht
    rw [changeMode_changed hm]
    exact same' hd (by simp) (by simp) (by simp)

theorem entryReplaced_sound (s : State) (k : Fin 4) (old new : NbEntry) (h : s.BuzzerSound) :
    (entryReplaced s k old new).BuzzerSound := by
  have h1 : (s.setEntry k new).BuzzerSound := same' h rfl rfl rfl
  unfold entryReplaced
  (repeat' split)
  · exact removeTrouble_sound _ _
  · exact enterTrouble_sound _ _ h1
  · exact h1

theorem changeEntry_sound (s : State) (k : Fin 4) (old new : NbEntry) (h : s.BuzzerSound) :
    (s.changeEntry k old new).BuzzerSound := by
  rw [changeEntry_eq]
  refine deliver_sound _ ?_ _ (entryReplaced_sound s k old new h)
  simp only [List.mem_cons, List.not_mem_nil, or_false]
  rintro f (rfl | rfl | rfl) t ht
  · unfold corroborateBy State.corroborate
    (repeat' split)
    · exact enterFire_sound t ht
    · exact ht
    · exact ht
  · exact same' ht (by simp) (by simp) (by simp)
  · exact same' ht (by simp) (by simp) (by simp)

theorem entryTakes_sound (s : State) (f : StatusFrame) (k : Fin 4) (h : s.BuzzerSound) : (s.entryTakes f k).BuzzerSound := by
  unfold State.entryTakes
  (repeat' split)
  · exact h
  · exact changeEntry_sound _ _ _ _ (same' h (by simp) (by simp) (by simp))
  · exact h

theorem fallMute_sound (s : State) (k : Fin 4) (h : s.BuzzerSound) : (s.fallMute k).BuzzerSound := by
  unfold State.fallMute
  (repeat' split)
  · exact h
  · exact h
  · exact changeEntry_sound s _ _ _ h

theorem rosterTakes_sound (s : State) (f : StatusFrame) (h : s.BuzzerSound) : (s.rosterTakes f).BuzzerSound := by
  have hr : ∀ l, (s.setRoster l).BuzzerSound := fun l => same' h rfl rfl rfl
  unfold State.rosterTakes
  dsimp only
  (repeat' split)
  · exact hr _
  · exact same' (recomputeEvac_sound _ (hr (s.table.roster ++ [{ station := f.source, mark := true }]))) (by simp) (by simp) (by simp)
  · exact recomputeEvac_sound _ (hr _)
  · exact h

theorem sweepRoster_sound (s : State) (h : s.BuzzerSound) : s.sweepRoster.BuzzerSound := by
  have hr : ∀ l, (s.setRoster l).BuzzerSound := fun l => same' h rfl rfl rfl
  unfold State.sweepRoster
  dsimp only
  split
  · exact recomputeEvac_sound _ (hr _)
  · exact hr _

/-! ### Doors and calls -/

theorem driven_sound (s : State) (d : Fin 4) (h : s.BuzzerSound) : ((s.driveLock d).driveHold d).BuzzerSound :=
  same' h (by simp) (by simp) (by simp)

theorem doorOpens_sound (s : State) (d : Fin 4) : (s.doorOpens d).BuzzerSound := by
  have h1 : (doorDriven s d).BuzzerSound := driven_sound (doorAway s d) d (removeTrouble_sound _ _)
  rw [doorOpens_eq]
  exact same' h1 (by simp) (by simp) (by simp)

theorem doorCloses_sound (s : State) (d : Fin 4) : (s.doorCloses d).BuzzerSound := by
  have h1 : (doorShut s d).BuzzerSound := removeTroubles_sound _ _
  rw [doorCloses_eq]
  exact driven_sound (doorShut s d) d h1

theorem doorLost_sound (s : State) (d : Fin 4) : (s.doorLost d).BuzzerSound := by
  have h1 : (doorUnsensed s d).BuzzerSound := enterTrouble_sound _ _ (removeTrouble_sound _ _)
  rw [doorLost_eq]
  exact driven_sound (doorUnsensed s d) d h1

theorem firstReading_sound (s : State) (d : Fin 4) (p : Position) (h : s.BuzzerSound) : (s.firstReading d p).BuzzerSound := by
  have h1 : (doorRead s d p).BuzzerSound := by
    unfold doorRead
    dsimp only
    split
    · exact enterTrouble_sound _ _ (same' h rfl rfl rfl)
    · exact same' h rfl rfl rfl
  rw [firstReading_eq]
  exact same' h1 (by simp) (by simp) (by simp)

theorem travelLapse_sound (s : State) (d : Fin 4) (h : s.BuzzerSound) : (s.travelLapse d).BuzzerSound := by
  by_cases hp : (s.door d).phase = some .closing
  · have h1 : (doorStuck s d).BuzzerSound := enterTrouble_sound _ _ (same' h rfl rfl rfl)
    rw [travelLapse_closing hp]
    exact same' h1 (by simp) (by simp) (by simp)
  · rwa [travelLapse_same hp]

theorem insertLocal_sound (s : State) (p : Fin 4) (h : s.BuzzerSound) : (s.insertLocal p).BuzzerSound := by
  have hi : ∀ (t : State) (e : CallEntry), t.BuzzerSound → (t.insertEntry e).BuzzerSound := fun t e ht =>
    present_sound _ _ (same' ht rfl rfl rfl)
  unfold State.insertLocal
  (repeat' split)
  · exact hi _ _ h
  · exact hi _ _ h
  · exact hi _ _ (enterTrouble_sound _ _ (same' h rfl rfl rfl))

theorem takeNotice_sound (s : State) (id : CallId) (x : BitVec 2) (n : Nat) (a : Station) (h : s.BuzzerSound) :
    (s.takeNotice id x n a).BuzzerSound := by
  have hi : ∀ (t : State) (e : CallEntry), t.BuzzerSound → (t.insertEntry e).BuzzerSound := fun t e ht =>
    present_sound _ _ (same' ht rfl rfl rfl)
  unfold State.takeNotice
  dsimp only
  (repeat' split)
  · exact same' h rfl rfl rfl
  · exact same' h rfl rfl rfl
  · exact h
  · exact hi _ _ h
  · exact enterTrouble_sound _ _ h
  · exact hi _ _ (enterTrouble_sound _ _ (same' h rfl rfl rfl))
  · exact enterTrouble_sound _ _ h

/-! ### The starts -/

theorem releaseWarm_sound (s : State) : s.releaseWarm.BuzzerSound := by
  have h : (heldOver s).BuzzerSound := by
    refine ⟨?_, ?_⟩
    · simp only [heldOver]
      split <;> simp_all
    · simp [heldOver, Buzzer.silent]
  rw [releaseWarm_eq]
  exact same' h (by simp) (by simp) (by simp)

theorem enterUnconfigured_sound (s : State) (h : s.BuzzerSound) : s.enterUnconfigured.BuzzerSound := by
  have h1 : (s.stripped.enterTrouble .config).BuzzerSound := enterTrouble_sound _ _ (same' h rfl rfl rfl)
  have h2 : (s.stripped.enterTrouble .config).unconfiguredFire.BuzzerSound := by
    unfold State.unconfiguredFire
    split
    · exact enterFire_sound _ h1
    · exact setFireState_sound _ _ h1
    · exact h1
    · exact h1
  have h3 := recomputeEvac_sound _ h2
  unfold State.enterUnconfigured
  generalize ((s.stripped.enterTrouble .config).unconfiguredFire).recomputeEvac = u at h3 ⊢
  exact same' h3 (by simp) (by simp) (by simp)

theorem configGood_sound (s : State) (img : Image) (h : s.BuzzerSound) : (s.configGood img).BuzzerSound := by
  have ht : (s.takeImage img).BuzzerSound := same' h (by simp) (by simp) (by simp)
  cases hk : s.start.kind with
  | cold =>
    rw [configGood_cold img hk]
    exact same' ht (by simp) (by simp) (by simp)
  | warm =>
    have hfold : ∀ (l : List Trouble) (t : State), t.BuzzerSound → (l.foldl State.enterTrouble t).BuzzerSound := by
      intro l
      induction l with
      | nil => exact fun _ h => h
      | cons x l ih => exact fun t h => ih _ (enterTrouble_sound t x h)
    have hh : (troublesHeld (s.takeImage img)).BuzzerSound := hfold _ _ ht
    rw [configGood_warm img hk]
    exact same' hh (by simp) (by simp) (by simp)

theorem settle_sound (s : State) (h : s.BuzzerSound) : s.settle.BuzzerSound := by
  unfold State.settle
  split
  · exact h
  · exact changeMode_sound _ _ (same' h rfl rfl rfl)

theorem beginRun_sound (s : State) (h : s.BuzzerSound) : s.beginRun.BuzzerSound := by
  have hd : (deliver [State.settle, State.firstEgress, State.release] (s.setPhase .run)).BuzzerSound := by
    refine deliver_sound _ ?_ _ (same' h rfl rfl rfl)
    simp only [List.mem_cons, List.not_mem_nil, or_false]
    rintro f (rfl | rfl | rfl) t ht
    · exact settle_sound t ht
    · exact same' ht (by simp) (by simp) (by simp)
    · exact same' ht (by simp) (by simp) (by simp)
  unfold State.beginRun
  dsimp only
  generalize deliver [State.settle, State.firstEgress, State.release] (s.setPhase .run) = u at hd ⊢
  split <;> exact same' hd (by simp) (by simp) (by simp)

theorem reset_sound (s : State) : s.cold.BuzzerSound := by
  refine ⟨?_, ?_⟩
  · simp [State.cold, State.reset, Buzzer.silent]
  · simp [State.cold, State.reset, Buzzer.silent]

/-- R187: every operation keeps the sustained patterns. -/
theorem kept : KeptByAll State.BuzzerSound := by
  constructor
  case toKept =>
    constructor
    case quiet => exact fun q h => same h q.verifyPattern q.troublePattern q.verifyPhase q.troubles
    case enterTrouble => exact enterTrouble_sound
    case removeTroubles => exact fun s g _ => removeTroubles_sound s g
    case buzzerSilenced => exact fun s _ => syncBuzzer_sound _
    case loopAlarm => exact loopAlarm_sound
    case unlatched => exact fun s _ => setFireState_sound s _
    case enterFire => exact fun s _ => enterFire_sound s
    case ackVerification => exact ackVerification_sound
    case rosterTakes => exact fun s f _ _ => rosterTakes_sound s f
    case entryTakes => exact entryTakes_sound
    case fallMute => exact fallMute_sound
    case sweepRoster => exact sweepRoster_sound
    case changeMode => exact changeMode_sound
    case passageWithdrawn => exact fun s h => same' h (by simp [passageWithdrawn]) (by simp [passageWithdrawn]) (by simp [passageWithdrawn])
    case pressTest => exact fun s _ h => same' h (by simp [State.pressTest]) (by simp [State.pressTest]) (by simp [State.pressTest])
    case firstReading => exact fun s d p _ _ _ => firstReading_sound s d p
    case doorCloses => exact fun s d _ _ _ _ => doorCloses_sound s d
    case doorOpens => exact fun s d _ _ _ _ => doorOpens_sound s d
    case doorLost => exact fun s d _ _ _ _ => doorLost_sound s d
    case travelLapse => exact travelLapse_sound
    case takeNotice => exact fun s id x n a _ => takeNotice_sound s id x n a
    case frameOver => exact fun _ t _ _ _ _ => releaseWarm_sound t.hold
    case releaseWarm => exact fun s _ _ _ => releaseWarm_sound s
    case enterUnconfigured => exact fun s _ _ => enterUnconfigured_sound s
    case configGood => exact fun s _ img _ _ _ => configGood_sound s img
    case beginRun => exact fun s _ _ => beginRun_sound s
    all_goals
      intros
      exact same' ‹State.BuzzerSound _› (by simp) (by simp) (by simp)
  case cold => exact reset_sound
  case releaseCold => exact fun s _ _ _ => same' (reset_sound s) rfl rfl rfl
  case restoreFire => exact fun s _ => restoreFire_sound s
  case restoreWatch => exact fun s h => same' h (by simp) (by simp) (by simp)
  case raiseCall =>
    intro s p h
    unfold State.raiseCall
    dsimp only
    split
    · exact h
    · exact insertLocal_sound _ _ (same' h (by simp) (by simp) (by simp))

end Sys2Proof.Proofs.BuzzerPatterns
end

section
/-! The step and the queue, the reset conditions and the state after reset. -/

namespace Sys2Proof.Proofs.StepAndReset

open Sys2Proof Sys2Proof.Machine Sys2Proof.Proofs.PartFrames Sys2Proof.Proofs.Steps

/-- Settles O1: the queue's front command is the one that step executes. -/
theorem stepTakesTheFrontCommand : Obligations.StepTakesTheFrontCommand := by
  intro c s rest
  rfl

/-- Settles O2, by whether an event of the station's own waits. -/
theorem idleStepTicksOrTakesOneEvent : Obligations.IdleStepTicksOrTakesOneEvent := by
  intro s hq
  refine ⟨fun hw => ?_, fun hw => ?_⟩
  · simp [step, hq, State.nextEvent, hw]
  · have hlt : s.order % s.waitingEvents.length < s.waitingEvents.length :=
      Nat.mod_lt _ (List.length_pos_iff.mpr hw)
    have hn : s.nextEvent = some (s.waitingEvents[s.order % s.waitingEvents.length],
        { s with order := s.order / s.waitingEvents.length
                 raised := s.raised.eraseIdx (s.order % s.waitingEvents.length) }) := by
      simp [State.nextEvent, State.drawn, State.afterDraw, List.getElem?_eq_getElem hlt]
    refine ⟨_, _, _, List.getElem?_eq_getElem hlt, rfl, exec_eq_taken _ _, ?_⟩
    simp only [step, hq, hn, exec_eq_taken, keepPins]
    rfl

/-- Settles O4: each of the two commands answers the cold state, or changes the HOLD line. -/
theorem coldResetIsTheInitialState : Obligations.ColdResetIsTheInitialState := by
  refine ⟨fun s => ⟨_, rfl, rfl⟩, fun s h => ⟨s.cold, ?_, rfl⟩, fun s hc hr => ⟨_, ?_, rfl⟩⟩
  · simp [exec, execHoldFalls, State.dropHold, h]
  · simp [exec, execHoldFalls, State.dropHold, hc, hr]

/-! ### Commands in a reset condition -/

/-- At most the input lines changed. -/
def SameButPins (s t : State) : Prop := t = { s with pins := t.pins }

theorem sameButPins_refl (s : State) : SameButPins s s := rfl

theorem SameButPins.of_eq {s t : State} (h : t = s) : SameButPins s t := h ▸ rfl

theorem strays_dead (s : State) (h : s.live = false) : s.straysSeen = s :=
  s.straysSeen_uncounted (.inl h)

theorem takeFrame_dead (s : State) (fr : Frame) (h : s.live = false) : s.takeFrame fr = s := by
  rw [s.takeFrame_strays fr (.inl h), strays_dead s h]

theorem takeActivity_dead (s : State) (a : BusActivity) (h : s.live = false) : s.takeActivity a = s := by
  cases a with
  | startBit => simp [State.takeActivity, State.startBitSeen, h, strays_dead s h]
  | stray => exact strays_dead s h
  | bits l =>
    unfold State.takeActivity
    dsimp only
    split
    · simp [State.frameBroken, h, strays_dead s h]
    · exact takeFrame_dead s _ h

/-- Settles O3: every such command asks first whether the station is live. -/
theorem resetConditionTakesNoOtherCommand : Obligations.ResetConditionTakesNoOtherCommand := by
  intro c s hc hra hhf hcs hwr
  have hl : s.live = false := by simp [State.live, hc]
  have hh : s.hearing = false := by simp [State.hearing, hl]
  have hk : s.keyed = false := by simp [State.keyed, hh, hl]
  have hexp : ∀ ch purpose act, s.onExpiry ch purpose act = s := fun ch purpose act => by
    simp [State.onExpiry, hl]
  have hcmp : ∀ ch purpose act, s.onCompare ch purpose act = s := fun ch purpose act => by
    simp [State.onCompare, hl]
  have hkey : ∀ k press, s.keyDown k false press = s.setKeyLine k true := fun k press => s.keyDown_unsampled k press
  refine ⟨taken c s, exec_eq_taken c s, ?_⟩
  show SameButPins s (taken c s)
  cases c
  case resetAsserted => exact absurd rfl (hra _)
  case holdFalls => exact absurd rfl hhf
  case coldStart => exact absurd rfl (hcs _ _ _)
  case warmRestart => exact absurd rfl hwr
  case receivedStatus f => exact .of_eq (takeFrame_dead s _ hl)
  case receivedNotice f => exact .of_eq (takeFrame_dead s _ hl)
  case receivedOffer f => exact .of_eq (takeFrame_dead s _ hl)
  case frameDiscarded a => exact .of_eq (takeActivity_dead s a hl)
  case ack | restore | accept | guard | test =>
    simp only [taken, exec, execAck, execRestore, execAccept, execGuard, execTest, hk, hkey]
    rfl
  case passage =>
    simp only [taken, exec, execPassage, hh, hkey]
    rfl
  case keyChange | bandChange | watchBandChange | callButtonPressed | firstReading | positionChange =>
    simp only [taken, exec, execKeyChange, execBandChange, execWatchBandChange, execCallButtonPressed, execFirstReading,
      execPositionChange, hl, hh, Bool.false_and, Bool.false_eq_true, if_false]
    rfl
  case escalationCompare | ajarCompare =>
    exact .of_eq (by simp only [taken, exec, execEscalationCompare, execAjarCompare, hcmp])
  case configReadAttempt => exact .of_eq (by simp [taken, exec, execConfigReadAttempt, State.readAttempt, hl])
  case beginFrame => exact .of_eq (by simp [taken, exec, execBeginFrame, State.beginFrame, State.mayBegin, hl])
  case busIdle => exact .of_eq (by simp [taken, exec, execBusIdle, State.findIdle, hl])
  case lostArbitration | transmitFault | frameSent | buzzerPatternEnd =>
    exact .of_eq (by simp [taken, exec, execLostArbitration, execTransmitFault, execFrameSent, execBuzzerPatternEnd, hl])
  all_goals
    exact .of_eq (by simp only [taken, exec, execStartOfRun, execAckWindowExpiry, execInvestigationExpiry,
      execTravelLimitExpiry, execHeldEvent, execPassageExpiry, execEscalationExpiry, execAttendLimitExpiry, execSilenceExpiry,
      execSweep, execExitDelayExpiry, execRoundExpiry, execLampTestExpiry, execRefreshExpiry, execStatusPacingExpiry,
      execQuietPeriodExpiry, hexp])

/-! ### The state after reset -/

/-- Settles O5, from the definition of the state after reset. -/
theorem resetGivesTheColdStartValues : Obligations.ResetGivesTheColdStartValues := by
  unfold Obligations.ResetGivesTheColdStartValues
  have hchan : ∀ c ∈ Chan.all, State.reset.channel c =
      { reload := 1, count := 0, rate := .s1, kind := .oneShot, compare := 0, running := false, waiting := [] } := by
    intro c _
    cases c <;> simp [State.channel, State.reset, TimerBank.initial, TimerBank.get, Channel.initial]
  refine ⟨rfl, rfl, rfl, rfl, rfl, ?_, rfl, rfl, rfl, rfl, rfl, ?_, rfl, rfl, rfl, rfl, ?_, ?_, rfl, ?_, rfl, ?_, rfl, rfl, rfl,
    rfl, rfl, ?_, rfl, rfl, rfl, rfl, rfl, hchan, rfl, rfl, rfl, rfl, rfl⟩
  all_goals simp [State.reset, State.door, State.point, DoorRec.afresh, LinkUnit.initial]

/-- Settles O60: the state after reset is the cold state of itself, which every invariant's proof covers. -/
theorem invariantsHoldAtReset : Obligations.InvariantsHoldAtReset := by
  have roster : State.reset.RosterSound := Roster.kept.cold State.reset
  have doors : State.reset.DoorsSound := (DoorDrive.doorsSound_iff _).mpr ((DoorDrive.kept false).cold State.reset)
  have guard : State.reset.SendingSound ∧ State.reset.GuardSound := GuardState.guard_kept.cold State.reset
  have stack : SceneStack.Based State.reset ∧ SceneStack.Ordered State.reset :=
    ⟨SceneStack.based_kept.cold State.reset, SceneStack.ordered_kept.cold State.reset⟩
  exact ⟨Evacuation.kept.cold State.reset, Verification.kept.cold State.reset, guard.1, guard.2,
    (SceneStack.stackSound_iff_based _).mpr stack, roster, EgressResult.kept.cold State.reset, doors,
    CallList.kept.cold State.reset,
    (DoorDrive.doorsFollow_iff roster doors).mpr ((DoorDrive.kept true).cold State.reset),
    Lighting.kept.cold State.reset, BuzzerPatterns.kept.cold State.reset⟩

end Sys2Proof.Proofs.StepAndReset
end

section
/-! Panel lamps and buzzer, adoption of a heard pair, the three-sample filter and the countdown channel: laws of single definitions. -/

namespace Sys2Proof.Proofs.SmallLaws

open Sys2Proof Sys2Proof.Machine Sys2Proof.Proofs.Steps

/-! ### Adoption (R7) -/

/-- R7: what a settled station adopts, with the distance of the epochs as a number. -/
theorem adopts_settled (own heard : Mode) (e e' : Byte) :
    adopts true own heard e e' = true ↔ (1 ≤ (e' - e).toNat ∧ (e' - e).toNat ≤ 127)
      ∨ ((e' - e).toNat = 0 ∧ Mode.security own < Mode.security heard) := by
  simp [adopts]

/-- Settles O15: of two different epochs one is behind the other by more than 127; of equal ones the order of security decides. -/
theorem adoptionIsNeverMutual : Obligations.AdoptionIsNeverMutual := by
  intro m m' e e' h
  rw [← Bool.not_eq_true, adopts_settled]
  rw [adopts_settled] at h
  bv_omega

/-! ### The filter of a loop (R17, R18) -/

theorem sample_same (f : Machine.Filter LoopBand) (r : LoopBand) : f.sample (some r) r = (Filter.clear, none) := by
  simp [Filter.sample]

/-- R18: the samples of another band count from 1, and the third takes it. -/
theorem sample_other (f : Machine.Filter LoopBand) (r x : LoopBand) (hx : x ≠ r) :
    f.sample (some r) x = if f.candidate = some x then
      if f.count.val = 2 then (Filter.clear, some x) else ({ candidate := some x, count := f.count + 1 }, none)
      else ({ candidate := some x, count := 1 }, none) := by
  simp [Filter.sample, hx.symm]

/-- Settles O17: the bands by their bounds, and three samples through the filter. -/
theorem loopSamplesPassTheThreeSampleFilter : Obligations.LoopSamplesPassTheThreeSampleFilter := by
  refine ⟨fun a => ?_, fun b => ?_, sample_same, fun f r x hx hc => ?_⟩
  · unfold loopBandOf
    split_ifs <;> simp <;> omega
  · cases b <;> decide
  · have h1 : f.sample (some r) x = ({ candidate := some x, count := 1 }, none) := by rw [sample_other f r x hx, if_neg hc]
    have h2 : Filter.sample { candidate := some x, count := 1 } (some r) x = ({ candidate := some x, count := 2 }, none) := by
      rw [sample_other _ r x hx]
      simp
    have h3 : Filter.sample { candidate := some x, count := 2 } (some r) x = (Filter.clear, some x) := by
      rw [sample_other _ r x hx]
      simp
    rw [h1]
    dsimp only
    rw [h2]
    exact ⟨rfl, rfl, h3⟩

/-! ### A channel's countdown (R150 to R153) -/

theorem fresh_running (n : Nat) (rate : TickRate) (kind : ChanKind) (c : Nat) : (Channel.fresh n rate kind c).running = true := rfl

/-- The channel after `k` of its ticks, none of them the last. -/
def countedDown (n k c : Nat) (rate : TickRate) (kind : ChanKind) : Channel :=
  { Channel.fresh n rate kind c with count := n - k, waiting := if 1 ≤ c ∧ c < n ∧ n - k ≤ c then [.compare] else [] }

/-- R152: a tick before the last: the compare event is raised where the count reaches it. -/
theorem countedDown_tick (n k c : Nat) (rate : TickRate) (kind : ChanKind) (hk : k + 1 < n) :
    (countedDown n k c rate kind).tick = countedDown n (k + 1) c rate kind := by
  have h0 : n - k ≠ 0 := by omega
  have h1 : n - k - 1 ≠ 0 := by omega
  have hn : n - (k + 1) = n - k - 1 := by omega
  unfold Channel.tick countedDown
  simp only [Channel.fresh, Bool.not_true, Bool.false_or, beq_iff_eq, h0, h1, if_false, hn]
  by_cases hc : n - k - 1 = c ∧ c ≠ 0
  · obtain ⟨hc, hc0⟩ := hc
    have hb : ¬ (1 ≤ c ∧ c < n ∧ n - k ≤ c) := by omega
    have ha : 1 ≤ c ∧ c < n ∧ n - k - 1 ≤ c := by omega
    rw [if_neg hb, if_pos ha]
    exact if_pos ⟨hc, hc0⟩
  · have hsame : (1 ≤ c ∧ c < n ∧ n - k ≤ c) ↔ (1 ≤ c ∧ c < n ∧ n - k - 1 ≤ c) := by omega
    rw [if_congr hsame rfl rfl]
    exact if_neg hc

theorem ticks_eq_countedDown (n k c : Nat) (rate : TickRate) (kind : ChanKind) (hk : k < n) :
    Channel.tick^[k] (Channel.fresh n rate kind c) = countedDown n k c rate kind := by
  induction k with
  | zero =>
    have hn : ¬ (1 ≤ c ∧ c < n ∧ n ≤ c) := by omega
    simp [countedDown, hn, Channel.fresh, reloadOf, show n ≠ 0 by omega]
  | succ k ih =>
    rw [Function.iterate_succ_apply', ih (by omega), countedDown_tick n k c rate kind hk]

/-- R151: the last tick raises the expiry behind a compare event met on the way. -/
theorem countedDown_last (n c : Nat) (rate : TickRate) (kind : ChanKind) :
    (countedDown (n + 1) n c rate kind).tick = { Channel.fresh (n + 1) rate kind c with
      count := if kind = .oneShot then 0 else n + 1, running := (kind == .periodic)
      waiting := (if 1 ≤ c ∧ c < n + 1 then [.compare] else []) ++ [.expiry] } := by
  have hc : (1 ≤ c ∧ c < n + 1 ∧ n + 1 - n ≤ c) ↔ (1 ≤ c ∧ c < n + 1) := by omega
  unfold Channel.tick countedDown
  rw [if_congr hc rfl rfl]
  cases kind <;> simp [Channel.fresh, Channel.expired, reloadOf]

/-- R153: a start is a preset and a resume. -/
theorem start_eq_fresh (ch : Channel) (n : Nat) (rate : TickRate) (kind : ChanKind) (c : Nat) :
    ch.start n rate kind c = Channel.fresh n rate kind c := by
  unfold Channel.start Channel.preset Channel.resume Channel.fresh reloadOf
  split <;> simp_all

/-- Settles O47: the ticks of a started channel by induction on their number, and the other operations of R153. -/
theorem channelsCountTheirReloadDown : Obligations.ChannelsCountTheirReloadDown := by
  refine ⟨fun n k c rate kind _ hk => ticks_eq_countedDown n k c rate kind hk, fun n c rate kind hn => ?_, fun ch h => ?_,
    fun ch rate kind c => start_eq_fresh ch 0 rate kind c, fun ch n rate kind c _ => start_eq_fresh ch n rate kind c,
    fun _ => rfl, fun ch h hc => ?_⟩
  · obtain ⟨m, rfl⟩ : ∃ m, n = m + 1 := ⟨n - 1, by omega⟩
    rw [Function.iterate_succ_apply', ticks_eq_countedDown (m + 1) m c rate kind (by omega), countedDown_last]
  · simp [Channel.tick, h]
  · simp [Channel.resume, h, hc]

/-! ### Lamps and buzzer (R92, R187, R189) -/

/-- R92, by the state of the point. -/
theorem point_lamp (r : PointRec) : r.lamp = (if r.state = .idle then .off else if r.state = .answered then .steady
    else if r.hurry = true then .fast else .flash) := by
  unfold PointRec.lamp
  cases r.state <;> simp

/-- R136: both rhythms from the one phase of 2 s. -/
theorem lighting_rhythm (c : Clock) : (c.lightingFlash = true ↔ c.lighting.val % 100 < 50)
    ∧ (c.lightingPulse = true ↔ c.lighting.val < 100) := by
  have := c.lighting.isLt
  simp only [Clock.lightingFlash, Clock.lightingPulse, beq_iff_eq]
  omega

theorem panel_rhythm (c : Clock) : (LampPattern.slow.lit c = true ↔ c.panel.val < 200)
    ∧ (LampPattern.flash.lit c = true ↔ c.panel.val % 200 < 100) ∧ (LampPattern.fast.lit c = true ↔ c.panel.val % 50 < 25) := by
  have := c.panel.isLt
  simp only [LampPattern.lit, beq_iff_eq]
  omega

theorem call_lamp (s : State) : s.callLamp = (if ∃ e ∈ s.calls.list, e.answered = true ∧ e.answerer = s.own then .steady
    else if ∃ e ∈ s.calls.list, e.answered = false then .flash else .off) := by
  simp [State.callLamp, CallEntry.answeredBy]

theorem lampLit_iff (s : State) :
    s.lampLit = true ↔ s.light.out.lamp = .on ∨ (s.light.out.lamp = .flash ∧ s.clock.lighting.val % 100 < 50) := by
  unfold State.lampLit
  cases s.light.out.lamp <;> simp [lighting_rhythm]

theorem sounding_iff (s : State) :
    s.sounding = true ↔ s.light.out.sounder = .on ∨ (s.light.out.sounder = .pulse ∧ s.clock.lighting.val < 100) := by
  unfold State.sounding
  cases s.light.out.sounder <;> simp [lighting_rhythm]

/-- R187: a presentation is present at once, or waits behind the one present. -/
theorem presented_eq (r : OneShotRec) : (r.age = none → r.presented = { r with age := some 0 })
    ∧ (r.age ≠ none → r.presented = { r with queued := if r.queued < 4 then r.queued + 1 else r.queued }) := by
  obtain ⟨age, queued⟩ := r
  cases age with
  | none => simp [OneShotRec.presented]
  | some a => by_cases hq : queued < 4 <;> simp [OneShotRec.presented, hq]

/-- R187: the highest pattern present decides what is heard. -/
theorem buzzer_on (b : Buzzer) :
    (∀ a, b.verify = some a → (b.on = true ↔ a % 50 < 25))
      ∧ (b.verify = none → b.refuse.age ≠ none → b.on = true)
      ∧ (b.verify = none → b.refuse.age = none → b.callChirp.age ≠ none → b.on = true)
      ∧ (∀ a, b.verify = none → b.refuse.age = none → b.callChirp.age = none → b.warning.age = some a → a < 30 →
          (b.on = true ↔ a < 10 ∨ 20 ≤ a))
      ∧ (∀ a, b.verify = none → b.refuse.age = none → b.callChirp.age = none → b.warning.age = none → b.trouble = some a →
          (b.on = true ↔ a % 200 < 10))
      ∧ (b.verify = none → b.refuse.age = none → b.callChirp.age = none → b.warning.age = none → b.trouble = none →
        b.on = false) := by
  refine ⟨fun a hv => ?_, fun hv hr => ?_, fun hv hr hc => ?_, fun a hv hr hc hw ha => ?_, fun a hv hr hc hw ht => ?_,
    fun hv hr hc hw ht => ?_⟩
  · simp only [Buzzer.on, hv, beq_iff_eq]
    omega
  · obtain ⟨a, hr⟩ := Option.ne_none_iff_exists'.mp hr
    simp only [Buzzer.on, hv, hr]
  · obtain ⟨a, hc⟩ := Option.ne_none_iff_exists'.mp hc
    simp only [Buzzer.on, hv, hr, hc]
  · simp only [Buzzer.on, hv, hr, hc, hw, beq_iff_eq]
    omega
  · simp only [Buzzer.on, hv, hr, hc, hw, ht, decide_eq_true_eq]
  · simp only [Buzzer.on, hv, hr, hc, hw, ht]

/-- Settles O59: each table by its cases; the sustained patterns by the invariant of `BuzzerPatterns`. -/
theorem lampsAndBuzzerShowTheirConditions : Obligations.LampsAndBuzzerShowTheirConditions := by
  refine ⟨point_lamp, fun s => ⟨rfl, rfl, call_lamp s, by simp [State.troubleLamp], lampLit_iff s, sounding_iff s, fun d => ?_⟩,
    fun c => ⟨rfl, rfl, panel_rhythm c⟩, buzzer_on, presented_eq, fun s t h hstep => BuzzerPatterns.kept.step h hstep⟩
  simp [State.crossLit, lighting_rhythm]

end Sys2Proof.Proofs.SmallLaws
end

section
/-! The frames on the wire (R159, R167, R173) and the check byte (R168). -/

namespace Sys2Proof.Proofs.Wire

open Sys2Proof Sys2Proof.Machine

/-! ### The check byte -/

/-- The shift of the check register undone: the bit that a shift sets at the bottom is the one it pushed out at the top. -/
def crcUnshift (r : Byte) : Byte := if r.getLsbD 0 then ((r ^^^ 0x07#8) >>> 1) ||| 0x80#8 else r >>> 1

theorem crcUnshift_crcShift : ∀ r : Byte, crcUnshift (crcShift r) = r := by decide

theorem crcShift_injective : Function.Injective crcShift := Function.LeftInverse.injective crcUnshift_crcShift

theorem crcByte_injective {r r' b b' : Byte} (h : crcByte r b = crcByte r' b') : r ^^^ b = r' ^^^ b' := by
  have hi := crcShift_injective
  exact hi (hi (hi (hi (hi (hi (hi (hi h)))))))

/-- R168: bytes taken into different registers leave them different. -/
theorem foldl_crcByte_injective (l : List Byte) : Function.Injective fun r => l.foldl crcByte r := by
  induction l with
  | nil => exact fun _ _ h => h
  | cons b l ih => exact fun r r' h => (BitVec.xor_left_inj _).mp (crcByte_injective (ih h))

/-- R168: the spec's own example, byte by byte. -/
theorem crc_example : crc [0x8E, 0x0C, 0x00] = 0xDB := by
  have h1 : crcByte 0 0x8E = 0xA3 := by decide
  have h2 : crcByte 0xA3 0x0C = 0x44 := by decide
  have h3 : crcByte 0x44 0x00 = 0xDB := by decide
  simp only [crc, List.foldl_cons, List.foldl_nil, h1, h2, h3]

/-- R168: the sender's check byte changes no other byte. -/
theorem sealed_body (fr : Frame) : fr.sealed.body = fr.body := by
  cases fr <;> rfl

theorem sealed_check (fr : Frame) : fr.sealed.check = crc fr.body := by
  cases fr <;> rfl

/-- Settles O46: the register after the changed byte differs, and stays different. -/
theorem checkByteFindsEveryChangedByte : Obligations.CheckByteFindsEveryChangedByte := by
  refine ⟨fun before after b c hbc h => hbc ?_, ?_⟩
  · rw [crc, crc, List.foldl_append, List.foldl_append] at h
    exact (BitVec.xor_right_inj _).mp (crcByte_injective (foldl_crcByte_injective after h))
  · have hbody : Frame.body (.answer { source := 14, spare1 := 0, origin := 12, spare2 := 0, point := 0, check := 0 })
        = [0x8E, 0x0C, 0x00] := by decide
    rw [Frame.bytes, sealed_body, sealed_check, hbody, crc_example]
    rfl

/-! ### Bytes (R173) -/

theorem header_fields (k : BitVec 2) (n : Station) :
    (headerByte k n).extractLsb' 6 2 = k ∧ (headerByte k n).extractLsb' 0 6 = n :=
  ⟨BitVec.extractLsb'_append_eq_left, BitVec.extractLsb'_append_eq_right⟩

/-- The fields of a byte of two codes and four marks. -/
theorem marks_fields : ∀ (a b : BitVec 2) (c d e f : Bool),
    let x : Byte := a ++ b ++ BitVec.ofBool c ++ BitVec.ofBool d ++ BitVec.ofBool e ++ BitVec.ofBool f
    x.extractLsb' 6 2 = a ∧ x.extractLsb' 4 2 = b ∧ x.getLsbD 3 = c ∧ x.getLsbD 2 = d ∧ x.getLsbD 1 = e ∧ x.getLsbD 0 = f := by
  decide

/-- The fields of a CALL's second byte. -/
theorem notice_fields : ∀ (a b : BitVec 2) (c : BitVec 4),
    let x : Byte := a ++ b ++ c
    x.extractLsb' 6 2 = a ∧ x.extractLsb' 4 2 = b ∧ x.extractLsb' 0 4 = c := by
  decide

theorem statusOfBytes_fields (f : StatusFrame) :
    statusOfBytes f.urgent f.source (f.fire ++ f.guard ++ BitVec.ofBool f.intrusion ++ BitVec.ofBool f.round
      ++ BitVec.ofBool f.evacuation ++ BitVec.ofBool f.trouble) f.epoch f.cost (f.mode ++ f.via) (f.doors[0] ++ f.doors[1])
      (f.doors[2] ++ f.doors[3]) f.check = f := by
  obtain ⟨h1, h2, h3, h4, h5, h6⟩ := marks_fields f.fire f.guard f.intrusion f.round f.evacuation f.trouble
  have hd : #v[f.doors[0], f.doors[1], f.doors[2], f.doors[3]] = f.doors := by
    ext i hi
    interval_cases i <;> rfl
  unfold statusOfBytes
  rw [h1, h2, h3, h4, h5, h6, BitVec.extractLsb'_append_eq_left, BitVec.extractLsb'_append_eq_right,
    BitVec.extractLsb'_append_eq_left, BitVec.extractLsb'_append_eq_right, BitVec.extractLsb'_append_eq_left,
    BitVec.extractLsb'_append_eq_right, hd]

theorem callOfBytes_fields (f : CallFrame) :
    callOfBytes f.source (f.point ++ f.state ++ f.level) (f.spare ++ f.answerer) f.check = f := by
  obtain ⟨h1, h2, h3⟩ := notice_fields f.point f.state f.level
  unfold callOfBytes
  rw [h1, h2, h3, BitVec.extractLsb'_append_eq_left, BitVec.extractLsb'_append_eq_right]

theorem answerOfBytes_fields (f : AnswerFrame) :
    answerOfBytes f.source (f.spare1 ++ f.origin) (f.spare2 ++ f.point) f.check = f := by
  unfold answerOfBytes
  rw [BitVec.extractLsb'_append_eq_left, BitVec.extractLsb'_append_eq_right, BitVec.extractLsb'_append_eq_left,
    BitVec.extractLsb'_append_eq_right]

/-- R173: a frame is read back from its bytes, its kind from the header. -/
theorem ofBytes_bytes (fr : Frame) : Frame.ofBytes fr.bytes = some fr := by
  obtain ⟨hk, hs⟩ := header_fields fr.kindCode fr.source
  unfold Frame.bytes Frame.body
  cases fr with
  | status f =>
    simp only [List.cons_append, List.nil_append, Frame.ofBytes, hk, hs]
    have hf : statusOfBytes f.urgent f.source _ _ _ _ _ _ _ = f := statusOfBytes_fields f
    cases hu : f.urgent <;> rw [hu] at hf <;> simp only [Frame.kindCode, hu] <;>
      exact congrArg (fun x => some (Frame.status x)) hf
  | call f =>
    simp only [List.cons_append, List.nil_append, Frame.ofBytes, hk, hs]
    exact congrArg (fun x => some (Frame.call x)) (callOfBytes_fields f)
  | answer f =>
    simp only [List.cons_append, List.nil_append, Frame.ofBytes, hk, hs]
    exact congrArg (fun x => some (Frame.answer x)) (answerOfBytes_fields f)

/-! ### Bits (R159, R167) -/

theorem byteOfBits_byteBits : ∀ b : Byte, byteOfBits (byteBits b) = b := by decide

/-- R159: one byte and its separator are read off the front. -/
theorem readBytes_byte (n : Nat) (b : Byte) (r : List Bool) :
    readBytes (n + 1) (byteBits b ++ true :: r) = (readBytes n r).map (b :: ·) := by
  have hlen : (byteBits b).length = 8 := rfl
  have hsep : (byteBits b ++ (true :: r ++ List.replicate 9 true)).getD 8 true = true := by
    simp [List.getD, hlen]
  have htake : (byteBits b ++ (true :: r ++ List.replicate 9 true)).take 8 = byteBits b := List.take_left' hlen
  have hdrop : (byteBits b ++ true :: r).drop 9 = r := by
    rw [List.append_cons]
    exact List.drop_left' (by simp [hlen])
  rw [readBytes, List.append_assoc, if_pos hsep, htake, hdrop, byteOfBits_byteBits]

/-- R167: whatever follows on the bus, the bytes of a frame are read back. -/
theorem readBytes_bits (l : List Byte) (rest : List Bool) :
    readBytes l.length ((l.flatMap fun b => byteBits b ++ [true]) ++ rest) = some l := by
  induction l with
  | nil => rfl
  | cons b l ih =>
    rw [List.flatMap_cons, List.append_assoc, List.append_assoc, List.singleton_append, List.length_cons, readBytes_byte, ih]
    rfl

/-- R173: the two bits of the kind stand at the top of the header. -/
theorem header_bits (k : BitVec 2) (n : Station) :
    (headerByte k n).getLsbD 7 = k.getLsbD 1 ∧ (headerByte k n).getLsbD 6 = k.getLsbD 0 := by
  constructor <;> exact BitVec.getLsbD_append

/-- R167: the first two bits on the bus say how many bytes follow. -/
theorem frameLength_wire (fr : Frame) (rest : List Bool) :
    frameLength ((fr.bytes.flatMap fun b => byteBits b ++ [true]) ++ rest) = fr.bytes.length := by
  have hbits : frameLength ((fr.bytes.flatMap fun b => byteBits b ++ [true]) ++ rest)
      = if (headerByte fr.kindCode fr.source).getLsbD 7 == (headerByte fr.kindCode fr.source).getLsbD 6 then 8 else 4 := rfl
  rw [hbits, (header_bits _ _).1, (header_bits _ _).2]
  cases fr with
  | status f => cases hu : f.urgent <;> simp [Frame.kindCode, hu, Frame.bytes, Frame.body]
  | call f => simp [Frame.kindCode, Frame.bytes, Frame.body]
  | answer f => simp [Frame.kindCode, Frame.bytes, Frame.body]

theorem ofBits_wire (fr : Frame) (rest : List Bool) : Frame.ofBits (fr.wire.drop 1 ++ rest) = some fr := by
  show Frame.ofBits ((fr.bytes.flatMap fun b => byteBits b ++ [true]) ++ rest) = some fr
  rw [Frame.ofBits, frameLength_wire, readBytes_bits]
  exact ofBytes_bytes fr

/-- Settles O45: bytes and bits by their fields and positions; a sealed frame carries the check byte of its own body. -/
theorem framesSurviveTheWire : Obligations.FramesSurviveTheWire := by
  intro fr
  have hbits := ofBits_wire fr []
  rw [List.append_nil] at hbits
  exact ⟨ofBytes_bytes fr, hbits, fun n => ofBits_wire fr _, by simp [Frame.checkOk, sealed_body, sealed_check]⟩

end Sys2Proof.Proofs.Wire
end

section
/-! The reset conditions and the releases that end them (R178, R179, R181). -/

namespace Sys2Proof.Proofs.ResetUnit

open Sys2Proof Sys2Proof.Machine Sys2Proof.Proofs.PartFrames Sys2Proof.Proofs.Steps

/-- Two states with the same parts are one state: the form in which a frame statement is reduced to the operations' frame lemmas. -/
theorem state_eq {s t : State} (h : t.clock = s.clock ∧ t.pins = s.pins ∧ t.timers = s.timers ∧ t.modes = s.modes
    ∧ t.fire = s.fire ∧ t.watch = s.watch ∧ t.doors = s.doors ∧ t.calls = s.calls ∧ t.table = s.table ∧ t.egress = s.egress
    ∧ t.light = s.light ∧ t.link = s.link ∧ t.start = s.start ∧ t.troubles = s.troubles ∧ t.buzzer = s.buzzer
    ∧ t.keys = s.keys ∧ t.raised = s.raised ∧ t.order = s.order ∧ t.pending = s.pending) : t = s := by
  cases s
  cases t
  simpa using h

theorem live_iff (s : State) : s.live = true ↔ s.start.condition = .none := by
  simp [State.live]

/-! ### Channels stopped -/

theorem hold_channel (s : State) (c : Chan) : s.hold.channel c = (s.channel c).stop := by
  simp [State.hold, State.channel]

theorem hold_start (s : State) : s.hold.start = { s.start with condition := .held, request := .none } := rfl

theorem releaseWarm_channel (s : State) (c : Chan) : s.releaseWarm.channel c = (s.channel c).stop := by
  rw [releaseWarm_eq]
  simp [State.channel, heldOver]

/-! ### The end of a frame under a request (R178) -/

theorem afterFrame_held (s u : State) (hs : s.link.sending.isSome = true) (hu : u.link.sending = none)
    (hr : u.start.request = .hold) : s.afterFrame u = u.hold := by
  simp [State.afterFrame, State.frameOver, hs, hu, hr]

theorem afterFrame_released (s u : State) (hs : s.link.sending.isSome = true) (hu : u.link.sending = none)
    (hr : u.start.request = .warm) : s.afterFrame u = u.hold.releaseWarm := by
  simp [State.afterFrame, State.frameOver, hs, hu, hr]

theorem frameSent_ends (s : State) : s.frameSent.link.sending = none := by
  unfold State.frameSent
  split
  · assumption
  · dsimp only
    split <;> simp

theorem frameSent_faults (s : State) (h : s.link.sending.isSome = true) : s.frameSent.link.faults = 0 := by
  obtain ⟨f, hf⟩ := Option.isSome_iff_exists.mp h
  simp only [State.frameSent, hf]
  split <;> simp

theorem setPending_sending (l : LinkUnit) (slot : Slot) (b : Bool) (o : Option CallId) :
    (l.setPending slot b o).sending = l.sending := by
  cases slot <;> rfl

theorem frameFailed_ends (s : State) (f : Sending) (v : BusView) : (s.frameFailed f v).link.sending = none := by
  unfold State.frameFailed
  dsimp only
  (repeat' split) <;> simp [setPending_sending]

theorem loseArbitration_lost {s : State} {f : Sending} {b : Fin 8} (hf : s.link.sending = some f) (hb : f.mayLose b = true) :
    s.loseArbitration b = s.frameFailed f .following := by
  simp [State.loseArbitration, hf, hb]

theorem transmitFault_ends {s : State} {f : Sending} {b : Nat} (hf : s.link.sending = some f) (hb : f.mayFault b = true) :
    (s.transmitFault b).link.sending = none := by
  have hend := frameFailed_ends s f (viewAtFault b)
  simp only [State.transmitFault, hf, hb, if_true]
  split
  · exact hend
  · simpa [State.enterQuiet] using hend

/-! ### The warm restart, unit by unit -/

@[simp] theorem releaseWarm_start (s : State) : s.releaseWarm.start = { s.start with
    phase := .configRead, kind := .warm, condition := .none, freeze := !(s.fire.state == .fire), attempts := 0, request := .none } := by
  rw [releaseWarm_eq]
  simp [heldOver]

@[simp] theorem releaseWarm_link (s : State) : s.releaseWarm.link.status = false ∧ s.releaseWarm.link.offer = none
    ∧ s.releaseWarm.link.sending = none ∧ s.releaseWarm.link.faults = 0 ∧ s.releaseWarm.link.quiet = false
    ∧ s.releaseWarm.link.discards = 0 := by
  have hstatus : ∀ t : State, t.relevelAll.link.status = t.link.status := fun t =>
    deliver_keeps (·.link.status) (fun _ _ => rfl) _ (fun f hf u => by
      obtain ⟨p, -, rfl⟩ := List.mem_map.1 hf
      simp) t
  rw [releaseWarm_eq]
  simp [heldOver, LinkUnit.initial, hstatus]

@[simp] theorem releaseWarm_units (s : State) : s.releaseWarm.clock = s.clock ∧ s.releaseWarm.modes = (heldOver s).modes
    ∧ s.releaseWarm.fire = (heldOver s).fire ∧ s.releaseWarm.watch = (heldOver s).watch
    ∧ s.releaseWarm.doors = (heldOver s).doors ∧ s.releaseWarm.table = (heldOver s).table
    ∧ s.releaseWarm.egress = (heldOver s).egress ∧ s.releaseWarm.troubles = (heldOver s).troubles
    ∧ s.releaseWarm.keys = .released ∧ s.releaseWarm.raised = [] ∧ s.releaseWarm.pending = s.pending := by
  rw [releaseWarm_eq]
  simp
  simp [heldOver]

/-- Settles O6: at once, at the end of a frame, or as a warm restart at that end. -/
theorem heldResetKeepsTheStation : Obligations.HeldResetKeepsTheStation := by
  have stopped : ∀ (u : State) (c : Chan), (u.hold.channel c).running = false ∧ (u.hold.channel c).waiting = [] := by
    intro u c
    rw [hold_channel]
    exact ⟨rfl, rfl⟩
  refine ⟨fun s hl hn => ?_, fun s hl hn => ?_, fun s hc => ?_, fun s hl hr hn => ?_, fun s f b hl hr hf hb => ?_,
    fun s f b hl hr hf hb => ?_, fun s hc hr => ?_, fun s hl hr hn => ?_, fun s f b hl hr hf hb => ?_,
    fun s f b hl hr hf hb => ?_⟩
  · have hc := (live_iff s).mp hl
    refine ⟨{ s with pins := { s.pins with reset := true, holdHigh := true } }.hold, ?_, rfl, fun c _ => ?_⟩
    · simp [exec, execResetAsserted, State.assertReset, hc, hn]
    · rw [hold_channel]
      exact ⟨rfl, rfl, rfl⟩
  · have hc := (live_iff s).mp hl
    refine ⟨_, ?_, rfl⟩
    simp [exec, execResetAsserted, State.assertReset, hc, hn]
  · exact ⟨s, by simp [exec, execResetAsserted, State.assertReset, hc], rfl⟩
  · refine ⟨s.frameSent.hold, ?_, by simp [hold_start], frameSent_ends s, frameSent_faults s hn, fun c _ => stopped _ c, ?_⟩
    · simp only [exec, execFrameSent, hl, if_true]
      rw [afterFrame_held s _ hn (frameSent_ends s) (by simpa using hr)]
    · exact state_eq (by simp [State.hold])
  · refine ⟨(s.loseArbitration b).hold, ?_, by simp [hold_start], ?_, fun c _ => stopped _ c, state_eq (by simp [State.hold])⟩
    · simp only [exec, execLostArbitration, hl, if_true]
      rw [afterFrame_held s _ (by simp [hf]) (by rw [loseArbitration_lost hf hb, frameFailed_ends]) (by simpa using hr)]
    · rw [loseArbitration_lost hf hb]
      exact frameFailed_ends s f _
  · refine ⟨(s.transmitFault b).hold, ?_, by simp [hold_start], transmitFault_ends hf hb, fun c _ => stopped _ c,
      state_eq (by simp [State.hold])⟩
    simp only [exec, execTransmitFault, hl, if_true]
    rw [afterFrame_held s _ (by simp [hf]) (transmitFault_ends hf hb) (by simpa using hr)]
  · exact ⟨_, by simp [exec, execWarmRestart, State.warmReleases, hc, hr], rfl⟩
  · refine ⟨s.frameSent.hold.releaseWarm, ?_, by simp [heldOver, State.hold]⟩
    simp only [exec, execFrameSent, hl, if_true]
    rw [afterFrame_released s _ hn (frameSent_ends s) (by simpa using hr)]
  · refine ⟨(s.loseArbitration b).hold.releaseWarm, ?_, by simp [heldOver, State.hold]⟩
    simp only [exec, execLostArbitration, hl, if_true]
    rw [afterFrame_released s _ (by simp [hf]) (by rw [loseArbitration_lost hf hb, frameFailed_ends]) (by simpa using hr)]
  · refine ⟨(s.transmitFault b).hold.releaseWarm, ?_, by simp [heldOver, State.hold]⟩
    simp only [exec, execTransmitFault, hl, if_true]
    rw [afterFrame_released s _ (by simp [hf]) (transmitFault_ends hf hb) (by simpa using hr)]

/-- Settles O7, by whether the release begins a cold start. -/
theorem coldStartReadsTheModeKey : Obligations.ColdStartReadsTheModeKey := by
  refine ⟨fun s k1 k2 k3 h => ⟨s.releaseCold k1 k2 k3, ?_, ?_, rfl, rfl, rfl⟩, fun s k1 k2 k3 h => ⟨s, ?_, rfl⟩⟩
  · have hr : s.coldReleases = true := by
      rcases h with h | ⟨h, hk⟩
      · simp [State.coldReleases, h]
      · simp [State.coldReleases, h, hk]
    simp only [exec, execColdStart, hr, if_true]
  · rfl
  · have hr : s.coldReleases = false := by
      rcases h with h | ⟨h, hk⟩
      · simp [State.coldReleases, h]
      · simp [State.coldReleases, h, hk]
    simp [exec, execColdStart, hr]

/-! ### Calls and lighting over a warm restart -/

/-- R107: every entry of the list is local. -/
def AllLocal (s : State) : Prop := ∀ e ∈ s.calls.list, e.isLocal = true

theorem placeEntry_allLocal {e : CallEntry} {l : List CallEntry} (he : e.isLocal = true) (hl : ∀ x ∈ l, x.isLocal = true) :
    ∀ x ∈ placeEntry e l, x.isLocal = true := by
  intro x hx
  rcases (mem_placeEntry e x l).1 hx with rfl | hx
  · exact he
  · exact hl x hx

/-- R96: an entry that moves keeps its locality. -/
theorem relevelEntry_allLocal {l : List CallEntry} (hl : ∀ x ∈ l, x.isLocal = true) (id : CallId) (n : Nat) :
    ∀ x ∈ relevelEntry id n l, x.isLocal = true := by
  unfold relevelEntry
  split
  next => exact hl
  next e hf =>
    split
    · exact hl
    · exact placeEntry_allLocal (hl e (List.mem_of_find?_eq_some hf)) fun x hx => hl x (List.mem_of_mem_filter hx)

theorem allLocal_kept : CallReach.CallsKept AllLocal where
  same h hc _ := by
    unfold AllLocal
    rwa [hc]
  relevel s p h := by
    unfold State.relevel
    dsimp only
    split
    · exact h
    · exact relevelEntry_allLocal h _ _

theorem rebuildList_allLocal (s : State) : AllLocal s.rebuildList := by
  have hfold : ∀ (ps : List (Fin 4)) (l : List CallEntry), (∀ x ∈ l, x.isLocal = true) →
      ∀ x ∈ ps.foldl (fun l p => placeEntry (s.localEntry p) l) l, x.isLocal = true := by
    intro ps
    induction ps with
    | nil => exact fun _ h => h
    | cons p ps ih => exact fun l h => ih _ (placeEntry_allLocal rfl h)
  exact hfold _ _ (by simp)

theorem releaseWarm_allLocal (s : State) : AllLocal s.releaseWarm := by
  rw [releaseWarm_eq]
  exact allLocal_kept.same (allLocal_kept.relevelAll _ (rebuildList_allLocal (heldOver s))) (by simp) (by simp)

/-- R107: the held calls are computed again, which lowers no level. -/
theorem releaseWarm_point (s : State) (p : Fin 4) :
    s.releaseWarm.point p = { (s.point p).heldOver with level := (s.releaseWarm.point p).level }
      ∧ (s.point p).level ≤ (s.releaseWarm.point p).level := by
  have hp : s.releaseWarm.point p = (heldOver s).rebuildList.relevelAll.point p := point_congr (by simp [releaseWarm_eq]) p
  have h := (heldOver s).rebuildList.relevelAll_point p
  rw [rebuildList_point, heldOver_point] at h
  rw [hp]
  exact h

/-- R147: frozen lighting outputs are kept over a warm restart. -/
theorem refreshLights_frozen (s : State) (hz : s.start.freeze = true) (hf : s.forced = false) : s.refreshLights = s := by
  simp [State.refreshLights, hz, hf]

theorem releaseWarm_light (s : State) :
    s.releaseWarm.light.stack = baseScene s.modes.mode :: ((if s.watch.intrusion then [Scene.intrusion] else [])
        ++ (if s.fire.state == .fire then [Scene.evacuate] else []))
      ∧ (s.releaseWarm.start.freeze = true → s.releaseWarm.forced = false → s.releaseWarm.light.out = s.light.out) := by
  rw [releaseWarm_eq]
  refine ⟨by simp [LightUnit.stack, heldOver], fun hz hf => ?_⟩
  rw [refreshLights_frozen]
  · simp [heldOver]
  · simpa using hz
  · simpa [State.forced] using hf

/-- Settles O8: the parts of the held state, and the command without a held reset. -/
theorem warmRestartHoldsTheGalleryAndForgetsTheBuilding : Obligations.WarmRestartHoldsTheGalleryAndForgetsTheBuilding := by
  refine ⟨fun s hc hk => ⟨s.releaseWarm, ?_, ?_⟩, fun s hc hr => ⟨s, ?_, rfl⟩⟩
  · simp [exec, execWarmRestart, State.warmReleases, hc, hk]
  · obtain ⟨hstack, hout⟩ := releaseWarm_light s
    have hfire : s.releaseWarm.fire.evac = (s.fire.state == .fire) := by simp [heldOver]
    have hpoint : ∀ p : Fin 4, (s.releaseWarm.point p).state = (s.point p).state ∧ (s.releaseWarm.point p).late = (s.point p).late
        ∧ (s.releaseWarm.point p).answerer = (s.point p).answerer
        ∧ (s.releaseWarm.point p).hurry = ((s.point p).state == .waiting && (s.point p).late)
        ∧ (s.point p).level ≤ (s.releaseWarm.point p).level := by
      intro p
      obtain ⟨hp, hlevel⟩ := releaseWarm_point s p
      rw [hp]
      exact ⟨rfl, rfl, rfl, rfl, hlevel⟩
    have hdoor : ∀ d : Fin 4, s.releaseWarm.door d = (s.door d).held := fun d => by
      rw [← heldOver_door]
      exact door_congr (s := heldOver s) (by simp) d
    have hstop : ∀ c ∈ Chan.all, (s.releaseWarm.channel c).running = false ∧ (s.releaseWarm.channel c).waiting = [] := by
      intro c _
      rw [releaseWarm_channel]
      exact ⟨rfl, rfl⟩
    rw [hfire]
    refine ⟨by simp, by simp [heldOver], by simp [heldOver], by simp [heldOver], by simp [heldOver], by simp [heldOver], rfl,
      by simp [heldOver], by simp [heldOver], by simp [heldOver], by simp [heldOver], by simp [heldOver], by simp [heldOver],
      by simp [heldOver], hdoor, by simp [heldOver], hpoint, releaseWarm_allLocal s, by simp [heldOver], by simp [heldOver],
      by simp [heldOver], by simp, by simp, by simp, by simp, by simp, by simp, hstack, hout, by simp [heldOver], by simp, by simp,
      hstop, by simp, by simp⟩
  · simp [exec, execWarmRestart, State.warmReleases, hc, hr]

end Sys2Proof.Proofs.ResetUnit
end

section
/-! The configuration image (R175, R177) and the neighbour entries it gives (R110). -/

namespace Sys2Proof.Proofs.ConfigImage

open Sys2Proof Sys2Proof.Machine

/-! ### Numeric fields -/

theorem clampNearer_eq {lo hi : Nat} (h : lo ≤ hi) (v : Nat) : clampNearer lo hi v = max lo (min hi v) := by
  unfold clampNearer
  split_ifs <;> omega

theorem clampLow_eq (lo v : Nat) : clampLow lo v = max lo v := by
  unfold clampLow
  split_ifs <;> omega

theorem byteAt_le (l : List Byte) (a : Nat) : byteAt l a ≤ 255 := by
  have := (l.getD a 0).isLt
  unfold byteAt
  omega

theorem bitsAt_lt (l : List Byte) (a lo width : Nat) : bitsAt l a lo width < 2 ^ width :=
  Nat.mod_lt _ (Nat.two_pow_pos width)

/-! ### Kinds -/

theorem loopKindOf_iff (v : Nat) : (loopKindOf v = .smoke ↔ v = 1) ∧ (loopKindOf v = .heat ↔ v = 2)
    ∧ (loopKindOf v = .manual ↔ v = 3) := by
  unfold loopKindOf
  split <;> simp_all

theorem watchKindOf_iff (v : Nat) : (watchKindOf v = .showcase ↔ v = 1) ∧ (watchKindOf v = .motion ↔ v = 2)
    ∧ (watchKindOf v = .beam ↔ v = 3) ∧ (watchKindOf v = .tamper ↔ v = 4) := by
  unfold watchKindOf
  split <;> simp_all

/-! ### Door descriptors -/

/-- A six-bit field as a station number. -/
theorem ofNat_eq_iff {m n : Nat} (hm : m < 64) (hn : n < 64) : BitVec.ofNat 6 m = BitVec.ofNat 6 n ↔ m = n := by
  constructor
  · intro h
    simpa [Nat.mod_eq_of_lt hm, Nat.mod_eq_of_lt hn] using congrArg BitVec.toNat h
  · rintro rfl
    rfl

/-- R57: the neighbour that makes an INTERIOR door, on the numbers as stored. -/
theorem neighbour_iff (l : List Byte) (d : Fin 4) :
    (BitVec.ofNat 6 (bitsAt l (2 + 2 * d.val) 0 6) ≠ 0 ∧ BitVec.ofNat 6 (bitsAt l (2 + 2 * d.val) 0 6) ≠ 63
      ∧ BitVec.ofNat 6 (bitsAt l (2 + 2 * d.val) 0 6) ≠ BitVec.ofNat 6 (bitsAt l 0 0 6))
    ↔ bitsAt l (2 + 2 * d.val) 0 6 ≠ 0 ∧ bitsAt l (2 + 2 * d.val) 0 6 ≠ 63 ∧ bitsAt l (2 + 2 * d.val) 0 6 ≠ bitsAt l 0 0 6 := by
  have hn : bitsAt l (2 + 2 * d.val) 0 6 < 64 := bitsAt_lt l _ 0 6
  have h0 := ofNat_eq_iff hn (show 0 < 64 by decide)
  have h63 := ofNat_eq_iff hn (show 63 < 64 by decide)
  have ho := ofNat_eq_iff hn (bitsAt_lt l 0 0 6)
  exact and_congr (not_congr h0) (and_congr (not_congr h63) (not_congr ho))

/-- R57, R175: the three kinds of descriptor. -/
theorem doorDescOf_fields (l : List Byte) (d : Fin 4) :
    let desc := doorDescOf (BitVec.ofNat 6 (bitsAt l 0 0 6)) l d
    (desc.kind = .exit ↔ bitsAt l (1 + 2 * d.val) 6 2 = 2)
      ∧ (desc.kind = .interior ↔ bitsAt l (1 + 2 * d.val) 6 2 = 1 ∧ bitsAt l (2 + 2 * d.val) 0 6 ≠ 0
          ∧ bitsAt l (2 + 2 * d.val) 0 6 ≠ 63 ∧ bitsAt l (2 + 2 * d.val) 0 6 ≠ bitsAt l 0 0 6)
      ∧ (desc.kind = .exit → desc.owned = true ∧ (desc.magnet = true ↔ bitsAt l (1 + 2 * d.val) 4 1 = 1))
      ∧ (desc.kind = .interior → desc.neighbour.toNat = bitsAt l (2 + 2 * d.val) 0 6
          ∧ desc.nbDoor.val = bitsAt l (2 + 2 * d.val) 6 2
          ∧ (desc.owned = true ↔ bitsAt l (1 + 2 * d.val) 5 1 = 1)
          ∧ (desc.magnet = true ↔ bitsAt l (1 + 2 * d.val) 5 1 = 1 ∧ bitsAt l (1 + 2 * d.val) 4 1 = 1))
      ∧ (desc.kind ≠ .blank → desc.weight = max 1 (bitsAt l (1 + 2 * d.val) 0 4)) := by
  have hn : bitsAt l (2 + 2 * d.val) 0 6 < 64 := bitsAt_lt l _ 0 6
  have hw : (if bitsAt l (1 + 2 * d.val) 0 4 = 0 then 1 else bitsAt l (1 + 2 * d.val) 0 4)
      = max 1 (bitsAt l (1 + 2 * d.val) 0 4) := by
    split_ifs <;> omega
  rw [← neighbour_iff]
  unfold doorDescOf
  dsimp only
  rw [hw]
  split_ifs with hk hi
  · simp [hk]
  · simp only [ne_eq] at hi
    simp [hi, hn]
    exact ⟨hi.2.1, hi.2.2.1⟩
  · simp [hk, DoorDesc.none]
    exact fun h1 h2 h3 => not_not.mp fun h4 => hi ⟨h1, h2, h3, h4⟩

/-! ### Neighbours, each once -/

/-- R110: the distinct neighbours of the INTERIOR doors of a list. -/
def seen (ds : List DoorDesc) : List Station :=
  (ds.filter fun d => d.kind == .interior).foldl (fun l d => if d.neighbour ∈ l then l else l ++ [d.neighbour]) []

theorem neighboursOf_eq (doors : Vector DoorDesc 4) : neighboursOf doors = seen doors.toList := rfl

/-- The list names `n` at place `i` by an INTERIOR door. -/
def Names (ds : List DoorDesc) (i : Nat) (n : Station) : Prop := ∃ d, ds[i]? = some d ∧ d.kind = .interior ∧ d.neighbour = n

theorem seen_append (ds : List DoorDesc) (d : DoorDesc) : seen (ds ++ [d]) =
    if d.kind = .interior ∧ d.neighbour ∉ seen ds then seen ds ++ [d.neighbour] else seen ds := by
  unfold seen
  rw [List.filter_append, List.foldl_append]
  by_cases hk : d.kind = .interior
  · by_cases hm : d.neighbour ∈ (ds.filter fun d => d.kind == .interior).foldl
      (fun l d => if d.neighbour ∈ l then l else l ++ [d.neighbour]) [] <;> simp [hk, hm]
  · simp [hk]

theorem names_append (ds : List DoorDesc) (d : DoorDesc) (i : Nat) (n : Station) : Names (ds ++ [d]) i n ↔
    Names ds i n ∨ (i = ds.length ∧ d.kind = .interior ∧ d.neighbour = n) := by
  unfold Names
  rcases lt_trichotomy i ds.length with h | h | h
  · simp [List.getElem?_append_left h, h.ne]
  · subst h
    simp
  · rw [List.getElem?_append_right h.le, List.getElem?_eq_none h.le, List.getElem?_eq_none (by simp; omega)]
    simp [h.ne']

theorem Names.lt {ds : List DoorDesc} {i : Nat} {n : Station} (h : Names ds i n) : i < ds.length := by
  obtain ⟨d, hd, -⟩ := h
  exact (List.getElem?_eq_some_iff.mp hd).1

theorem mem_seen (ds : List DoorDesc) (n : Station) : n ∈ seen ds ↔ ∃ i, Names ds i n := by
  induction ds using List.reverseRecOn with
  | nil => simp [seen, Names]
  | append_singleton ds d ih =>
    simp only [seen_append, names_append, exists_or, ← ih]
    split_ifs with h
    · simp [h.1, eq_comm]
    · constructor
      · exact .inl
      · rintro (hn | ⟨-, -, hk, rfl⟩)
        · exact hn
        · exact not_not.mp fun hn => h ⟨hk, hn⟩

theorem seen_nodup (ds : List DoorDesc) : (seen ds).Nodup := by
  induction ds using List.reverseRecOn with
  | nil => simp [seen]
  | append_singleton ds d ih =>
    rw [seen_append]
    split_ifs with h
    · rw [← List.concat_eq_append, List.nodup_concat]
      exact ⟨h.2, ih⟩
    · exact ih

theorem seen_length (ds : List DoorDesc) : (seen ds).length ≤ ds.length := by
  induction ds using List.reverseRecOn with
  | nil => simp [seen]
  | append_singleton ds d ih =>
    rw [seen_append]
    split_ifs <;> simp <;> omega

/-- R110: an earlier neighbour is named before every door that names a later one. -/
theorem seen_ordered (ds : List DoorDesc) :
    (seen ds).Pairwise fun a b => ∀ i, Names ds i b → ∃ c < i, Names ds c a := by
  induction ds using List.reverseRecOn with
  | nil => simp [seen]
  | append_singleton ds d ih =>
    have hold : (seen ds).Pairwise fun a b => ∀ i, Names (ds ++ [d]) i b → ∃ c < i, Names (ds ++ [d]) c a := by
      refine ih.imp_of_mem fun {a b} ha _ hab i hi => ?_
      rcases (names_append ds d i b).mp hi with hi | ⟨rfl, -⟩
      · obtain ⟨c, hc, hn⟩ := hab i hi
        exact ⟨c, hc, (names_append ds d c a).mpr (.inl hn)⟩
      · obtain ⟨c, hn⟩ := (mem_seen ds a).mp ha
        exact ⟨c, hn.lt, (names_append ds d c a).mpr (.inl hn)⟩
    rw [seen_append]
    split_ifs with h
    · refine List.pairwise_append.mpr ⟨hold, List.pairwise_singleton _ _, fun a ha b hb i hi => ?_⟩
      obtain rfl := List.mem_singleton.mp hb
      rcases (names_append ds d i _).mp hi with hi | ⟨rfl, -⟩
      · exact absurd ((mem_seen ds _).mpr ⟨i, hi⟩) h.2
      · obtain ⟨c, hn⟩ := (mem_seen ds a).mp ha
        exact ⟨c, hn.lt, (names_append ds d c a).mpr (.inl hn)⟩
    · exact hold

theorem names_iff (doors : Vector DoorDesc 4) (n : Station) (d : Fin 4) :
    Names doors.toList d n ↔ doors[d].kind = .interior ∧ doors[d].neighbour = n := by
  have h : doors.toList[d.val]? = some doors[d] := by simp
  unfold Names
  rw [h]
  simp

/-- The places of a list of four doors are the doors. -/
theorem Names.fin {doors : Vector DoorDesc 4} {i : Nat} {n : Station} (h : Names doors.toList i n) : ∃ d : Fin 4, d.val = i :=
  ⟨⟨i, by simpa using h.lt⟩, rfl⟩

theorem entriesOf_get (doors : Vector DoorDesc 4) (k : Fin 4) :
    (entriesOf doors)[k] = ((seen doors.toList)[k.val]?).map NbEntry.unheard := by
  simp [entriesOf, neighboursOf_eq]

theorem entriesOf_some {doors : Vector DoorDesc 4} {k : Fin 4} {e : NbEntry} :
    (entriesOf doors)[k] = some e ↔ ∃ n, (seen doors.toList)[k.val]? = some n ∧ NbEntry.unheard n = e := by
  rw [entriesOf_get, Option.map_eq_some_iff]

/-- R110: each distinct neighbour has one entry, numbered by the lowest door that names it. -/
theorem entries_numbered (doors : Vector DoorDesc 4) :
    (∀ (k : Fin 4) (e : NbEntry), (entriesOf doors)[k] = some e → e = NbEntry.unheard e.station
      ∧ ∃ d : Fin 4, doors[d].kind = .interior ∧ doors[d].neighbour = e.station)
    ∧ (∀ d : Fin 4, doors[d].kind = .interior → ∃ k : Fin 4,
      (entriesOf doors)[k] = some (NbEntry.unheard doors[d].neighbour))
    ∧ (∀ (j k : Fin 4) (e f : NbEntry), (entriesOf doors)[j] = some e → (entriesOf doors)[k] = some f →
        e.station = f.station → j = k)
    ∧ (∀ j k : Fin 4, j < k → (entriesOf doors)[j] = none → (entriesOf doors)[k] = none)
    ∧ (∀ (j k : Fin 4) (e f : NbEntry), j < k → (entriesOf doors)[j] = some e → (entriesOf doors)[k] = some f →
        ∀ d : Fin 4, doors[d].kind = .interior → doors[d].neighbour = f.station →
          ∃ c : Fin 4, c < d ∧ doors[c].kind = .interior ∧ doors[c].neighbour = e.station) := by
  refine ⟨fun k e he => ?_, fun d hd => ?_, fun j k e f he hf hef => ?_, fun j k hjk hj => ?_, fun j k e f hjk he hf d hd hdf => ?_⟩
  · obtain ⟨n, hn, rfl⟩ := entriesOf_some.mp he
    obtain ⟨i, hi⟩ := (mem_seen _ n).mp (List.mem_of_getElem? hn)
    obtain ⟨d, rfl⟩ := hi.fin
    exact ⟨rfl, d, (names_iff doors n d).mp hi⟩
  · have hmem : doors[d].neighbour ∈ seen doors.toList := (mem_seen _ _).mpr ⟨d, (names_iff doors _ d).mpr ⟨hd, rfl⟩⟩
    obtain ⟨k, hk, hget⟩ := List.getElem_of_mem hmem
    have hlen : k < 4 := lt_of_lt_of_le hk (by simpa using seen_length doors.toList)
    exact ⟨⟨k, hlen⟩, entriesOf_some.mpr ⟨_, by rw [List.getElem?_eq_getElem hk, hget], rfl⟩⟩
  · obtain ⟨m, hm, rfl⟩ := entriesOf_some.mp he
    obtain ⟨n, hn, rfl⟩ := entriesOf_some.mp hf
    obtain rfl : m = n := hef
    obtain ⟨hj, hjm⟩ := List.getElem?_eq_some_iff.mp hm
    obtain ⟨hk, hkm⟩ := List.getElem?_eq_some_iff.mp hn
    exact Fin.ext ((seen_nodup _).getElem_inj_iff.mp (hjm.trans hkm.symm))
  · rw [entriesOf_get, Option.map_eq_none_iff, List.getElem?_eq_none_iff] at hj ⊢
    have : j.val < k.val := hjk
    omega
  · obtain ⟨m, hm, rfl⟩ := entriesOf_some.mp he
    obtain ⟨n, hn, rfl⟩ := entriesOf_some.mp hf
    obtain ⟨hj, rfl⟩ := List.getElem?_eq_some_iff.mp hm
    obtain ⟨hk, rfl⟩ := List.getElem?_eq_some_iff.mp hn
    obtain ⟨c, hc, hnames⟩ := List.pairwise_iff_getElem.mp (seen_ordered doors.toList) _ _ hj hk hjk d
      ((names_iff doors _ d).mpr ⟨hd, hdf⟩)
    obtain ⟨c, rfl⟩ := hnames.fin
    exact ⟨c, hc, (names_iff doors _ c).mp hnames⟩

/-- Settles O9: the fields of the image one by one, and the numbering of the neighbour entries. -/
theorem configurationValuesAreClamped : Obligations.ConfigurationValuesAreClamped := by
  refine ⟨fun l _ => ?_, entries_numbered⟩
  have h34 := byteAt_le l 34
  have hloop : ∀ i : Fin 6, (imageOf l).loops[i] = loopKindOf (byteAt l (9 + i.val)) := fun i => by simp [imageOf]
  have hwatch : ∀ i : Fin 8, (imageOf l).watch[i] = watchKindOf (byteAt l (15 + i.val)) := fun i => by simp [imageOf]
  have hdoor : ∀ d : Fin 4, (imageOf l).doors[d] = doorDescOf (BitVec.ofNat 6 (bitsAt l 0 0 6)) l d := fun d => by simp [imageOf]
  have hrefresh : (imageOf l).refresh = max 1 (min 8 (byteAt l 35)) := clampNearer_eq (by decide) _
  have hsilence : (imageOf l).silence = max (30 * (imageOf l).refresh) (byteAt l 34) := clampLow_eq _ _
  refine ⟨?_, clampNearer_eq (by decide) _, clampNearer_eq (by decide) _, clampNearer_eq (by decide) _, clampLow_eq _ _,
    clampLow_eq _ _, clampLow_eq _ _, clampLow_eq _ _, clampLow_eq _ _, clampLow_eq _ _, hrefresh, by omega, by omega,
    clampNearer_eq (by decide) _, clampNearer_eq (by decide) _, ?_, ?_, ?_, rfl, fun i => ?_, fun i => ?_, fun d => ?_⟩
  · simp only [imageOf]
    split_ifs <;> omega
  · simp only [imageOf]
    split_ifs <;> simp <;> omega
  · simp only [imageOf]
    split_ifs <;> simp <;> omega
  · simp [imageOf]
  · rw [hloop]
    exact loopKindOf_iff _
  · rw [hwatch]
    exact watchKindOf_iff _
  · rw [hdoor]
    exact doorDescOf_fields l d

end Sys2Proof.Proofs.ConfigImage
end

section
/-! The freeze flag never rises but at a warm restart: what the deliveries leave of the start unit. -/

namespace Sys2Proof.Proofs.StartFrame

open Sys2Proof Sys2Proof.Machine Sys2Proof.Proofs.PartFrames

/-- Two start units that differ at most in the freeze flag. -/
theorem start_eq {s t : State} (h : t.start.phase = s.start.phase ∧ t.start.kind = s.start.kind ∧ t.start.image = s.start.image
    ∧ t.start.condition = s.start.condition ∧ t.start.attempts = s.start.attempts ∧ t.start.request = s.start.request) :
    t.start = { s.start with freeze := t.start.freeze } := by
  obtain ⟨h1, h2, h3, h4, h5, h6⟩ := h
  cases ht : t.start
  simp_all

@[simp] theorem release_freeze (s : State) : s.release.start.freeze = false := by
  cases h : s.start.freeze with
  | false => rw [release_same h, h]
  | true =>
    rw [release_frozen h]
    simp

/-- Deliveries none of which sets the freeze flag leave it clear. -/
theorem deliver_freeze (fs : List (State → State)) (hf : ∀ f ∈ fs, ∀ t : State, t.start.freeze = false → (f t).start.freeze = false)
    (s : State) (h : s.start.freeze = false) : (deliver fs s).start.freeze = false :=
  deliver_induct (fun t => t.start.freeze = false) (fun _ _ h => h) fs hf s h

theorem recomputeEvac_freeze (s : State) (h : s.start.freeze = false) : s.recomputeEvac.start.freeze = false := by
  by_cases hd : s.evacDue = s.fire.evac
  · rwa [recomputeEvac_same hd]
  · have hf : (flagDelivered s).start.freeze = false := by
      refine deliver_freeze _ ?_ _ (by simpa using h)
      simp only [List.mem_cons, List.not_mem_nil, or_false]
      rintro f (rfl | rfl | rfl) t ht
      · simpa using ht
      · simpa using ht
      · unfold releaseInEvac
        split
        · exact release_freeze t
        · exact ht
    rw [recomputeEvac_changed hd]
    simpa using hf

theorem setFireState_freeze (s : State) (f : FireState) (h : s.start.freeze = false) : (s.setFireState f).start.freeze = false := by
  rcases setFireState_cases s f with ⟨-, he⟩ | ⟨-, -, -, he⟩ | ⟨-, -, he⟩ <;> rw [he]
  · exact h
  · exact h
  · exact recomputeEvac_freeze _ (by simpa using h)

theorem enterFire_freeze (s : State) (h : s.start.freeze = false) : s.enterFire.start.freeze = false := by
  unfold State.enterFire
  split
  · exact h
  · exact setFireState_freeze _ _ (by simpa using h)

theorem changeMode_freeze (s : State) (m : Mode) (h : s.start.freeze = false) : (s.changeMode m).start.freeze = false := by
  by_cases hm : s.modes.mode = m
  · rwa [← hm, changeMode_same]
  · have hd : (modeDelivered s m).start.freeze = false := by
      refine deliver_freeze _ ?_ _ h
      simp only [List.mem_cons, List.not_mem_nil, or_false]
      rintro f (rfl | rfl) t ht
      · simpa using ht
      · unfold State.fireModeChange
        split
        · exact enterFire_freeze t ht
        · exact ht
    rw [changeMode_changed hm]
    simpa using hd

end Sys2Proof.Proofs.StartFrame
end

section
/-! The read that ends without a good configuration (R176, R183). -/

namespace Sys2Proof.Proofs.Unconfigured

open Sys2Proof Sys2Proof.Machine Sys2Proof.Proofs.PartFrames Sys2Proof.Proofs.Steps Sys2Proof.Proofs.StartFrame

/-- R40: the units stripped, CONFIG entered and the held fire state settled. -/
def fireSettled (s : State) : State := (s.stripped.enterTrouble .config).unconfiguredFire

theorem enterUnconfigured_eq (s : State) :
    s.enterUnconfigured = (fireSettled s).recomputeEvac.unconfiguredGuard.refreshLights := rfl

/-- R40: what a held fire state becomes. -/
theorem unconfiguredFire_state (s : State) :
    s.unconfiguredFire.fire.state = if s.fire.state = .verify ∨ s.fire.state = .fire then .fire else .clear := by
  unfold State.unconfiguredFire
  cases h : s.fire.state <;> simp [h]

theorem unconfiguredFire_setup (s : State) : s.unconfiguredFire.start.phase = s.start.phase
    ∧ s.unconfiguredFire.start.kind = s.start.kind ∧ s.unconfiguredFire.start.image = s.start.image
    ∧ s.unconfiguredFire.start.condition = s.start.condition ∧ s.unconfiguredFire.start.attempts = s.start.attempts
    ∧ s.unconfiguredFire.start.request = s.start.request ∧ s.unconfiguredFire.link.offer = s.link.offer
    ∧ s.unconfiguredFire.fire.loops = s.fire.loops := by
  unfold State.unconfiguredFire
  split <;> simp

theorem unconfiguredFire_freeze (s : State) (h : s.start.freeze = false) : s.unconfiguredFire.start.freeze = false := by
  unfold State.unconfiguredFire
  split
  · exact enterFire_freeze s h
  · exact setFireState_freeze s _ h
  · exact h
  · exact h

theorem fireSettled_start (s : State) : (fireSettled s).start
    = { s.start with phase := .unconfigured, image := none, freeze := false, attempts := 0 } := by
  have hz : (fireSettled s).start.freeze = false := unconfiguredFire_freeze _ (by simp [State.stripped])
  rw [start_eq (s := s.stripped) (t := fireSettled s) (by simp [fireSettled, unconfiguredFire_setup]), hz]
  rfl

theorem enterUnconfigured_start (s : State) : s.enterUnconfigured.start
    = { s.start with phase := .unconfigured, image := none, freeze := false, attempts := 0 } := by
  have hz : (fireSettled s).recomputeEvac.start.freeze = false := recomputeEvac_freeze _ (by rw [fireSettled_start])
  have hs : (fireSettled s).recomputeEvac.start = (fireSettled s).start := by
    rw [start_eq (s := fireSettled s) (t := (fireSettled s).recomputeEvac) (by simp), hz, fireSettled_start]
  rw [enterUnconfigured_eq]
  simp only [State.refreshLights_keeps, State.unconfiguredGuard_keeps]
  rw [hs, fireSettled_start]

/-- R124: an uncomputed result is not computed again by any delivery. -/
theorem uncomputed_kept : EgressResult.LocksKept fun s => s.egress = .uncomputed where
  same h _ _ _ hg _ _ := hg.trans h
  driveLock s d h := by
    have hr : ∀ t : State, t.egress = .uncomputed → t.recomputeEgress = t := fun t ht => by
      simp [State.recomputeEgress, ht, EgressUnit.uncomputed]
    unfold State.driveLock
    dsimp only
    split
    · exact h
    · rw [hr _ (by simpa using h)]
      simpa using h

theorem enterUnconfigured_egress (s : State) : s.enterUnconfigured.egress = .uncomputed := by
  have h1 : (s.stripped.enterTrouble .config).egress = .uncomputed := by simp [State.stripped]
  have h2 : (fireSettled s).egress = .uncomputed := by
    unfold fireSettled State.unconfiguredFire
    split
    · exact uncomputed_kept.enterFire _ h1
    · exact uncomputed_kept.setFireState _ _ h1
    · exact h1
    · exact h1
  rw [enterUnconfigured_eq]
  simpa using uncomputed_kept.recomputeEvac _ h2

/-- R108: with every point IDLE nothing is put into the empty list. -/
theorem noCalls_kept : CallReach.CallsKept fun s => s.calls.list = [] ∧ ∀ p, s.point p = .idle where
  same h hc _ := by
    unfold State.point at h ⊢
    rwa [hc]
  relevel s p h := by
    have hi : s.relevel p = s := by simp [State.relevel, h.2 p, PointRec.isOpen, PointRec.idle]
    rwa [hi]

theorem enterUnconfigured_calls (s : State) : s.enterUnconfigured.calls.list = [] ∧ ∀ p, s.enterUnconfigured.point p = .idle :=
  noCalls_kept.enterUnconfigured s ⟨rfl, fun p => by simp [State.stripped, State.point]⟩

/-- R84: every door is BLANK, and by the rules of outputs and phases (`DoorDrive.Sound`) FREE, DROPPED and without a phase. -/
theorem enterUnconfigured_door (s : State) (d : Fin 4) : (s.enterUnconfigured.door d).desc.kind = .blank
    ∧ (s.enterUnconfigured.door d).lock = .free ∧ (s.enterUnconfigured.door d).hold = .dropped
    ∧ (s.enterUnconfigured.door d).phase = none := by
  have hfire : ∀ t : State, (t.unconfiguredFire.door d).desc = (t.door d).desc := by
    intro t
    unfold State.unconfiguredFire
    split <;> simp
  have hdesc : (s.enterUnconfigured.door d).desc = .none := by
    rw [enterUnconfigured_eq, door_congr (s := (fireSettled s).recomputeEvac) (by simp)]
    have h1 : ((s.stripped.enterTrouble .config).door d).desc = .none := by
      rw [door_congr (s := s.stripped) (by simp)]
      simp [State.stripped, State.door, DoorRec.afresh]
    rw [(recomputeEvac_site _ d).1, fireSettled, hfire, h1]
  have hfit := (DoorDrive.enterUnconfigured_sound (b := false) s).fit d
  have hown : (s.enterUnconfigured.door d).desc.isOwned = false := by simp [hdesc, DoorDesc.none, DoorDesc.isOwned]
  have hpos := hfit.unowned hown
  have hph := hfit.phase
  rw [hpos] at hph
  have hnone : (s.enterUnconfigured.door d).phase = none := by
    cases hp : (s.enterUnconfigured.door d).phase with
    | none => rfl
    | some ph => rw [hp] at hph; cases ph <;> cases hph
  exact ⟨by simp [hdesc, DoorDesc.none], (hfit.unread (.inl hown)).1, (hfit.unread (.inl hown)).2, hnone⟩

theorem enterUnconfigured_fire (s : State) :
    s.enterUnconfigured.fire.state = (if s.fire.state = .verify ∨ s.fire.state = .fire then .fire else .clear)
      ∧ s.enterUnconfigured.fire.evac = (s.enterUnconfigured.fire.state == .fire)
      ∧ (∀ l : Fin 6, s.enterUnconfigured.fire.loops[l].kind = .unused ∧ s.enterUnconfigured.fire.loops[l].band = .normal) := by
  have hevac := Evacuation.enterUnconfigured_sound s
  have hloops : s.enterUnconfigured.fire.loops = s.stripped.fire.loops := by
    rw [enterUnconfigured_eq]
    simp [fireSettled, unconfiguredFire_setup]
  refine ⟨?_, ?_, fun l => by rw [hloops]; simp [State.stripped]⟩
  · rw [enterUnconfigured_eq]
    simp [fireSettled, unconfiguredFire_state, State.stripped]
  · simpa [State.EvacuationSound, State.evacDue, Roster.enterUnconfigured_roster] using hevac

/-- R45, R56: after a cold start in NIGHT the guard state waits for the exit delay of UNCONFIGURED. -/
theorem enterUnconfigured_guard (s : State) (hk : s.start.kind = .cold) (hm : s.modes.mode = .night) :
    s.enterUnconfigured.watch.guard = .setting
      ∧ s.enterUnconfigured.channel .t18 = Channel.fresh 10 .s1 .oneShot 0 := by
  set t := (fireSettled s).recomputeEvac with ht
  have hstart : t.start.phase = .unconfigured ∧ t.start.kind = .cold ∧ t.start.image = none := by
    simp [ht, fireSettled_start, hk]
  have hmode : t.modes.mode = .night := by
    simp [ht, fireSettled, State.stripped, hm]
  have hguard : t.unconfiguredGuard = (t.setGuard .setting).startExitDelay := by
    simp [State.unconfiguredGuard, State.guardAtStart, hstart, hmode]
  have hcfg : (t.setGuard .setting).cfg.exitDelay = 10 := by simp [State.cfg, hstart, Image.unconfigured]
  rw [enterUnconfigured_eq, ← ht, hguard]
  refine ⟨by simp, ?_⟩
  have hch : ∀ u : State, u.refreshLights.channel .t18 = u.channel .t18 := fun u => by simp [State.channel]
  rw [hch, State.startExitDelay, State.startTimer_channel _ _ _ _ _ _ _ (by simp [hstart]), hcfg]
  rfl

theorem enterUnconfigured_held (s : State) : Trouble.config ∈ s.enterUnconfigured.troubles.record
    ∧ s.enterUnconfigured.light.out = Outputs.forced ∧ s.enterUnconfigured.modes.settled = false
    ∧ (∀ k : Fin 4, s.enterUnconfigured.table.entries[k] = none)
    ∧ (∀ i : Fin 8, s.enterUnconfigured.watch.inputs[i].kind = .unused ∧ s.enterUnconfigured.watch.inputs[i].band = .normal)
    ∧ s.enterUnconfigured.link.offer = none ∧ s.enterUnconfigured.watch.intrusion = s.watch.intrusion
    ∧ s.enterUnconfigured.watch.localLatch = s.watch.localLatch := by
  have hguard : ∀ t : State, t.unconfiguredGuard.watch.inputs = t.watch.inputs ∧ t.unconfiguredGuard.link.offer = t.link.offer
      ∧ t.unconfiguredGuard.watch.intrusion = t.watch.intrusion ∧ t.unconfiguredGuard.watch.localLatch = t.watch.localLatch := by
    intro t
    unfold State.unconfiguredGuard
    (repeat' split) <;> simp
  have hforced : ∀ t : State, t.start.phase = .unconfigured → t.refreshLights.light.out = Outputs.forced := fun t ht => by
    simp [State.refreshLights, State.forced, ht]
  have htrouble : Trouble.config ∈ (s.stripped.enterTrouble .config).troubles.record := (State.mem_enterTrouble _ _ _).2 (.inl rfl)
  rw [enterUnconfigured_eq]
  refine ⟨by simpa [fireSettled] using htrouble, hforced _ (by simp [fireSettled_start]), ?_⟩
  simp [fireSettled, hguard, unconfiguredFire_setup]
  simp [State.stripped]

theorem judgeRead_bytes {l : List Byte} (hl : l.length = 41) : (byteSum l ≠ 0 → judgeRead (.bytes l) = .failed)
    ∧ (byteSum l = 0 → bitsAt l 0 0 6 = 0 ∨ bitsAt l 0 0 6 = 63 → judgeRead (.bytes l) = .badNumber)
    ∧ (byteSum l = 0 → bitsAt l 0 0 6 ≠ 0 → bitsAt l 0 0 6 ≠ 63 → judgeRead (.bytes l) = .good (imageOf l)) := by
  refine ⟨fun h => ?_, fun h hn => ?_, fun h h0 h63 => ?_⟩
  · exact if_pos (.inr h)
  · simp [judgeRead, h, hl, hn]
  · simp [judgeRead, h, hl, h0, h63]

theorem readAttempt_ends {s : State} {r : ConfigTransfer} (hl : s.live = true) (hp : s.start.phase = .configRead)
    (h : (judgeRead r = .failed ∧ 2 ≤ s.start.attempts) ∨ judgeRead r = .badNumber) : s.readAttempt r = s.enterUnconfigured := by
  rcases h with ⟨hj, ha⟩ | hj
  · simp [State.readAttempt, hl, hp, hj, show ¬ s.start.attempts + 1 < 3 by omega]
  · simp [State.readAttempt, hl, hp, hj]

/-- Settles O10: the judgement, the counted attempts, the end in UNCONFIGURED. -/
theorem failedReadsEndUnconfigured : Obligations.FailedReadsEndUnconfigured := by
  refine ⟨⟨rfl, fun l hl => judgeRead_bytes hl⟩, fun s r hl hp hj ha => ⟨_, ?_, rfl⟩, fun s r hl hp h => ⟨s.enterUnconfigured, ?_, ?_⟩,
    fun s r h => ⟨s, ?_, rfl⟩⟩
  · simp [exec, execConfigReadAttempt, State.readAttempt, hl, hp, hj, show s.start.attempts + 1 < 3 by omega]
  · exact congrArg _ (readAttempt_ends hl hp h)
  · obtain ⟨hconfig, hout, hsettled, hentries, hinputs, hoffer, hint, hloc⟩ := enterUnconfigured_held s
    obtain ⟨hstate, hevac, hloops⟩ := enterUnconfigured_fire s
    obtain ⟨hlist, hpoints⟩ := enterUnconfigured_calls s
    exact ⟨enterUnconfigured_start s, hconfig, hout, hsettled, Roster.enterUnconfigured_roster s, hentries,
      enterUnconfigured_door s, hloops, hinputs, hpoints, hlist, enterUnconfigured_egress s, hoffer, hstate, hevac, hint, hloc,
      enterUnconfigured_guard s⟩
  · rcases h with h | h <;> simp [exec, execConfigReadAttempt, State.readAttempt, h]

end Sys2Proof.Proofs.Unconfigured
end

section
/-! The good read (R179, R181): the image taken, the held timings run from their full new durations (R158), the held troubles entered. -/

namespace Sys2Proof.Proofs.GoodRead

open Sys2Proof Sys2Proof.Machine Sys2Proof.Proofs.PartFrames Sys2Proof.Proofs.Steps Sys2Proof.Proofs.ResetUnit
open Sys2Proof.Proofs.Lighting Sys2Proof.Proofs.StartFrame

/-! ### Held timings (R158) -/

/-- R153: a one-shot channel of 1 s ticks, loaded and not yet running. -/
def loaded (n m : Nat) : Channel :=
  { reload := reloadOf n, count := reloadOf n, rate := .s1, kind := .oneShot, compare := m, running := false, waiting := [] }

theorem loaded_resume (n m : Nat) : (loaded n m).resume = Channel.fresh n .s1 .oneShot m := by
  unfold Channel.resume loaded Channel.fresh
  simp

theorem resume_resume (ch : Channel) : ch.resume.resume = ch.resume := by
  unfold Channel.resume
  cases h : ch.running <;> simp [h]

theorem presetTimer_channel (s : State) (c e : Chan) (n m : Nat) :
    (s.presetTimer c n .s1 .oneShot m).channel e = if c = e then loaded n m else s.channel e := by
  rw [State.presetTimer, State.setChannel_channel]
  rfl

theorem resumeTimer_channel (s : State) (c e : Chan) :
    (s.resumeTimer c).channel e = if c = e then (s.channel e).resume else s.channel e := by
  rw [State.resumeTimer, State.setChannel_channel]
  split
  next h => rw [h]
  next => rfl

/-- The channel of a timing that stands alone for it is loaded, whatever others are. -/
theorem presets_channel {l : List (Chan × Nat × Nat)} {c : Chan} {n m : Nat} (hmem : (c, n, m) ∈ l)
    (huniq : ∀ h ∈ l, h.1 = c → h = (c, n, m)) (s : State) :
    (l.foldl (fun t h => t.presetTimer h.1 h.2.1 .s1 .oneShot h.2.2) s).channel c = loaded n m := by
  induction l using List.reverseRecOn with
  | nil => cases hmem
  | append_singleton l h ih =>
    rw [List.foldl_append, List.foldl_cons, List.foldl_nil, presetTimer_channel]
    split
    next hc => rw [huniq h (by simp) hc]
    next hc =>
      refine ih ?_ fun k hk => huniq k (by simp [hk])
      rcases List.mem_append.mp hmem with hm | hm
      · exact hm
      · exact absurd (by rw [← List.mem_singleton.mp hm]) hc

theorem presets_other {l : List (Chan × Nat × Nat)} {c : Chan} (hno : ∀ h ∈ l, h.1 ≠ c) (s : State) :
    (l.foldl (fun t h => t.presetTimer h.1 h.2.1 .s1 .oneShot h.2.2) s).channel c = s.channel c := by
  induction l generalizing s with
  | nil => rfl
  | cons h l ih =>
    rw [List.foldl_cons, ih (fun k hk => hno k (by simp [hk])), presetTimer_channel, if_neg (hno h (by simp))]

theorem resumes_channel {l : List (Chan × Nat × Nat)} {c : Chan} (s : State) :
    (l.foldl (fun t h => t.resumeTimer h.1) s).channel c = if ∃ h ∈ l, h.1 = c then (s.channel c).resume else s.channel c := by
  induction l using List.reverseRecOn with
  | nil => simp
  | append_singleton l h ih =>
    rw [List.foldl_append, List.foldl_cons, List.foldl_nil, resumeTimer_channel, ih]
    by_cases hc : h.1 = c
    · have hl : ∃ k ∈ l ++ [h], k.1 = c := ⟨h, by simp, hc⟩
      rw [if_pos hc, if_pos hl]
      split <;> simp [resume_resume]
    · have hl : (∃ k ∈ l ++ [h], k.1 = c) ↔ ∃ k ∈ l, k.1 = c := by simp [or_and_right, exists_or, hc]
      rw [if_neg hc, if_congr hl rfl rfl]

/-- R158: which timings are held, by their channels. -/
theorem mem_heldTimings (s : State) (c : Chan) (n m : Nat) : (c, n, m) ∈ s.heldTimings ↔
    match c with
    | .t0 => s.fire.phase = .ackWindow ∧ n = s.cfg.ackWindow ∧ m = 0
    | .pair => s.fire.phase = .investigation ∧ n = s.cfg.investigation ∧ m = 0
    | .door d => ((s.door d).phase = some .closing ∧ n = s.cfg.travel ∧ m = 0)
        ∨ ((s.door d).phase ≠ some .closing ∧ s.ajarDue d = true ∧ (s.door d).desc.isOwned = true ∧ n = s.cfg.ajar
            ∧ m = s.cfg.ajar / 2)
    | .point p => ((s.point p).state = .waiting ∧ n = s.cfg.escalation ∧ m = s.cfg.escalation / 2)
        ∨ ((s.point p).state = .answered ∧ n = s.cfg.attend ∧ m = 0)
    | .t18 => s.watch.guard = .setting ∧ n = s.cfg.exitDelay ∧ m = 0
    | .silence _ | .t15 | .t16 | .t17 | .t19 | .t20 | .t21 => False := by
  have hphase : (c, n, m) ∈ (match s.fire.phase with
      | .ackWindow => [(Chan.t0, s.cfg.ackWindow, 0)]
      | .investigation => [(.pair, s.cfg.investigation, 0)]
      | .none => []) ↔ (c = .t0 ∧ s.fire.phase = .ackWindow ∧ n = s.cfg.ackWindow ∧ m = 0)
        ∨ (c = .pair ∧ s.fire.phase = .investigation ∧ n = s.cfg.investigation ∧ m = 0) := by
    cases s.fire.phase <;> simp
  have hdoor : (c, n, m) ∈ (List.finRange 4).flatMap (fun d =>
      if (s.door d).phase = some .closing then [(Chan.door d, s.cfg.travel, 0)]
      else if s.ajarDue d && (s.door d).desc.isOwned then [(.door d, s.cfg.ajar, s.cfg.ajar / 2)]
      else []) ↔ ∃ d, c = .door d ∧ (((s.door d).phase = some .closing ∧ n = s.cfg.travel ∧ m = 0)
        ∨ ((s.door d).phase ≠ some .closing ∧ s.ajarDue d = true ∧ (s.door d).desc.isOwned = true ∧ n = s.cfg.ajar
            ∧ m = s.cfg.ajar / 2)) := by
    simp only [List.mem_flatMap, List.mem_finRange, true_and]
    refine exists_congr fun d => ?_
    by_cases h1 : (s.door d).phase = some .closing
    · simp [h1]
    · by_cases h2 : (s.ajarDue d && (s.door d).desc.isOwned) = true
      · have h3 := h2
        rw [Bool.and_eq_true] at h3
        simp [h1, h3]
      · have h3 := h2
        rw [Bool.and_eq_true] at h3
        simp only [h1, h2, if_false]
        tauto
  have hpoint : (c, n, m) ∈ (List.finRange 4).flatMap (fun p =>
      match (s.point p).state with
      | .waiting => [(Chan.point p, s.cfg.escalation, s.cfg.escalation / 2)]
      | .answered => [(.point p, s.cfg.attend, 0)]
      | .idle => []) ↔ ∃ p, c = .point p ∧ (((s.point p).state = .waiting ∧ n = s.cfg.escalation ∧ m = s.cfg.escalation / 2)
        ∨ ((s.point p).state = .answered ∧ n = s.cfg.attend ∧ m = 0)) := by
    simp only [List.mem_flatMap, List.mem_finRange, true_and]
    refine exists_congr fun p => ?_
    cases (s.point p).state <;> simp
  have hguard : (c, n, m) ∈ (if s.watch.guard = .setting then [(Chan.t18, s.cfg.exitDelay, 0)] else [])
      ↔ c = .t18 ∧ s.watch.guard = .setting ∧ n = s.cfg.exitDelay ∧ m = 0 := by
    split <;> simp_all
  unfold State.heldTimings
  rw [List.mem_append, List.mem_append, List.mem_append]
  refine (or_congr (or_congr (or_congr hphase hdoor) hpoint) hguard).trans ?_
  cases c <;> simp

theorem heldTimings_unique (s : State) (c : Chan) {n m n' m' : Nat} (h : (c, n, m) ∈ s.heldTimings)
    (h' : (c, n', m') ∈ s.heldTimings) : n' = n ∧ m' = m := by
  rw [mem_heldTimings] at h h'
  cases c <;> simp at h h'
  case t0 | pair | t18 => omega
  case door d =>
    rcases h with h | h <;> rcases h' with h' | h' <;> simp_all
  case point p =>
    rcases h with h | h <;> rcases h' with h' | h' <;> simp_all

/-- What the held timings are made of: everything but the timers and the phase of the start unit. -/
theorem heldTimings_congr {s t : State} (hf : t.fire = s.fire) (hd : t.doors = s.doors) (hc : t.calls = s.calls)
    (hw : t.watch = s.watch) (hm : t.modes = s.modes) (ht : t.table = s.table) (hi : t.start.image = s.start.image) :
    t.heldTimings = s.heldTimings := by
  have hcfg : t.cfg = s.cfg := by simp only [State.cfg, hi]
  have hdoor : ∀ d, t.door d = s.door d := door_congr hd
  have hpoint : ∀ p, t.point p = s.point p := point_congr hc
  have hst : ∀ d slot, t.slotStands d slot = s.slotStands d slot := fun d slot => by
    cases slot <;> simp only [State.slotStands, State.neighbourIntrusion, State.entryFor, hf, hw, hd, ht, hdoor]
  have hajar : ∀ d, t.ajarDue d = s.ajarDue d := fun d => by
    simp only [State.ajarDue, State.lockPending, State.resolvedLock, State.wishes, State.slotLevel, hst, hcfg, hm, hdoor]
  simp only [State.heldTimings, hf, hcfg, hdoor, hpoint, hajar, hw]

/-- R158: presets, the periods and resumes in turn. -/
def timingsRun (u : State) : State := (u.presetHeld.setPhase .relearn).startPeriods.resumeHeld

@[simp] theorem startPeriods_more (s : State) : s.startPeriods.link = s.link ∧ s.startPeriods.watch = s.watch := by
  simp [State.startPeriods]

theorem timingsRun_keeps (u : State) : (timingsRun u).clock = u.clock ∧ (timingsRun u).pins = u.pins
    ∧ (timingsRun u).modes = u.modes ∧ (timingsRun u).fire = u.fire ∧ (timingsRun u).watch = u.watch
    ∧ (timingsRun u).doors = u.doors ∧ (timingsRun u).calls = u.calls ∧ (timingsRun u).table = u.table
    ∧ (timingsRun u).egress = u.egress ∧ (timingsRun u).light = u.light ∧ (timingsRun u).link = u.link
    ∧ (timingsRun u).start = { u.start with phase := .relearn } ∧ (timingsRun u).troubles = u.troubles
    ∧ (timingsRun u).keys = u.keys ∧ (timingsRun u).pending = u.pending := by
  simp [timingsRun]

theorem startPeriods_channel (s : State) (c : Chan) (hp : s.start.phase ≠ .configRead) :
    s.startPeriods.channel c = if c = .t17 then Channel.fresh s.cfg.silence .ms100 .periodic 0
      else if c = .t19 then Channel.fresh 30 .ms100 .oneShot 0 else s.channel c := by
  rw [State.startPeriods, State.startTimer_channel _ _ _ _ _ _ _ (by simpa using hp), State.startTimer_channel _ _ _ _ _ _ _ hp]
  simp only [eq_comm (a := Chan.t17), eq_comm (a := Chan.t19)]

theorem resumeHeld_channel (u : State) (c : Chan) : (timingsRun u).channel c =
    if ∃ h ∈ u.heldTimings, h.1 = c then ((u.presetHeld.setPhase .relearn).startPeriods.channel c).resume
      else (u.presetHeld.setPhase .relearn).startPeriods.channel c := by
  have hl : (u.presetHeld.setPhase .relearn).startPeriods.heldTimings = u.heldTimings :=
    heldTimings_congr (by simp) (by simp) (by simp) (by simp) (by simp) (by simp) (by simp)
  rw [timingsRun, State.resumeHeld, hl, resumes_channel]

/-- R158: a held timing runs from its full new duration. -/
theorem timingsRun_held {u : State} {c : Chan} {n m : Nat} (h : (c, n, m) ∈ u.heldTimings) :
    (timingsRun u).channel c = Channel.fresh n .s1 .oneShot m := by
  have huniq : ∀ k ∈ u.heldTimings, k.1 = c → k = (c, n, m) := by
    rintro ⟨c', n', m'⟩ hk rfl
    obtain ⟨rfl, rfl⟩ := heldTimings_unique u c' h hk
    rfl
  have h17 : c ≠ .t17 := by
    rintro rfl
    simpa using (mem_heldTimings u _ _ _).mp h
  have h19 : c ≠ .t19 := by
    rintro rfl
    simpa using (mem_heldTimings u _ _ _).mp h
  have hpre : u.presetHeld.channel c = loaded n m := presets_channel h huniq u
  rw [resumeHeld_channel, if_pos ⟨_, h, rfl⟩, startPeriods_channel _ _ (by simp), if_neg h17, if_neg h19, ← loaded_resume, ← hpre]
  rfl

/-- R179, R181: the periods of LISTEN and RELEARN. -/
theorem timingsRun_periods (u : State) : (timingsRun u).channel .t19 = Channel.fresh 30 .ms100 .oneShot 0
    ∧ (timingsRun u).channel .t17 = Channel.fresh u.cfg.silence .ms100 .periodic 0 := by
  have hno : ∀ c : Chan, c = .t17 ∨ c = .t19 → ¬∃ h ∈ u.heldTimings, h.1 = c := by
    rintro c hc ⟨⟨c', n, m⟩, hk, rfl⟩
    rcases hc with rfl | rfl <;> simpa using (mem_heldTimings u _ _ _).mp hk
  have hcfg : (u.presetHeld.setPhase .relearn).cfg = u.cfg := by simp [State.cfg]
  rw [resumeHeld_channel, resumeHeld_channel, if_neg (hno _ (.inr rfl)), if_neg (hno _ (.inl rfl)),
    startPeriods_channel _ _ (by simp), startPeriods_channel _ _ (by simp), hcfg]
  simp

/-! ### Troubles entered for held state -/

theorem troubles_monotone (l : List Trouble) (s : State) :
    ∀ x ∈ s.troubles.record, x ∈ (l.foldl State.enterTrouble s).troubles.record := by
  induction l generalizing s with
  | nil => exact fun _ h => h
  | cons y l ih => exact fun x hx => ih _ x ((s.mem_enterTrouble y x).2 (.inr hx))

theorem troubles_entered (l : List Trouble) (s : State) : ∀ x ∈ l, x ∈ (l.foldl State.enterTrouble s).troubles.record := by
  induction l generalizing s with
  | nil => exact fun _ h => by cases h
  | cons y l ih =>
    intro x hx
    rcases List.mem_cons.mp hx with rfl | hx
    · exact troubles_monotone l _ x ((s.mem_enterTrouble x x).2 (.inl rfl))
    · exact ih _ x hx

theorem troubles_length (l : List Trouble) (s : State) :
    s.troubles.record.length ≤ (l.foldl State.enterTrouble s).troubles.record.length := by
  induction l generalizing s with
  | nil => exact le_rfl
  | cons y l ih =>
    refine le_trans ?_ (ih _)
    rw [State.enterTrouble_record]
    split <;> simp

/-- Entering troubles that leave the record as it was changes nothing at all. -/
theorem troubles_unchanged (l : List Trouble) (s : State)
    (h : (l.foldl State.enterTrouble s).troubles.record = s.troubles.record) : l.foldl State.enterTrouble s = s := by
  induction l generalizing s with
  | nil => rfl
  | cons y l ih =>
    have hy : y ∈ s.troubles.record := by
      rw [← h]
      exact troubles_entered (y :: l) s y (by simp)
    have hs : s.enterTrouble y = s := by simp [State.enterTrouble, hy]
    rw [List.foldl_cons, hs] at h ⊢
    exact ih s h

theorem troublesHeld_status (s : State) (h : s.link.status = true) : (troublesHeld s).link.status = true := by
  have hfold : ∀ (l : List Trouble) (t : State), t.link.status = true → (l.foldl State.enterTrouble t).link.status = true := by
    intro l
    induction l with
    | nil => exact fun _ h => h
    | cons x l ih => exact fun t ht => ih _ ((t.enterTrouble_link x).2 ht)
  exact hfold _ _ h

/-! ### The image taken -/

theorem takeImage_loops (s : State) (img : Image) (l : Fin 6) : (s.takeImage img).fire.loops[l].kind = img.loops[l]
    ∧ (s.takeImage img).fire.loops[l].band = if s.fire.loops[l].kind = img.loops[l] ∧ img.loops[l] ≠ .unused
        then readByKind img.loops[l] s.fire.loops[l].band else .normal := by
  simp [State.takeImage, LoopRec.takeKind]

theorem takeImage_inputs (s : State) (img : Image) (i : Fin 8) : (s.takeImage img).watch.inputs[i].kind = img.watch[i]
    ∧ (s.takeImage img).watch.inputs[i].band = if s.watch.inputs[i].kind = img.watch[i] ∧ img.watch[i] ≠ .unused
        then s.watch.inputs[i].band else .normal := by
  simp [State.takeImage, WatchRec.takeKind]

theorem takeDesc_eq (r : DoorRec) (desc : DoorDesc) : r.takeDesc desc =
    if r.desc.kind = desc.kind ∧ r.desc.owned = desc.owned ∧ r.desc.magnet = desc.magnet then { r with desc := desc }
    else DoorRec.afresh desc := by
  unfold DoorRec.takeDesc sameFitting
  simp only [Bool.and_eq_true, beq_iff_eq, and_assoc]

theorem takeImage_status (s : State) (img : Image) : (s.takeImage img).link.status = true
    ↔ s.link.status = true ∨ ∃ d : Fin 4, ((s.takeImage img).door d).lock ≠ (s.door d).lock
        ∨ ((s.takeImage img).door d).position ≠ (s.door d).position := by
  have h : (s.takeImage img).link.status = (s.link.status || (List.finRange 4).any (s.startsAfresh img)) := by
    simp [State.takeImage]
  rw [h]
  simp [State.startsAfresh]

/-- R68, R81: where no lock and no position changes, the link unit is as it was. -/
theorem takeImage_link (s : State) (img : Image) (h : ∀ d : Fin 4, ((s.takeImage img).door d).lock = (s.door d).lock
    ∧ ((s.takeImage img).door d).position = (s.door d).position) : (s.takeImage img).link = s.link := by
  have hs : (s.takeImage img).link.status = s.link.status := by
    rw [Bool.eq_iff_iff, takeImage_status]
    simp only [or_iff_left_iff_imp]
    rintro ⟨d, hd | hd⟩
    · exact absurd (h d).1 hd
    · exact absurd (h d).2 hd
  have hl : (s.takeImage img).link = { s.link with status := (s.takeImage img).link.status } := by
    simp [State.takeImage]
  rw [hl, hs]

theorem takeImage_units (s : State) (img : Image) : (s.takeImage img).fire = { s.fire with loops := (s.takeImage img).fire.loops }
    ∧ (s.takeImage img).watch = { s.watch with inputs := (s.takeImage img).watch.inputs }
    ∧ (s.takeImage img).table = { s.table with entries := entriesOf img.doors } := by
  simp [State.takeImage]

/-! ### After a cold start -/

theorem guardAtStart_day {s : State} (h : s.modes.mode ≠ .night) : s.guardAtStart = s := by simp [State.guardAtStart, h]

theorem guardAtStart_channel (s : State) (c : Chan) (h : c ≠ .t18) : s.guardAtStart.channel c = s.channel c := by
  unfold State.guardAtStart
  split
  · rw [State.startExitDelay, State.startTimer_other _ _ _ _ _ _ _ h.symm]
    simp [State.channel]
  · rfl

theorem guardAtStart_same {s : State} (h : s.guardAtStart.watch.guard = s.watch.guard) : s.guardAtStart.link = s.link := by
  unfold State.guardAtStart at h ⊢
  split
  next hn =>
    have hg : s.watch.guard = .setting := by simpa [hn] using h.symm
    simp [State.setGuard, hg]
  next => rfl

/-- R179: LISTEN as it stands before the outputs are set. -/
def listens (s : State) (img : Image) : State := (((s.takeImage img).setPhase .listen).startPeriods).guardAtStart

theorem listens_channel (s : State) (img : Image) (c : Chan) (h18 : c ≠ .t18) : (listens s img).channel c =
    if c = .t17 then Channel.fresh img.silence .ms100 .periodic 0
    else if c = .t19 then Channel.fresh 30 .ms100 .oneShot 0 else s.channel c := by
  have hch : ((s.takeImage img).setPhase .listen).channel c = s.channel c := by simp [State.channel]
  have hcfg : ((s.takeImage img).setPhase .listen).cfg = img := by simp [State.cfg]
  rw [listens, guardAtStart_channel _ _ h18, startPeriods_channel _ _ (by simp), hch, hcfg]

/-- R179: frozen or not, only the outputs are set anew. -/
theorem lights_of_refresh {u : State} (hf : u.forced = false) :
    (u.start.freeze = false → u.refreshLights.light = { u.light with out := u.refreshLights.sceneOutputs })
      ∧ (u.start.freeze = true → u.refreshLights.light = u.light) := by
  refine ⟨fun hz => ?_, fun hz => by rw [refreshLights_frozen u hz hf]⟩
  have hout := (refreshLights_follow u).2 (by simpa [State.forced] using hf) (by simpa using hz)
  obtain ⟨hbase, habove⟩ := u.refreshLights_stack
  cases h : u.refreshLights.light
  simp_all

theorem goodRead_cold {s : State} {r : ConfigTransfer} {img : Image} (hl : s.live = true) (hp : s.start.phase = .configRead)
    (hk : s.start.kind = .cold) (hj : judgeRead r = .good img) : s.readAttempt r = (listens s img).refreshLights := by
  simp [State.readAttempt, hl, hp, hj, configGood_cold img hk, listens]

theorem goodReadBeginsListen (s : State) (img : Image) (hl : s.live = true) : let t := (listens s img).refreshLights
    t.start = { s.start with phase := .listen, image := some img }
      ∧ t.channel .t19 = Channel.fresh 30 .ms100 .oneShot 0
      ∧ t.channel .t17 = Channel.fresh img.silence .ms100 .periodic 0
      ∧ (∀ l : Fin 6, t.fire.loops[l].kind = img.loops[l] ∧ t.fire.loops[l].band = if s.fire.loops[l].kind = img.loops[l]
        ∧ img.loops[l] ≠ .unused then readByKind img.loops[l] s.fire.loops[l].band else .normal)
      ∧ (∀ i : Fin 8, t.watch.inputs[i].kind = img.watch[i]
        ∧ t.watch.inputs[i].band = if s.watch.inputs[i].kind = img.watch[i] ∧ img.watch[i] ≠ .unused
        then s.watch.inputs[i].band else .normal)
      ∧ t.table = { s.table with entries := entriesOf img.doors }
      ∧ (∀ d : Fin 4, t.door d = (s.door d).takeDesc img.doors[d])
      ∧ (s.modes.mode = .night → t.watch.guard = .setting ∧ t.channel .t18 = Channel.fresh img.exitDelay .s1 .oneShot 0)
      ∧ (s.modes.mode ≠ .night → t.watch.guard = s.watch.guard ∧ t.channel .t18 = s.channel .t18)
      ∧ (∀ c ∈ Chan.all, c ≠ .t17 → c ≠ .t18 → c ≠ .t19 → t.channel c = s.channel c)
      ∧ (s.start.freeze = false → t.light = { s.light with out := t.sceneOutputs })
      ∧ (s.start.freeze = true → t.light = s.light)
      ∧ (t.watch.guard = s.watch.guard → (∀ d : Fin 4, (t.door d).lock = (s.door d).lock
        ∧ (t.door d).position = (s.door d).position) → t.link = s.link) := by
  dsimp only
  obtain ⟨hfire, hwatch, htable⟩ := takeImage_units s img
  have hch : ∀ c, (listens s img).refreshLights.channel c = (listens s img).channel c := fun c => by simp [State.channel]
  have hdoor : ∀ d, (listens s img).refreshLights.door d = (s.takeImage img).door d := door_congr (by simp [listens])
  have hforced : (listens s img).forced = false := by
    simp only [State.live, beq_iff_eq] at hl
    simp [State.forced, listens, hl]
  obtain ⟨hlight, hfrozen⟩ := lights_of_refresh hforced
  refine ⟨by simp [listens], ?_, ?_, fun l => ?_, fun i => ?_, by simp [listens], fun d => by rw [hdoor, takeImage_door], fun hn => ?_,
    fun hn => ?_, fun c _ h17 h18 h19 => ?_, fun hz => ?_, fun hz => ?_, fun hg hd => ?_⟩
  · rw [hch, listens_channel _ _ _ (by decide)]
    simp
  · rw [hch, listens_channel _ _ _ (by decide)]
    simp
  · simpa [listens] using takeImage_loops s img l
  · simpa [listens] using takeImage_inputs s img i
  · refine ⟨by simp [listens, hn], ?_⟩
    have hcfg : ((((s.takeImage img).setPhase .listen).startPeriods).setGuard .setting).cfg = img := by simp [State.cfg]
    rw [hch, listens, State.guardAtStart, if_pos (by simpa using hn), State.startExitDelay,
      State.startTimer_channel _ _ _ _ _ _ _ (by simp), hcfg]
    simp
  · refine ⟨by simp [listens, hn], ?_⟩
    rw [hch, listens, guardAtStart_day (by simpa using hn), startPeriods_channel _ _ (by simp)]
    simp [State.channel]
  · rw [hch, listens_channel _ _ _ h18, if_neg h17, if_neg h19]
  · rw [hlight (by simpa [listens] using hz)]
    simp [listens]
  · rw [hfrozen (by simpa [listens] using hz)]
    simp [listens]
  · have hsame := takeImage_link s img fun d => by
      rw [← hdoor]
      exact hd d
    rw [← hsame]
    simp only [State.refreshLights_keeps]
    rw [listens, guardAtStart_same (by simpa [listens] using hg)]
    simp

/-! ### After a warm restart -/

/-- R181: the image and the held troubles taken, the doors under ajar timing marked. -/
def relearns (s : State) (img : Image) : State := (troublesHeld (s.takeImage img)).markAjar

theorem goodRead_warm {s : State} {r : ConfigTransfer} {img : Image} (hl : s.live = true) (hp : s.start.phase = .configRead)
    (hk : s.start.kind = .warm) (hj : judgeRead r = .good img) :
    s.readAttempt r = (timingsRun (relearns s img)).refreshLights := by
  simp [State.readAttempt, hl, hp, hj, configGood_warm img hk, timingsRun, relearns]

/-- R74: whether ajar timing is due does not depend on whether it runs. -/
theorem markAjar_ajarDue (s : State) (d : Fin 4) : s.markAjar.ajarDue d = s.ajarDue d := by
  have hst : ∀ slot, s.markAjar.slotStands d slot = s.slotStands d slot := fun slot => by
    cases slot <;> simp [State.slotStands, State.neighbourIntrusion, State.entryFor]
  simp [State.ajarDue, State.lockPending, State.resolvedLock, State.wishes, State.slotLevel, hst, State.cfg]

theorem relearns_keeps (s : State) (img : Image) : (relearns s img).fire = (s.takeImage img).fire
    ∧ (relearns s img).watch = (s.takeImage img).watch ∧ (relearns s img).calls = (s.takeImage img).calls
    ∧ (relearns s img).table = (s.takeImage img).table ∧ (relearns s img).link = (troublesHeld (s.takeImage img)).link
    ∧ (relearns s img).troubles = (troublesHeld (s.takeImage img)).troubles
    ∧ (relearns s img).start = { s.start with image := some img } ∧ (relearns s img).cfg = img
    ∧ (relearns s img).modes = s.modes ∧ (relearns s img).egress = s.egress ∧ (relearns s img).light = s.light
    ∧ (relearns s img).keys = s.keys ∧ (relearns s img).clock = s.clock ∧ (relearns s img).pins = s.pins
    ∧ (relearns s img).pending = s.pending := by
  simp [relearns, State.cfg]

theorem relearns_door (s : State) (img : Image) (d : Fin 4) : (relearns s img).door d =
    { (s.door d).takeDesc img.doors[d] with ajar := (relearns s img).ajarDue d && (img.doors[d]).isOwned } := by
  have hd : (troublesHeld (s.takeImage img)).door d = (s.door d).takeDesc img.doors[d] := by
    rw [door_congr (s := s.takeImage img) (by simp), takeImage_door]
  rw [relearns, markAjar_ajarDue, markAjar_door, hd, EgressResult.takeDesc_desc]

/-- R81: a held door keeps its record under the new descriptor; another starts afresh, with no ajar timing. -/
theorem relearns_door_cases (s : State) (img : Image) (d : Fin 4) : (relearns s img).door d =
    if (s.door d).desc.kind = img.doors[d].kind ∧ (s.door d).desc.owned = img.doors[d].owned
      ∧ (s.door d).desc.magnet = img.doors[d].magnet
    then { s.door d with desc := img.doors[d], ajar := ((relearns s img).door d).ajar } else DoorRec.afresh img.doors[d] := by
  have h := relearns_door s img d
  rw [takeDesc_eq] at h
  split_ifs at h ⊢ with hsame
  · rw [h]
  · have hpos : ((relearns s img).door d).position = none := by rw [h]; rfl
    have hajar : (relearns s img).ajarDue d = false := by simp [State.ajarDue, State.lockPending, hpos]
    rw [h, hajar]
    rfl

/-- R158: every held timing of the new image runs. -/
theorem relearn_timings (s : State) (img : Image) : let u := relearns s img
    (s.fire.phase = .ackWindow → (timingsRun u).channel .t0 = Channel.fresh img.ackWindow .s1 .oneShot 0)
      ∧ (s.fire.phase = .investigation → (timingsRun u).channel .pair = Channel.fresh img.investigation .s1 .oneShot 0)
      ∧ (∀ d : Fin 4, (u.door d).phase = some .closing →
          (timingsRun u).channel (.door d) = Channel.fresh img.travel .s1 .oneShot 0)
      ∧ (∀ d : Fin 4, (u.door d).desc.isOwned = true → u.ajarDue d = true →
          (timingsRun u).channel (.door d) = Channel.fresh img.ajar .s1 .oneShot (img.ajar / 2))
      ∧ (∀ p : Fin 4, (u.point p).state = .waiting →
          (timingsRun u).channel (.point p) = Channel.fresh img.escalation .s1 .oneShot (img.escalation / 2))
      ∧ (∀ p : Fin 4, (u.point p).state = .answered →
          (timingsRun u).channel (.point p) = Channel.fresh img.attend .s1 .oneShot 0)
      ∧ (s.watch.guard = .setting → (timingsRun u).channel .t18 = Channel.fresh img.exitDelay .s1 .oneShot 0) := by
  dsimp only
  obtain ⟨hfire, hwatch, -, -, -, -, -, hcfg, -⟩ := relearns_keeps s img
  have hphase : (relearns s img).fire.phase = s.fire.phase := by simp [hfire]
  have hguard : (relearns s img).watch.guard = s.watch.guard := by simp [hwatch]
  refine ⟨fun h => ?_, fun h => ?_, fun d h => ?_, fun d ho h => ?_, fun p h => ?_, fun p h => ?_, fun h => ?_⟩
  all_goals refine timingsRun_held ((mem_heldTimings _ _ _ _).mpr ?_)
  · simp [hphase, h, hcfg]
  · simp [hphase, h, hcfg]
  · simp [h, hcfg]
  · refine .inr ⟨fun hc => ?_, h, ho, by rw [hcfg], by rw [hcfg]⟩
    simp [State.ajarDue, hc] at h
  · simp [h, hcfg]
  · simp [h, hcfg]
  · simp [hguard, h, hcfg]

/-- R39, R55, R81: the troubles of held state are in the record. -/
theorem relearn_troubles (s : State) (img : Image) : let u := relearns s img
    (∀ l : Fin 6, u.fire.loops[l].band = .openLoop ∨ u.fire.loops[l].band = .short → Trouble.loop l ∈ u.troubles.record)
      ∧ (∀ i : Fin 8, u.watch.inputs[i].band = .fault → Trouble.watchLine i ∈ u.troubles.record)
      ∧ (∀ d : Fin 4, ((u.door d).phase = some .unsensed → Trouble.doorPosition d ∈ u.troubles.record)
        ∧ ((u.door d).phase = some .blocked → Trouble.doorBlocked d ∈ u.troubles.record)) := by
  dsimp only
  obtain ⟨hfire, hwatch, -, -, -, htrouble, -⟩ := relearns_keeps s img
  have hphase : ∀ d, ((relearns s img).door d).phase = ((s.takeImage img).door d).phase := fun d => by
    rw [relearns_door, takeImage_door]
  have hheld : ∀ x ∈ (s.takeImage img).heldTroubles, x ∈ (relearns s img).troubles.record := by
    rw [htrouble]
    exact troubles_entered _ _
  refine ⟨fun l h => hheld _ ?_, fun i h => hheld _ ?_, fun d => ⟨fun h => hheld _ ?_, fun h => hheld _ ?_⟩⟩
  · rw [hfire] at h
    simpa [State.heldTroubles, LoopBand.outOfService] using h
  · rw [hwatch] at h
    simp only [State.heldTroubles, List.mem_append, List.mem_map, List.mem_filter]
    exact .inl (.inl (.inr ⟨i, ⟨List.mem_finRange i, by simp only [h]; rfl⟩, rfl⟩))
  · rw [hphase] at h
    simpa [State.heldTroubles] using h
  · rw [hphase] at h
    simpa [State.heldTroubles] using h

/-- R68, R81, R185: when STATUS is marked, and when the link unit is as it was. -/
theorem relearn_link (s : State) (img : Image) : let u := relearns s img
    ((∃ d : Fin 4, (u.door d).lock ≠ (s.door d).lock ∨ (u.door d).position ≠ (s.door d).position) → u.link.status = true)
      ∧ (u.troubles.record = s.troubles.record → (∀ d : Fin 4, (u.door d).lock = (s.door d).lock
        ∧ (u.door d).position = (s.door d).position) → u.link = s.link) := by
  dsimp only
  obtain ⟨-, -, -, -, hlink, htrouble, -⟩ := relearns_keeps s img
  have hdoor : ∀ d, ((relearns s img).door d).lock = ((s.takeImage img).door d).lock
      ∧ ((relearns s img).door d).position = ((s.takeImage img).door d).position := fun d => by
    rw [relearns_door, takeImage_door]
    exact ⟨rfl, rfl⟩
  simp only [hdoor, hlink, htrouble]
  refine ⟨fun h => troublesHeld_status _ ((takeImage_status s img).mpr (.inr h)), fun hrec hd => ?_⟩
  rw [troublesHeld, troubles_unchanged _ _ (hrec.trans (by simp)), takeImage_link s img hd]

theorem listens_units (s : State) (img : Image) : let t := (listens s img).refreshLights
    t.modes = s.modes ∧ t.fire = { s.fire with loops := t.fire.loops }
      ∧ t.watch = { s.watch with guard := t.watch.guard, inputs := t.watch.inputs } ∧ t.egress = s.egress
      ∧ t.troubles = s.troubles ∧ t.buzzer = s.buzzer ∧ t.keys = s.keys ∧ t.clock = s.clock ∧ t.pins = s.pins
      ∧ t.pending = s.pending := by
  dsimp only
  simp [listens]
  exact (takeImage_units s img).1

theorem relearn_units (s : State) (img : Image) : let t := (timingsRun (relearns s img)).refreshLights
    t.start = { s.start with phase := .relearn, image := some img }
      ∧ (∀ l : Fin 6, t.fire.loops[l].kind = img.loops[l] ∧ t.fire.loops[l].band = if s.fire.loops[l].kind = img.loops[l]
        ∧ img.loops[l] ≠ .unused then readByKind img.loops[l] s.fire.loops[l].band else .normal)
      ∧ (∀ i : Fin 8, t.watch.inputs[i].kind = img.watch[i]
        ∧ t.watch.inputs[i].band = if s.watch.inputs[i].kind = img.watch[i] ∧ img.watch[i] ≠ .unused
        then s.watch.inputs[i].band else .normal)
      ∧ t.table = { s.table with entries := entriesOf img.doors } ∧ t.modes = s.modes
      ∧ t.fire = { s.fire with loops := t.fire.loops } ∧ t.watch = { s.watch with inputs := t.watch.inputs }
      ∧ t.egress = s.egress ∧ t.light.stack = s.light.stack ∧ t.keys = s.keys ∧ t.clock = s.clock ∧ t.pins = s.pins
      ∧ t.pending = s.pending := by
  obtain ⟨hfire, hwatch, hcalls, htable, hlink, htrouble, hstart, hcfg, hmodes, hegress, hlight, hkeys, hclock, hpins, hpending⟩ :=
    relearns_keeps s img
  obtain ⟨kclock, kpins, kmodes, kfire, kwatch, kdoors, kcalls, ktable, kegress, klight, klink, kstart, ktrouble, kkeys, kpending⟩ :=
    timingsRun_keeps (relearns s img)
  obtain ⟨ufire, uwatch, utable⟩ := takeImage_units s img
  dsimp only
  simp only [State.refreshLights_keeps, LightUnit.stack, State.refreshLights_stack, kclock, kpins, kmodes, kfire, kwatch, ktable,
    kegress, klight, kstart, kkeys, kpending, hfire, hwatch, htable, hstart, hmodes, hegress, hlight, hkeys, hclock, hpins, hpending]
  exact ⟨trivial, takeImage_loops s img, takeImage_inputs s img, utable, trivial, ufire, uwatch, trivial, trivial, trivial, trivial,
    trivial, trivial⟩

/-- What the outputs set anew leave of the state behind the held timings. -/
theorem relearn_reads (s : State) (img : Image) : let u := relearns s img; let t := (timingsRun u).refreshLights
    (∀ c, t.channel c = (timingsRun u).channel c) ∧ (∀ d, t.door d = u.door d) ∧ (∀ p, t.point p = u.point p)
      ∧ (∀ d, t.ajarDue d = u.ajarDue d) ∧ t.fire = u.fire ∧ t.watch = u.watch ∧ t.link = u.link ∧ t.troubles = u.troubles
      ∧ (s.live = true → s.start.freeze = true → t.light = s.light) := by
  dsimp only
  obtain ⟨hfire, hwatch, hcalls, htable, hlink, htrouble, hstart, hcfg, hmodes, hegress, hlight, hkeys, hclock, hpins, hpending⟩ :=
    relearns_keeps s img
  obtain ⟨kclock, kpins, kmodes, kfire, kwatch, kdoors, kcalls, ktable, kegress, klight, klink, kstart, ktrouble, kkeys, kpending⟩ :=
    timingsRun_keeps (relearns s img)
  have hdoor : ∀ d, (timingsRun (relearns s img)).refreshLights.door d = (relearns s img).door d := door_congr (by simp [kdoors])
  have hst : ∀ d slot, (timingsRun (relearns s img)).refreshLights.slotStands d slot = (relearns s img).slotStands d slot := by
    intro d slot
    cases slot <;>
      simp only [State.slotStands, State.neighbourIntrusion, State.entryFor, State.refreshLights_keeps, kfire, kwatch, kdoors, ktable,
        hdoor]
  refine ⟨fun c => by simp [State.channel], hdoor, point_congr (by simp [kcalls]), fun d => ?_, by simp [kfire], by simp [kwatch],
    by simp [klink], by simp [ktrouble], fun hl hz => ?_⟩
  · have hc : (timingsRun (relearns s img)).refreshLights.cfg = (relearns s img).cfg := by simp [State.cfg, kstart]
    simp only [State.ajarDue, State.lockPending, State.resolvedLock, State.wishes, State.slotLevel, hst, hc, hdoor,
      State.refreshLights_keeps, kmodes]
  · simp only [State.live, beq_iff_eq] at hl
    rw [refreshLights_frozen, klight, hlight]
    · rw [kstart, hstart]
      exact hz
    · simp [State.forced, kstart, hstart, hl]

/-- Settles O11: LISTEN after a cold start, RELEARN after a warm restart. -/
theorem goodReadBeginsListenOrRelearn : Obligations.GoodReadBeginsListenOrRelearn := by
  refine ⟨fun s r img hl hp hk hj => ⟨(listens s img).refreshLights, ?_, ?_⟩,
    fun s r img hl hp hk hj => ⟨(timingsRun (relearns s img)).refreshLights, ?_, ?_⟩⟩
  · rw [← goodRead_cold hl hp hk hj]
    rfl
  · obtain ⟨hstart, h19, h17, hloops, hinputs, htable, hdoor, hnight, hday, hchans, hlight, hfrozen, hlink⟩ :=
      goodReadBeginsListen s img hl
    have hunits := listens_units s img
    simp only [takeDesc_eq] at hdoor
    exact ⟨hstart, h19, h17, hloops, hinputs, htable, hdoor, hnight, hday, hchans, hlight, hfrozen, hlink, hunits⟩
  · rw [← goodRead_warm hl hp hk hj]
    rfl
  · have hcases := relearns_door_cases s img
    have hajarSet : ∀ d, ((relearns s img).door d).desc.isOwned = true → (relearns s img).ajarDue d = true →
        ((relearns s img).door d).ajar = true := by
      intro d ho ha
      rw [relearns_door, EgressResult.takeDesc_desc] at *
      simp_all
    have hpoints : ∀ p : Fin 4, (relearns s img).point p = if p.val < img.points then s.point p else .idle := fun p => by
      rw [point_congr (relearns_keeps s img).2.2.1, takeImage_point]
    have hcfg : (relearns s img).cfg = img := (relearns_keeps s img).2.2.2.2.2.2.2.1
    obtain ⟨hp19, hp17⟩ := timingsRun_periods (relearns s img)
    obtain ⟨t1, t2, t3, t4, t5, t6, t7⟩ := relearn_timings s img
    obtain ⟨b1, b2, b3⟩ := relearn_troubles s img
    obtain ⟨l1, l2⟩ := relearn_link s img
    obtain ⟨hch, hdoor, hpoint, hajar, hfire, hwatch, hlink, htrouble, hfrozen⟩ := relearn_reads s img
    obtain ⟨ustart, uloops, uinputs, utable, umodes, ufire, uwatch, uegress, ustack, ukeys, uclock, upins, upending⟩ :=
      relearn_units s img
    rw [hcfg] at hp17
    generalize (timingsRun (relearns s img)).refreshLights = t at *
    simp only [← hch, ← hdoor, ← hpoint, ← hajar, ← hfire, ← hwatch, ← hlink, ← htrouble] at *
    exact ⟨ustart, hp19, hp17, uloops, uinputs, utable, hcases, t1, t2, t3, fun d ho ha => ⟨hajarSet d ho ha, t4 d ho ha⟩, t5, t6,
      hpoints, t7, b1, b2, b3, l1, l2, umodes, ufire, uwatch, uegress, ustack, hfrozen hl, ukeys, uclock, upins, upending⟩

end Sys2Proof.Proofs.GoodRead
end

section
/-! The start of RUN (R180). -/

namespace Sys2Proof.Proofs.StartOfRun

open Sys2Proof Sys2Proof.Machine Sys2Proof.Proofs.PartFrames Sys2Proof.Proofs.Steps Sys2Proof.Proofs.StartFrame

/-- R180: the deliveries of the start of RUN. -/
def runDelivered (s : State) : State := deliver [State.settle, State.firstEgress, State.release] (s.setPhase .run)

theorem beginRun_eq (s : State) : s.beginRun = if s.start.kind = .warm
    then (runDelivered s).markStatus.startRefresh.startUnheard.markOpenCalls
    else (runDelivered s).markStatus.startRefresh.startUnheard := rfl

theorem runDelivered_keeps (s : State) : (runDelivered s).start.phase = .run ∧ (runDelivered s).start.image = s.start.image
    ∧ (runDelivered s).table = s.table := by
  simp [runDelivered]

/-- What holds of every one of the three deliveries. -/
theorem forall_deliveries {P : (State → State) → Prop} (h1 : P State.settle) (h2 : P State.firstEgress) (h3 : P State.release) :
    ∀ f ∈ [State.settle, State.firstEgress, State.release], P f := by
  simp [h1, h2, h3]

theorem runDelivered_freeze (s : State) : (runDelivered s).start.freeze = false := by
  refine deliver_establishes (Q := fun _ => True) (R := fun t : State => t.start.freeze = false) _ State.release (by simp)
    (fun _ _ _ => trivial) (fun _ _ h => h) (fun _ _ _ _ => trivial) (forall_deliveries (fun t h => ?_) (fun t h => by simpa using h)
    fun t _ => release_freeze t) (fun t _ => release_freeze t) _ trivial
  unfold State.settle
  split
  · exact h
  · exact changeMode_freeze _ _ h

/-- R8: the pair on which an unsettled station settles. -/
def settledModes (m : ModeUnit) : ModeUnit :=
  if m.settled then m else { m with mode := m.keyPosition, epoch := 0, settled := true }

theorem settledModes_again (m : ModeUnit) : settledModes (settledModes m) = settledModes m := by
  unfold settledModes
  split
  · simp [*]
  · simp

theorem settle_modes (s : State) : s.settle.modes = settledModes s.modes := by
  unfold State.settle settledModes
  split <;> simp

theorem runDelivered_modes (s : State) : (runDelivered s).modes = settledModes s.modes := by
  refine deliver_establishes (Q := fun t : State => settledModes t.modes = settledModes s.modes)
    (R := fun t : State => t.modes = settledModes s.modes) _ State.settle (by simp) (fun _ _ h => h) (fun _ _ h => h)
    (forall_deliveries (fun t h => ?_) (fun t h => by simpa using h) fun t h => by simpa using h)
    (forall_deliveries (fun t h => ?_) (fun t h => by simpa using h) fun t h => by simpa using h) (fun t h => ?_) _ rfl
  · rw [settle_modes, settledModes_again, h]
  · rw [settle_modes, h, settledModes_again]
  · rw [settle_modes, h]

/-- R131: a computed result stays one. -/
theorem computed_kept : EgressResult.LocksKept fun s => s.egress.computed = true where
  same h _ _ _ hg _ _ := by rw [hg]; exact h
  driveLock s d h := by
    have hr : ∀ t : State, t.egress.computed = true → t.recomputeEgress.egress.computed = true := fun t ht => by
      unfold State.recomputeEgress
      (repeat' split)
      · exact ht
      · exact ht
      · simp [State.computeEgress]
    unfold State.driveLock
    dsimp only
    split
    · exact h
    · exact hr _ (by simpa using h)

theorem runDelivered_computed (s : State) : (runDelivered s).egress.computed = true := by
  have hfirst : ∀ t : State, t.firstEgress.egress.computed = true := fun t => by simp [State.computeEgress]
  refine deliver_establishes (Q := fun _ => True) (R := fun t : State => t.egress.computed = true) _ State.firstEgress (by simp)
    (fun _ _ _ => trivial) (fun _ _ h => h) (fun _ _ _ _ => trivial) (forall_deliveries (fun t h => ?_) (fun t _ => hfirst t)
    fun t h => computed_kept.release t h) (fun t _ => hfirst t) _ trivial
  unfold State.settle
  split
  · exact h
  · exact computed_kept.changeMode _ _ (by simpa using h)

/-- Recomputed levels leave every point's state. -/
theorem states_kept (x : Fin 4 → PointState) : CallReach.CallsKept fun s => ∀ p, (s.point p).state = x p where
  same h hc _ p := by rw [point_congr hc]; exact h p
  relevel s q h p := by rw [(s.relevel_point q p).1]; exact h p

theorem runDelivered_state (s : State) (p : Fin 4) : ((runDelivered s).point p).state = (s.point p).state := by
  have K := states_kept fun p => (s.point p).state
  exact K.deliver _ (forall_deliveries K.settle (fun t h => K.takeEgress t _ _ h) K.release) (s.setPhase .run) (fun _ => rfl) p

/-! ### Channels and marks -/

/-- R114: the silence timers of the entries still UNHEARD, and no other channel. -/
theorem startUnheard_channel (s : State) (hp : s.start.phase ≠ .configRead) (c : Chan) : s.startUnheard.channel c =
    if ∃ k, c = .silence k ∧ s.table.entries[k].map NbEntry.state = some .unheard
    then Channel.fresh s.cfg.silence .ms100 .oneShot 0 else s.channel c := by
  have hfold : ∀ (l : List (Fin 4)) (t : State), t.start = s.start → t.table = s.table →
      (l.foldl (fun t k => if (t.table.entries[k].map NbEntry.state) = some .unheard then t.startSilence k else t) t).channel c =
        if ∃ k ∈ l, c = .silence k ∧ s.table.entries[k].map NbEntry.state = some .unheard
        then Channel.fresh s.cfg.silence .ms100 .oneShot 0 else t.channel c := by
    intro l
    induction l with
    | nil => simp
    | cons j l ih =>
      intro t hst htab
      rw [List.foldl_cons, htab]
      have hcfg : t.cfg = s.cfg := by simp only [State.cfg, hst]
      by_cases hj : s.table.entries[j].map NbEntry.state = some .unheard
      · rw [if_pos hj, ih _ (by simpa using hst) (by simpa using htab), State.startSilence,
          State.startTimer_channel _ _ _ _ _ _ _ (by rw [hst]; exact hp), hcfg]
        by_cases hc : Chan.silence j = c
        · have hex : ∃ k ∈ j :: l, c = .silence k ∧ s.table.entries[k].map NbEntry.state = some .unheard :=
            ⟨j, by simp, hc.symm, hj⟩
          rw [if_pos hc, if_pos hex]
          split <;> rfl
        · have hiff : (∃ k ∈ j :: l, c = .silence k ∧ s.table.entries[k].map NbEntry.state = some .unheard)
              ↔ ∃ k ∈ l, c = .silence k ∧ s.table.entries[k].map NbEntry.state = some .unheard := by
            simp [or_and_right, exists_or, Ne.symm hc]
          rw [if_neg hc, if_congr hiff rfl rfl]
      · rw [if_neg hj, ih t hst htab]
        have hiff : (∃ k ∈ j :: l, c = .silence k ∧ s.table.entries[k].map NbEntry.state = some .unheard)
            ↔ ∃ k ∈ l, c = .silence k ∧ s.table.entries[k].map NbEntry.state = some .unheard := by
          constructor
          · rintro ⟨k, hk, hc, hu⟩
            rcases List.mem_cons.mp hk with rfl | hk
            · exact absurd hu hj
            · exact ⟨k, hk, hc, hu⟩
          · rintro ⟨k, hk, h⟩
            exact ⟨k, by simp [hk], h⟩
        rw [if_congr hiff rfl rfl]
  have h := hfold (List.finRange 4) s rfl rfl
  simp only [List.mem_finRange, true_and] at h
  exact h

/-- R107: the mark of every open point is set, and no mark is lost. -/
theorem markOpenCalls_calls (s : State) (p : Fin 4) (h : (s.point p).isOpen = true) : s.markOpenCalls.link.calls[p] = true := by
  have hfold : ∀ (l : List (Fin 4)) (t : State), (p ∈ l ∨ t.link.calls[p] = true) → (l.foldl State.markCall t).link.calls[p] = true := by
    intro l
    induction l with
    | nil => exact fun t ht => ht.resolve_left (by simp)
    | cons q l ih =>
      intro t ht
      refine ih _ ?_
      by_cases hq : q = p
      · subst hq
        simp
      · rcases ht with ht | ht
        · exact .inl ((List.mem_cons.mp ht).resolve_left (Ne.symm hq))
        · exact .inr (by simpa [Vector.getElem_set, Fin.val_inj, hq] using ht)
  exact hfold _ _ (.inl (by simp [State.openPoints, h]))

theorem startRefresh_channel (s : State) (hp : s.start.phase ≠ .configRead) :
    s.startRefresh.channel .t15 = Channel.fresh (if s.fire.evac then 10 else 10 * s.cfg.refresh) .ms100 .periodic 0 := by
  rw [State.startRefresh, State.startTimer_channel _ _ _ _ _ _ _ hp]
  simp

theorem markOpenCalls_status (s : State) : s.markOpenCalls.link.status = s.link.status := by
  unfold State.markOpenCalls
  exact foldl_keeps (fun t : State => t.link.status) State.markCall (by simp) _ s

/-- R180: RUN as it stands before the calls are marked. -/
def runBegun (s : State) : State := (runDelivered s).markStatus.startRefresh.startUnheard

theorem runBegun_keeps (s : State) : (runBegun s).start = (runDelivered s).start ∧ (runBegun s).modes = (runDelivered s).modes
    ∧ (runBegun s).fire = (runDelivered s).fire ∧ (runBegun s).egress = (runDelivered s).egress
    ∧ (runBegun s).calls = (runDelivered s).calls ∧ (runBegun s).link.status = true := by
  simp [runBegun]

theorem runBegun_channel (s : State) : (runBegun s).channel .t15
      = Channel.fresh (if (runBegun s).fire.evac then 10 else 10 * s.cfg.refresh) .ms100 .periodic 0
    ∧ ∀ k : Fin 4, s.table.entries[k].map NbEntry.state = some .unheard →
        (runBegun s).channel (.silence k) = Channel.fresh s.cfg.silence .ms100 .oneShot 0 := by
  obtain ⟨hphase, himage, htable⟩ := runDelivered_keeps s
  have hcfg : ∀ t : State, t.start = (runDelivered s).start → t.cfg = s.cfg := fun t ht => by simp only [State.cfg, ht, himage]
  have hrun : (runDelivered s).markStatus.startRefresh.start.phase ≠ .configRead := by simp [hphase]
  refine ⟨?_, fun k hk => ?_⟩
  · have hfire : (runBegun s).fire = (runDelivered s).markStatus.fire := by simp [runBegun]
    rw [runBegun, startUnheard_channel _ hrun, if_neg (by simp), startRefresh_channel _ (by simp [hphase]),
      hcfg _ (by simp), ← hfire]
    rfl
  · rw [runBegun, startUnheard_channel _ hrun, if_pos ⟨k, rfl, by simpa [htable] using hk⟩, hcfg _ (by simp)]

/-- What the marking of the open calls leaves, and what it marks. -/
theorem beginRun_begun (s : State) : s.beginRun.start = (runDelivered s).start ∧ s.beginRun.modes = settledModes s.modes
    ∧ s.beginRun.egress = (runDelivered s).egress ∧ s.beginRun.fire = (runBegun s).fire ∧ s.beginRun.timers = (runBegun s).timers
    ∧ s.beginRun.link.status = true
    ∧ (s.start.kind = .warm → ∀ p : Fin 4, (s.point p).isOpen = true → s.beginRun.link.calls[p] = true) := by
  obtain ⟨hstart, hmodes, hfire, hegress, hcalls, hstatus⟩ := runBegun_keeps s
  rw [runDelivered_modes] at hmodes
  rw [beginRun_eq, ← runBegun]
  split
  next hk =>
    have hopen : ∀ p : Fin 4, ((runBegun s).point p).isOpen = (s.point p).isOpen := fun p => by
      rw [point_congr hcalls, PointRec.isOpen, PointRec.isOpen, runDelivered_state]
    simp only [State.markOpenCalls_keeps, markOpenCalls_status]
    exact ⟨hstart, hmodes, hegress, trivial, trivial, hstatus, fun _ p hp => markOpenCalls_calls _ p (by rw [hopen]; exact hp)⟩
  next hk => exact ⟨hstart, hmodes, hegress, rfl, rfl, hstatus, fun h => absurd h hk⟩

theorem beginRun_start (s : State) : s.beginRun.start = { s.start with phase := .run, freeze := false } := by
  rw [(beginRun_begun s).1, start_eq (s := s.setPhase .run) (t := runDelivered s) (by simp [runDelivered]), runDelivered_freeze]
  rfl

/-- Settles O12: the three deliveries establish their parts whatever their order. -/
theorem startOfRunSettlesComputesAndReleases : Obligations.StartOfRunSettlesComputesAndReleases := by
  refine ⟨fun s hl hlisten hexp => ?_, fun s h => ⟨s, ?_, rfl⟩⟩
  · obtain ⟨ch, -, hacts⟩ := s.onExpiry_acts .t19 s.listening State.beginRun hl hlisten hexp
    obtain ⟨-, hmodes, hegress, hfire, htimers, hstatus, hcalls⟩ := beginRun_begun (s.setChannel .t19 ch)
    obtain ⟨h15, hsilence⟩ := runBegun_channel (s.setChannel .t19 ch)
    have hcfg : (s.setChannel .t19 ch).cfg = s.cfg := rfl
    rw [← hfire, hcfg] at h15
    rw [hcfg] at hsilence
    have hch : ∀ c, (s.setChannel .t19 ch).beginRun.channel c = (runBegun (s.setChannel .t19 ch)).channel c := fun c => by
      simp only [State.channel, htimers]
    refine ⟨(s.setChannel .t19 ch).beginRun, congrArg _ hacts, beginRun_start _, ?_, fun h => ?_, fun h => ?_, ?_, hstatus,
      by rw [hch, h15], fun k hk => by rw [hch, hsilence k hk], hcalls, ?_⟩
    · rw [hmodes]
      unfold settledModes
      split
      next h => exact h
      next => rfl
    · rw [hmodes]
      simp [settledModes, h]
    · rw [hmodes]
      simp [settledModes, h]
    · rw [hegress]
      exact runDelivered_computed _
    · simp
  · exact congrArg _ (s.onExpiry_idle _ _ _ (h.imp_left fun h => by simp [h]))

end Sys2Proof.Proofs.StartOfRun
end

section
/-! The beginning of a frame: the slot it is sent from and the content it carries (R160, R164, R165, R173). -/

namespace Sys2Proof.Proofs.FrameBegins

open Sys2Proof Sys2Proof.Machine Sys2Proof.Proofs.PartFrames Sys2Proof.Proofs.Steps

theorem urgent_iff (s : State) : s.urgent = true ↔ s.fire.state ≠ .clear ∨ s.watch.intrusion = true ∨ s.fire.evac = true := by
  simp [State.urgent, or_assoc]

theorem statusReady_iff (s : State) : s.statusReady = true ↔ s.link.status = true ∧ s.timers.t16.running = false := by
  simp [State.statusReady]

/-- R164: the search for the pending CALL slot of lowest index. -/
theorem find_call_none {s : State} (h : ∀ q : Fin 4, s.link.calls[q] = false) :
    ((List.finRange 4).find? fun p => s.link.calls[p]) = none := by
  rw [List.find?_eq_none]
  intro q _
  simp only [h q]
  decide

theorem find_call_some {s : State} {p : Fin 4} (hp : s.link.calls[p] = true) (hq : ∀ q : Fin 4, q < p → s.link.calls[q] = false) :
    ((List.finRange 4).find? fun p => s.link.calls[p]) = some p := by
  rw [List.find?_eq_some_iff_getElem]
  refine ⟨hp, p.val, by simp, by simp, fun j hj => ?_⟩
  have hlt : j < 4 := hj.trans p.isLt
  have h := hq ⟨j, hlt⟩ hj
  simpa using h

theorem chosenSlot_urgent {s : State} (hr : s.statusReady = true) (hu : s.urgent = true) : s.chosenSlot = some .status := by
  simp [State.chosenSlot, hr, hu]

theorem chosenSlot_call {s : State} {p : Fin 4} (hn : ¬(s.statusReady = true ∧ s.urgent = true)) (hp : s.link.calls[p] = true)
    (hq : ∀ q : Fin 4, q < p → s.link.calls[q] = false) : s.chosenSlot = some (.call p) := by
  rw [State.chosenSlot, if_neg (by simpa using hn), find_call_some hp hq]

theorem chosenSlot_rest {s : State} (hn : ¬(s.statusReady = true ∧ s.urgent = true)) (hq : ∀ q : Fin 4, s.link.calls[q] = false) :
    s.chosenSlot = if s.link.offer.isSome then some .answer else if s.statusReady then some .status else none := by
  rw [State.chosenSlot, if_neg (by simpa using hn), find_call_none hq]

/-- R160: every condition holds under which a frame may begin. -/
def Clear (s : State) : Prop :=
  s.live = true ∧ s.start.phase = .run ∧ s.link.quiet = false ∧ s.link.bus = .idle ∧ s.link.sending = none

theorem mayBegin_iff (s : State) : s.mayBegin = true ↔ Clear s ∧ s.chosenSlot.isSome = true := by
  simp [State.mayBegin, Clear, and_assoc]

theorem beginFrame_sends {s : State} {slot : Slot} {fr : Frame} (hc : Clear s) (hs : s.chosenSlot = some slot)
    (hf : s.capture slot = some fr) : s.beginFrame = { s with link := { s.link.setPending slot false none with
      sending := some { slot := slot, frame := fr, offer := if slot = .answer then s.link.offer else none, newer := false },
      bus := .waiting false } } := by
  have hm : s.mayBegin = true := (mayBegin_iff s).mpr ⟨hc, by simp [hs]⟩
  simp [State.beginFrame, hm, hs, hf]

theorem sealed_kindCode (fr : Frame) : fr.sealed.kindCode = fr.kindCode := by
  cases fr <;> rfl

/-! ### The content of a frame (R173) -/

theorem extract_position (a b : Bool) (c : BitVec 2) :
    (BitVec.ofBool a ++ BitVec.ofBool b ++ c).extractLsb' 0 2 = c ∧ (BitVec.ofBool a ++ BitVec.ofBool b ++ c).getLsbD 3 = a
      ∧ (BitVec.ofBool a ++ BitVec.ofBool b ++ c).getLsbD 2 = b := by
  revert a b c
  decide

theorem doorField_owned {s : State} {d : Fin 4} (h : (s.door d).desc.isOwned = true) : s.doorField d
    = BitVec.ofBool true ++ BitVec.ofBool ((s.door d).lock == .free) ++ positionCode (s.door d).position := by
  simp [State.doorField, h]

theorem doorField_other {s : State} {d : Fin 4} (h : (s.door d).desc.isOwned = false) : s.doorField d = 0 := by
  simp [State.doorField, h]

theorem statusFrame_doors (s : State) (d : Fin 4) : s.statusFrame.doors[d] = s.doorField d := by
  simp [State.statusFrame]

theorem statusFrame_owned {s : State} {d : Fin 4} (hk : (s.door d).desc.kind ≠ .blank) (ho : (s.door d).desc.owned = true) :
    s.statusFrame.doors[d].getLsbD 3 = true ∧ (s.statusFrame.doors[d].getLsbD 2 = true ↔ (s.door d).lock = .free)
      ∧ s.statusFrame.doors[d].extractLsb' 0 2 = positionCode (s.door d).position := by
  obtain ⟨hpos, hfit, hpass⟩ := extract_position true ((s.door d).lock == .free) (positionCode (s.door d).position)
  rw [statusFrame_doors, doorField_owned (by simp [DoorDesc.isOwned, hk, ho]), hpos, hfit, hpass]
  simp

theorem callFrame_content (s : State) (p : Fin 4) : (s.callFrame p).source = s.own ∧ (s.callFrame p).point.toNat = p.val
    ∧ (s.callFrame p).spare = 0
    ∧ ((s.point p).state = .idle → (s.callFrame p).state = 2 ∧ (s.callFrame p).level = 0 ∧ (s.callFrame p).answerer = 0)
    ∧ ((s.point p).state = .waiting → (s.callFrame p).state = 0 ∧ (s.callFrame p).answerer = 0)
    ∧ ((s.point p).state = .answered → (s.callFrame p).state = 1 ∧ (s.callFrame p).answerer = (s.point p).answerer)
    ∧ ((s.point p).state ≠ .idle → (s.point p).level ≤ 15 → (s.callFrame p).level.toNat = (s.point p).level) := by
  have hp := p.isLt
  cases h : (s.point p).state <;> simp [State.callFrame, h] <;> omega

theorem answerFrame_content (s : State) (id : CallId) : (s.answerFrame id).source = s.own
    ∧ (s.answerFrame id).origin = id.origin ∧ (s.answerFrame id).point.toNat = id.point.val ∧ (s.answerFrame id).spare1 = 0
    ∧ (s.answerFrame id).spare2 = 0 := by
  have hp := id.point.isLt
  refine ⟨rfl, rfl, ?_, rfl, rfl⟩
  simp only [State.answerFrame, BitVec.toNat_ofNat]
  omega

/-- Settles O41, by the slot that is chosen. -/
theorem beginFrameSendsTheMostUrgentSlot : Obligations.BeginFrameSendsTheMostUrgentSlot := by
  have notUrgent : ∀ s : State, ¬(s.link.status = true ∧ s.timers.t16.running = false ∧ (s.fire.state ≠ .clear
      ∨ s.watch.intrusion = true ∨ s.fire.evac = true)) → ¬(s.statusReady = true ∧ s.urgent = true) := fun s h => by
    rw [statusReady_iff, urgent_iff, and_assoc]
    exact h
  refine ⟨fun s hl hp hq hb hn hs ht hu => ?_, fun s p hl hp hq hb hn hs hc hlow => ?_, fun s id hl hp hq hb hn hs hc ho => ?_,
    fun s h => ?_, fun s => ?_⟩
  · have hready : s.statusReady = true := (statusReady_iff s).mpr ⟨hs, ht⟩
    have hchosen : s.chosenSlot = some .status := by
      by_cases hurg : s.urgent = true
      · exact chosenSlot_urgent hready hurg
      · obtain ⟨ho, hc⟩ := hu.resolve_left (mt (urgent_iff s).mpr hurg)
        rw [chosenSlot_rest (fun h => hurg h.2) hc, ho, hready]
        rfl
    refine ⟨_, rfl, beginFrame_sends ⟨hl, hp, hq, hb, hn⟩ hchosen rfl, ?_⟩
    rw [beginFrame_sends ⟨hl, hp, hq, hb, hn⟩ hchosen rfl]
    show some (Frame.status s.statusFrame).sealed.kindCode = _
    rw [sealed_kindCode]
    rfl
  · exact ⟨_, rfl, beginFrame_sends ⟨hl, hp, hq, hb, hn⟩ (chosenSlot_call (notUrgent s hs) hc hlow) rfl⟩
  · have hchosen : s.chosenSlot = some .answer := by
      rw [chosenSlot_rest (notUrgent s hs) hc, ho]
      rfl
    have h := beginFrame_sends ⟨hl, hp, hq, hb, hn⟩ hchosen (show s.capture .answer = some _ by rw [State.capture, ho]; rfl)
    exact ⟨_, rfl, by rw [h, ho]; rfl⟩
  · have hm : s.mayBegin = false := by
      rw [← Bool.not_eq_true, mayBegin_iff]
      rintro ⟨⟨hl, hp, hq, hb, hn⟩, hsome⟩
      rcases h with h | h | h | h | h | ⟨hc, ho, hr⟩
      · simp [h] at hl
      · exact h hp
      · simp [h] at hq
      · exact h hb
      · simp [hn] at h
      · have hready : s.statusReady = false := by
          rw [← Bool.not_eq_true, statusReady_iff]
          rintro ⟨h1, h2⟩
          simp [h1, h2] at hr
        rw [chosenSlot_rest (by simp [hready]) hc, ho, hready] at hsome
        simp at hsome
    exact ⟨s, by simp [exec, execBeginFrame, State.beginFrame, hm], rfl⟩
  · refine ⟨urgent_iff s, rfl, ?_, ?_, rfl, rfl, rfl, ?_, rfl, fun hc => ?_, rfl, ?_, fun d hk ho => ?_, fun d h => ?_,
      callFrame_content s, answerFrame_content s⟩
    · simp only [State.statusFrame]
      cases s.fire.state <;> rfl
    · simp only [State.statusFrame]
      cases s.watch.guard <;> rfl
    · simp [State.statusFrame]
    · simp only [State.statusFrame, BitVec.toNat_ofNat]
      omega
    · simp only [State.statusFrame]
      cases s.modes.mode <;> rfl
    · obtain ⟨hfit, hpass, hpos⟩ := statusFrame_owned hk ho
      rw [hpos]
      exact ⟨hfit, hpass, fun h => by rw [h]; rfl, fun h => by rw [h]; rfl, fun h => by rw [h]; rfl⟩
    · rw [statusFrame_doors, doorField_other (by simpa [DoorDesc.isOwned, or_iff_not_imp_left] using h)]

end Sys2Proof.Proofs.FrameBegins
end

section
/-! The end of an own frame (R160 to R165), and the link unit's timers, the idle bus and the end of a buzzer pattern (R159, R166, R187). -/

namespace Sys2Proof.Proofs.LinkEvents

open Sys2Proof Sys2Proof.Machine Sys2Proof.Proofs.PartFrames Sys2Proof.Proofs.Steps Sys2Proof.Proofs.ResetUnit

/-- A frame's end is the end of it where no held reset waits. -/
theorem afterFrame_free (s u : State) (h : u.start.request = .none) : s.afterFrame u = u := by
  simp [State.afterFrame, State.frameOver, h]

theorem frameSent_status {s : State} {f : Sending} (hf : s.link.sending = some f) (hs : f.slot = .status) : s.frameSent
    = State.startTimer { s with link := { s.link with sending := none, faults := 0, bus := .waiting false } } .t16 10 .ms10 .oneShot 0 := by
  simp [State.frameSent, hf, hs]

theorem frameSent_other {s : State} {f : Sending} (hf : s.link.sending = some f) (hs : f.slot ≠ .status) : s.frameSent
    = { s with link := { s.link with sending := none, faults := 0, bus := .waiting false } } := by
  simp [State.frameSent, hf, hs]

theorem frameSent_channel (s : State) (c : Chan) (hc : c ≠ .t16) : s.frameSent.channel c = s.channel c := by
  rcases hf : s.link.sending with _ | f
  · simp [State.frameSent, hf]
  · by_cases hs : f.slot = .status
    · rw [frameSent_status hf hs, State.startTimer_other _ _ _ _ _ _ _ (Ne.symm hc)]
      rfl
    · rw [frameSent_other hf hs]
      rfl

theorem frameSent_eq {s : State} {f : Sending} (hf : s.link.sending = some f) : s.frameSent
    = { s with timers := s.frameSent.timers, link := { s.link with sending := none, faults := 0, bus := .waiting false } } := by
  by_cases hs : f.slot = .status
  · rw [frameSent_status hf hs]
    exact state_eq (by simp)
  · rw [frameSent_other hf hs]

/-! ### A frame that is not sent -/

/-- R165: a STATUS or CALL frame not sent leaves its slot pending and everything else of the link unit. -/
theorem frameFailed_pending (s : State) {f : Sending} (view : BusView) (hs : f.slot ≠ .answer) :
    s.frameFailed f view = { s with link := { s.link with
        sending := none, bus := view, status := s.link.status || f.slot == .status
        calls := (s.frameFailed f view).link.calls } }
      ∧ ∀ p : Fin 4, (s.frameFailed f view).link.calls[p] = (s.link.calls[p] || f.slot == .call p) := by
  rw [s.frameFailed_mark f view hs]
  cases hf : f.slot with
  | status => simp [LinkUnit.setPending]
  | call q =>
    refine ⟨by simp [LinkUnit.setPending], fun p => ?_⟩
    by_cases hq : q = p
    · subst hq
      simp [LinkUnit.setPending]
    · simp [LinkUnit.setPending, Fin.val_inj, hq]
  | answer => exact absurd hf hs

/-- R102: a failed offer is unsent again, or lost to a newer one. -/
theorem frameFailed_answer (s : State) {f : Sending} (view : BusView) {id : CallId} (hs : f.slot = .answer)
    (ho : f.offer = some id) :
    s.frameFailed f view = { s with
      link := { s.link with sending := none, bus := view, offer := if f.newer then s.link.offer else some id }
      calls := { s.calls with
        list := if f.newer = true ∧ s.link.offer ≠ some id then
            s.calls.list.map (fun e => if e.id = id then { e with offered := false } else e)
          else s.calls.list } } := by
  cases hn : f.newer with
  | false => simp [s.frameFailed_offer f view id hs ho hn]
  | true =>
    by_cases h : s.link.offer = some id
    · simp [State.frameFailed, hs, ho, hn, h]
    · simp [State.frameFailed, hs, ho, hn, h, State.setOffered, State.setList, updateEntry]

/-- The parts of the state that a failed frame may touch. -/
theorem frameFailed_reach (s : State) (f : Sending) (view : BusView) : s.frameFailed f view
    = { s with link := (s.frameFailed f view).link, calls := (s.frameFailed f view).calls } :=
  state_eq (by simp)

theorem frameFailed_link (s : State) (f : Sending) (view : BusView) : (s.frameFailed f view).link = { s.link with
      sending := none, bus := view, status := (s.frameFailed f view).link.status
      calls := (s.frameFailed f view).link.calls, offer := (s.frameFailed f view).link.offer }
    ∧ (s.link.status = true ∨ f.slot = .status → (s.frameFailed f view).link.status = true)
    ∧ ∀ p : Fin 4, (s.frameFailed f view).link.calls[p] = (s.link.calls[p] || f.slot == .call p) := by
  by_cases hs : f.slot = .answer
  · rcases ho : f.offer with _ | id
    · simp [State.frameFailed, hs, ho]
    · rw [frameFailed_answer s view hs ho]
      simp [hs]
  · obtain ⟨heq, hcalls⟩ := frameFailed_pending s view hs
    refine ⟨?_, fun h => ?_, hcalls⟩
    · rw [heq]
    · rw [heq]
      simpa using h

/-! ### A transmit fault -/

theorem transmitFault_below {s : State} {f : Sending} {b : Nat} (hf : s.link.sending = some f) (hb : f.mayFault b = true)
    (hn : s.link.faults < 2) : s.transmitFault b = { s.frameFailed f (viewAtFault b) with
      link := { (s.frameFailed f (viewAtFault b)).link with faults := s.link.faults + 1 } } := by
  have h : s.link.faults + 1 < 3 := by omega
  simp [State.transmitFault, hf, hb, h]

theorem transmitFault_third {s : State} {f : Sending} {b : Nat} (hf : s.link.sending = some f) (hb : f.mayFault b = true)
    (hn : 2 ≤ s.link.faults) : s.transmitFault b = (s.frameFailed f (viewAtFault b)).enterQuiet := by
  have h : ¬ s.link.faults + 1 < 3 := by omega
  simp [State.transmitFault, hf, hb, h]

/-- R162: QUIET for 10 s, with its trouble. -/
theorem enterQuiet_spec (s : State) : s.enterQuiet.link = { s.link with quiet := true, faults := 0, status := s.enterQuiet.link.status }
    ∧ (s.link.status = true → s.enterQuiet.link.status = true)
    ∧ Trouble.linkDrive ∈ s.enterQuiet.troubles.record
    ∧ (s.start.phase ≠ .configRead → s.enterQuiet.channel .t19 = Channel.fresh 100 .ms100 .oneShot 0)
    ∧ (∀ c, c ≠ .t19 → s.enterQuiet.channel c = s.channel c)
    ∧ s.enterQuiet = { s with
      timers := s.enterQuiet.timers, link := s.enterQuiet.link, troubles := s.enterQuiet.troubles
      buzzer := s.enterQuiet.buzzer } := by
  obtain ⟨hlink, hstatus⟩ := State.enterTrouble_link { s with link := { s.link with quiet := true, faults := 0 } } .linkDrive
  have hquiet : s.enterQuiet.link
      = (State.enterTrouble { s with link := { s.link with quiet := true, faults := 0 } } .linkDrive).link := by
    simp [State.enterQuiet]
  refine ⟨?_, ?_, ?_, fun hp => ?_, fun c hc => ?_, state_eq (by simp)⟩
  · rw [hquiet]
    exact hlink
  · rw [hquiet]
    exact hstatus
  · simp only [State.enterQuiet, State.startTimer_keeps, State.mem_enterTrouble]
    exact .inl trivial
  · rw [State.enterQuiet, State.startTimer_channel _ _ _ _ _ _ _ (by simpa using hp), if_pos rfl]
  · rw [State.enterQuiet, State.startTimer_other _ _ _ _ _ _ _ (Ne.symm hc)]
    simp [State.channel]

/-- R162: the third fault in a row, after what the failed frame itself leaves. -/
theorem transmitFault_quiets {s : State} {f : Sending} {b : Nat} (hf : s.link.sending = some f) (hb : f.mayFault b = true)
    (hn : 2 ≤ s.link.faults) :
    let u := s.frameFailed f (viewAtFault b)
    let t := s.transmitFault b
    t.link = { u.link with quiet := true, faults := 0, status := t.link.status } ∧ (u.link.status = true → t.link.status = true)
      ∧ Trouble.linkDrive ∈ t.troubles.record
      ∧ (s.start.phase ≠ .configRead → t.channel .t19 = Channel.fresh 100 .ms100 .oneShot 0)
      ∧ (∀ c, c ≠ .t19 → t.channel c = s.channel c) ∧ t.calls = u.calls
      ∧ t = { s with timers := t.timers, link := t.link, troubles := t.troubles, buzzer := t.buzzer, calls := t.calls } := by
  intro u t
  have ht : t = u.enterQuiet := transmitFault_third hf hb hn
  obtain ⟨hlink, hstatus, htrouble, h19, hother, heq⟩ := enterQuiet_spec u
  have hu : u.timers = s.timers ∧ u.start = s.start := by simp [u]
  have hch : ∀ c, u.channel c = s.channel c := fun c => by simp only [State.channel, hu.1]
  rw [ht]
  refine ⟨hlink, hstatus, htrouble, fun hp => h19 (by rw [hu.2]; exact hp), fun c hc => (hother c hc).trans (hch c), ?_,
    state_eq (by simp [u])⟩
  rw [heq]

/-- Settles O42, by the event that ends the frame and the slot it was sent from. -/
theorem frameOutcomesKeepOrLoseTheMark : Obligations.FrameOutcomesKeepOrLoseTheMark := by
  have lost : ∀ (s : State) (f : Sending) (b : Fin 8), s.live = true → s.start.request = .none → s.link.sending = some f →
      f.mayLose b = true → exec (.lostArbitration b) s = .next (s.frameFailed f .following) := by
    intro s f b hl hr hf hb
    simp only [exec, execLostArbitration, hl, if_true]
    rw [afterFrame_free s _ (by simpa using hr), loseArbitration_lost hf hb]
  have faulted : ∀ (s : State) (b : Nat), s.live = true → s.start.request = .none →
      exec (.transmitFault b) s = .next (s.transmitFault b) := by
    intro s b hl hr
    simp only [exec, execTransmitFault, hl, if_true]
    rw [afterFrame_free s _ (by simpa using hr)]
  refine ⟨fun s f hl hr hf => ⟨s.frameSent, ?_, fun hs hp => ?_, fun hs => ?_, fun c _ hc => frameSent_channel s c hc,
      frameSent_eq hf⟩, fun s hf => ⟨s, ?_, rfl⟩, fun s f b hl hr hf hs hb => ⟨_, lost s f b hl hr hf hb,
      frameFailed_pending s _ hs⟩, fun s f b id hl hr hf hs ho hb => ⟨_, lost s f b hl hr hf hb, frameFailed_answer s _ hs ho⟩,
    fun s b h => ⟨s, ?_, rfl⟩, fun s f b hl hr hf hs hb hn => ⟨_, faulted s b hl hr, ?_⟩,
    fun s f b id hl hr hf hs ho hb hn => ⟨_, faulted s b hl hr, ?_⟩, fun s f b hl hr hf hb hn => ⟨_, faulted s b hl hr, ?_⟩,
    fun s b h => ⟨s, ?_, rfl⟩⟩
  · simp only [exec, execFrameSent, hl, if_true]
    rw [afterFrame_free s _ (by simpa using hr)]
  · rw [frameSent_status hf hs, State.startTimer_channel _ _ _ _ _ _ _ (by simp [hp]), if_pos rfl]
  · rw [frameSent_other hf hs]
  · simp [exec, execFrameSent, State.frameSent, State.afterFrame, hf]
  · have hlose : s.live = true → s.loseArbitration b = s := fun hl => by
      rcases h with h | h | ⟨f, hf, hb⟩
      · simp [hl] at h
      · simp [State.loseArbitration, h]
      · have hm : f.mayLose b = false := hb
        simp [State.loseArbitration, hf, hm]
    cases hl : s.live with
    | false => simp [exec, execLostArbitration, hl]
    | true =>
      simp only [exec, execLostArbitration, hl, if_true, hlose hl]
      cases h : s.link.sending <;> simp [State.afterFrame, h]
  · obtain ⟨heq, hcalls⟩ := frameFailed_pending s (viewAtFault b) hs
    rw [transmitFault_below hf hb hn]
    refine ⟨?_, hcalls⟩
    rw [heq]
    rfl
  · rw [transmitFault_below hf hb hn, frameFailed_answer s _ hs ho]
    rfl
  · obtain ⟨hulink, hustatus, hucalls⟩ := frameFailed_link s f (viewAtFault b)
    obtain ⟨hlink, hstatus, htrouble, h19, hother, hcalls, heq⟩ := transmitFault_quiets hf hb hn
    have htcalls : (s.transmitFault b).link.calls = (s.frameFailed f (viewAtFault b)).link.calls := by rw [hlink]
    have htoffer : (s.transmitFault b).link.offer = (s.frameFailed f (viewAtFault b)).link.offer := by rw [hlink]
    refine ⟨?_, htrouble, fun hp => h19 (by simp [hp]), fun c _ hc => hother c hc, fun h => hstatus (hustatus h), fun p => ?_,
      fun hs => ?_, fun id hs ho => ?_, heq⟩
    · rw [htcalls, htoffer, hlink, hulink]
      rfl
    · rw [htcalls]
      exact hucalls p
    · rw [htoffer, hcalls, (frameFailed_pending s _ hs).1]
      exact ⟨rfl, rfl⟩
    · rw [htoffer, hcalls, frameFailed_answer s _ hs ho]
      exact ⟨rfl, rfl⟩
  · have hfault : s.live = true → s.transmitFault b = s := fun hl => by
      rcases h with h | h | ⟨f, hf, hb⟩
      · simp [hl] at h
      · simp [State.transmitFault, h]
      · simp [State.transmitFault, hf, hb]
    cases hl : s.live with
    | false => simp [exec, execTransmitFault, hl]
    | true =>
      simp only [exec, execTransmitFault, hl, if_true, hfault hl]
      cases h : s.link.sending <;> simp [State.afterFrame, h]

/-! ### The refresh, the pacing and the end of QUIET -/

/-- R93: the marks of the open points, and no other. -/
theorem markOpenCalls_mark (s : State) (p : Fin 4) :
    s.markOpenCalls.link.calls[p] = (s.link.calls[p] || (s.point p).isOpen) := by
  have hfold : ∀ (l : List (Fin 4)) (t : State),
      (l.foldl State.markCall t).link.calls[p] = (t.link.calls[p] || decide (p ∈ l)) := by
    intro l
    induction l with
    | nil => simp
    | cons q l ih =>
      intro t
      rw [List.foldl_cons, ih]
      by_cases hq : q = p
      · subst hq
        simp
      · simp [Fin.val_inj, hq, Ne.symm hq]
  have h := hfold s.openPoints s
  simpa [State.markOpenCalls, State.openPoints] using h

theorem markOpenCalls_link (s : State) : s.markOpenCalls.link = { s.link with calls := s.markOpenCalls.link.calls } := by
  have h := markOpenCalls_traffic s
  cases hl : s.link
  cases ht : s.markOpenCalls.link
  simp_all

/-- R164: T16, a one-shot channel, is halted once its expiry is taken. -/
theorem takeExpiry_halts {ch new : Channel} (h : ch.takeExpiry = some new) (hk : ch.kind = .oneShot)
    (hw : ch.waiting = [] ∨ ch.running = false) : new.running = false := by
  unfold Channel.takeExpiry at h
  split at h
  next hc =>
    have hr : ch.running = false := hw.resolve_left fun hnil => by simp [hnil] at hc
    cases h
    exact hr
  next =>
    split at h
    · cases h
      simp [Channel.expired, hk]
    · cases h

/-- Settles O43, event by event. -/
theorem linkTimersBusAndBuzzerRunOn : Obligations.LinkTimersBusAndBuzzerRunOn := by
  refine ⟨fun s hl h => ?_, fun s h => ⟨s, congrArg _ (s.onExpiry_idle _ _ _ (.inr h)), rfl⟩, fun s hl h => ?_,
    fun s h => ⟨s, congrArg _ (s.onExpiry_idle _ _ _ (.inr h)), rfl⟩, fun s hl hq h => ?_,
    fun s h => ⟨s, congrArg _ (s.onExpiry_idle _ _ _ (h.imp_left fun hq => by simp [hq])), rfl⟩, fun s hl hs hb => ⟨_, ?_, rfl⟩,
    fun s h => ⟨s, ?_, rfl⟩, fun s o hl ha => ?_, fun s o hl ha => ?_, fun s o hl => ⟨s, by simp [exec, execBuzzerPatternEnd, hl], rfl⟩⟩
  · obtain ⟨ch, -, hact⟩ := s.onExpiry_acts .t15 true (fun t => t.markStatus.markOpenCalls) hl rfl h
    refine ⟨_, congrArg Host.Outcome.next hact, ?_, fun p => ?_, fun c _ hc => ?_, state_eq (by simp)⟩
    · rw [markOpenCalls_link]
      rfl
    · rw [markOpenCalls_mark]
      rfl
    · simp [State.channel, State.setChannel, Ne.symm hc]
  · obtain ⟨ch, hch, hact⟩ := s.onExpiry_acts .t16 true id hl rfl h
    refine ⟨_, congrArg Host.Outcome.next hact, fun hk hw => ?_, fun c _ hc => ?_, state_eq (by simp)⟩
    · simpa using takeExpiry_halts hch hk hw
    · simp [Ne.symm hc]
  · obtain ⟨ch, -, hact⟩ := s.onExpiry_acts .t19 s.link.quiet (fun t => { t with link := { t.link with quiet := false } }) hl hq h
    refine ⟨_, congrArg Host.Outcome.next hact, fun c _ hc => ?_, rfl⟩
    simp [State.channel, State.setChannel, Ne.symm hc]
  · simp [exec, execBusIdle, State.findIdle, hl, hs, hb]
  · have hidle : (!s.live || s.link.sending.isSome || s.link.bus == .following) = true := by
      rcases h with h | h | h <;> simp [h]
    simp only [exec, execBusIdle, State.findIdle, hidle, if_true]
  · obtain ⟨age, hage⟩ := Option.isSome_iff_exists.mp ha
    refine ⟨_, by simp only [exec, execBuzzerPatternEnd, hl, if_true]; rfl, ?_, fun q hq => ?_, ?_, rfl⟩
    · cases o <;> simp [OneShotRec.ended, Buzzer.oneShot, Buzzer.setOneShot] at hage ⊢ <;> simp [hage]
    · cases o <;> cases q <;> simp_all [Buzzer.oneShot, Buzzer.setOneShot]
    · cases o <;> simp [Buzzer.setOneShot]
  · refine ⟨_, by simp only [exec, execBuzzerPatternEnd, hl, if_true]; rfl, ?_⟩
    have hsame : s.buzzer.setOneShot o (s.buzzer.oneShot o).ended = s.buzzer := by
      cases o <;> simp [OneShotRec.ended, Buzzer.oneShot, Buzzer.setOneShot] at ha ⊢ <;> simp [ha]
    rw [hsame]

end Sys2Proof.Proofs.LinkEvents
end

section
/-! Discarded frames and stray bits (R159, R167, R169 to R171). -/

namespace Sys2Proof.Proofs.Reception

open Sys2Proof Sys2Proof.Machine Sys2Proof.Proofs.PartFrames Sys2Proof.Proofs.Steps Sys2Proof.Proofs.ResetUnit
open Sys2Proof.Proofs.StepAndReset

/-- What the receiver's events bring: a frame at its end, or the activity seen. -/
def Receives (c : Instr) : Prop :=
  (∃ f, c = .receivedStatus f) ∨ (∃ f, c = .receivedNotice f) ∨ (∃ f, c = .receivedOffer f) ∨ ∃ a, c = .frameDiscarded a

/-- A discarded frame as it is counted, `t` being the state after it: the clauses that every kind of discarded frame shares. -/
def Counted (counted : Bool) (s t : State) : Prop :=
  t.link = { s.link with bus := .waiting counted, discards := min 8 (s.link.discards + 1), status := t.link.status }
    ∧ t = { s with link := t.link, troubles := t.troubles, buzzer := t.buzzer }
    ∧ (7 ≤ s.link.discards → Trouble.linkNoise ∈ t.troubles.record)
    ∧ (s.link.discards < 7 → t.troubles = s.troubles)

/-- R171: the count stops at 8, and LINK-NOISE stands there. -/
theorem countDiscard_eq (s : State) : s.countDiscard =
    if min 8 (s.link.discards + 1) = 8 then
      State.enterTrouble { s with link := { s.link with discards := min 8 (s.link.discards + 1) } } .linkNoise
    else { s with link := { s.link with discards := min 8 (s.link.discards + 1) } } := by
  have hmin : (if s.link.discards < 8 then s.link.discards + 1 else 8) = min 8 (s.link.discards + 1) := by
    split <;> omega
  unfold State.countDiscard
  dsimp only
  rw [hmin]

theorem countDiscard_counted (s : State) (b : Bool) : Counted b s (s.awaitIdle b).countDiscard := by
  have heq := countDiscard_eq (s.awaitIdle b)
  have hcount : (s.awaitIdle b).link.discards = s.link.discards := rfl
  rw [hcount] at heq
  by_cases h8 : min 8 (s.link.discards + 1) = 8
  · obtain ⟨hlink, -⟩ := State.enterTrouble_link
      { s.awaitIdle b with link := { (s.awaitIdle b).link with discards := min 8 (s.link.discards + 1) } } .linkNoise
    rw [if_pos h8] at heq
    rw [Counted, heq]
    refine ⟨hlink, state_eq (by simp), fun _ => ?_, fun h => by omega⟩
    rw [State.mem_enterTrouble]
    exact .inl rfl
  · rw [if_neg h8] at heq
    rw [Counted, heq]
    exact ⟨rfl, rfl, fun h => by omega, fun _ => rfl⟩

/-- R170: an own number enters DUPLICATE on top of the count, and nothing else does. -/
theorem markDuplicate_counted {s u : State} (fr : Frame) (h : Counted false s u) :
    (u.markDuplicate fr).link = { s.link with
        bus := .waiting false, discards := min 8 (s.link.discards + 1), status := (u.markDuplicate fr).link.status }
      ∧ u.markDuplicate fr = { s with
        link := (u.markDuplicate fr).link, troubles := (u.markDuplicate fr).troubles, buzzer := (u.markDuplicate fr).buzzer }
      ∧ (7 ≤ s.link.discards → Trouble.linkNoise ∈ (u.markDuplicate fr).troubles.record)
      ∧ (fr.source = s.own → Trouble.duplicate ∈ (u.markDuplicate fr).troubles.record)
      ∧ (s.link.discards < 7 → fr.source ≠ s.own → (u.markDuplicate fr).troubles = s.troubles) := by
  obtain ⟨hlink, heq, hnoise, hfew⟩ := h
  have hown : u.own = s.own := by rw [heq]; rfl
  by_cases hsrc : fr.source = s.own
  · have hdup : u.markDuplicate fr = u.enterTrouble .duplicate := by simp [State.markDuplicate, hown, hsrc]
    obtain ⟨hdlink, -⟩ := u.enterTrouble_link .duplicate
    rw [hdup]
    refine ⟨?_, state_eq ?_, fun h => ?_, fun _ => ?_, fun _ h => absurd hsrc h⟩
    · rw [hdlink, hlink]
    · rw [heq]
      simp
    · rw [State.mem_enterTrouble]
      exact .inr (hnoise h)
    · rw [State.mem_enterTrouble]
      exact .inl rfl
  · have hdup : u.markDuplicate fr = u := by simp [State.markDuplicate, hown, hsrc]
    rw [hdup]
    exact ⟨hlink, heq, hnoise, fun h => absurd h hsrc, fun h _ => hfew h⟩

/-- R169: a frame that is not good, at its end on the bus. -/
theorem takeFrame_bad {s : State} {fr : Frame} (hh : s.hearing = true) (hr : s.link.receives = true) (hb : fr.isBad s.own = true) :
    s.takeFrame fr = ((s.awaitIdle false).countDiscard).markDuplicate fr := by
  rw [s.takeFrame_judged fr hh hr, if_pos hb]

theorem isBad_false_iff (fr : Frame) (own : Station) : fr.isBad own = false ↔
    fr.check = crc fr.body ∧ fr.source ≠ 0 ∧ fr.source ≠ 63 ∧ fr.source ≠ own ∧ (∀ f, fr = .call f → f.state ≠ 3) := by
  cases fr <;> simp [Frame.isBad, Frame.checkOk, and_assoc]

theorem receives_iff (l : LinkUnit) :
    l.receives = true ↔ l.sending = none ∧ (l.bus = .idle ∨ l.bus = .following ∨ l.bus = .recessive) := by
  simp [LinkUnit.receives, or_assoc]

theorem awaits_iff (l : LinkUnit) (b : Bool) : l.awaits b = true ↔ l.sending = none ∧ l.bus = .waiting b := by
  simp [LinkUnit.awaits]

/-- R167: where no frame can be received, every event of the receiver is dominant bits before the bus is idle. -/
theorem taken_strays {c : Instr} {s : State} (hc : Receives c) (hr : s.link.receives = false) : taken c s = s.straysSeen := by
  have hframe : ∀ fr, s.takeFrame fr = s.straysSeen := fun fr => s.takeFrame_strays fr (.inr hr)
  obtain ⟨f, rfl⟩ | ⟨f, rfl⟩ | ⟨f, rfl⟩ | ⟨a, rfl⟩ := hc
  · exact hframe _
  · exact hframe _
  · exact hframe _
  · show s.takeActivity a = s.straysSeen
    cases a with
    | stray => rfl
    | startBit =>
      refine if_neg fun h => ?_
      simp only [Bool.and_eq_true, Bool.or_eq_true, beq_iff_eq, Option.isNone_iff_eq_none] at h
      rw [(receives_iff s.link).mpr ⟨h.1.2, h.2.imp_right .inr⟩] at hr
      cases hr
    | bits l =>
      unfold State.takeActivity
      dsimp only
      split
      · simp [State.frameBroken, hr]
      · exact hframe _

/-- R167: the first dominant bits before the bus is idle. -/
theorem straysSeen_first {s : State} (hl : s.live = true) (hs : s.link.sending = none) (hb : s.link.bus = .waiting false) :
    s.straysSeen = (s.awaitIdle true).discardFrame := by
  simp [State.straysSeen, hl, (awaits_iff s.link false).mpr ⟨hs, hb⟩]

theorem discardFrame_hearing {s : State} (b : Bool) (h : s.hearing = true) : (s.awaitIdle b).discardFrame = (s.awaitIdle b).countDiscard :=
  if_pos h

theorem discardFrame_deaf {s : State} (b : Bool) (h : s.hearing = false) : (s.awaitIdle b).discardFrame = s.awaitIdle b :=
  if_neg (Bool.not_eq_true _ ▸ h)

theorem not_receives {s : State} {b : Bool} (h : s.link.bus = .waiting b) : s.link.receives = false := by
  simp [LinkUnit.receives, h]

/-- R167: bits on a bus that is idle, followed, or kept recessive are none that it waits for. -/
theorem straysSeen_elsewhere {s : State} (h : s.link.bus ≠ .waiting false) : s.straysSeen = s :=
  s.straysSeen_uncounted (.inr (by simp [LinkUnit.awaits, h]))

theorem startBitSeen_begins {s : State} (hl : s.live = true) (hs : s.link.sending = none)
    (hb : s.link.bus = .idle ∨ s.link.bus = .recessive) : s.startBitSeen = { s with link := { s.link with bus := .following } } := by
  have h : (s.link.bus == .idle || s.link.bus == .recessive) = true := by simpa using hb
  simp only [State.startBitSeen, hl, hs, h, Option.isNone_none, Bool.and_self, if_true]

/-- R160: a station that follows a frame begins none. -/
theorem beginFrame_following {s : State} (h : s.link.bus = .following) : s.beginFrame = s := by
  simp [State.beginFrame, State.mayBegin, h]

/-- Outside LISTEN, RELEARN and RUN a frame, or what is left of one, is only followed. -/
theorem taken_deaf {c : Instr} {s : State} (hl : s.live = true) (hh : s.hearing = false) (hr : s.link.receives = true)
    (hc : (∃ f, c = .receivedStatus f) ∨ (∃ f, c = .receivedNotice f) ∨ (∃ f, c = .receivedOffer f)
      ∨ ∃ l, c = .frameDiscarded (.bits l)) : ∃ b, taken c s = s.awaitIdle b := by
  have hframe : ∀ fr, s.takeFrame fr = s.awaitIdle false := fun fr => by simp [State.takeFrame, hl, hr, hh]
  obtain ⟨f, rfl⟩ | ⟨f, rfl⟩ | ⟨f, rfl⟩ | ⟨l, rfl⟩ := hc
  · exact ⟨false, hframe _⟩
  · exact ⟨false, hframe _⟩
  · exact ⟨false, hframe _⟩
  · show ∃ b, s.takeActivity (.bits l) = s.awaitIdle b
    unfold State.takeActivity
    dsimp only
    split
    · exact ⟨true, by simp [State.frameBroken, hl, hr, discardFrame_deaf true hh]⟩
    · exact ⟨false, hframe _⟩

theorem taken_bits {s : State} {l : List Bool} {fr : Frame} (h : Frame.ofBits l = some fr) :
    taken (.frameDiscarded (.bits l)) s = s.takeFrame fr := by
  show s.takeActivity (.bits l) = s.takeFrame fr
  unfold State.takeActivity
  dsimp only
  rw [h]

/-- Settles O44, by what the receiver saw and the state of the bus. -/
theorem discardedFramesAreCountedAndDeliverNothing : Obligations.DiscardedFramesAreCountedAndDeliverNothing := by
  refine ⟨isBad_false_iff, receives_iff, fun s l hh hr hn => ⟨_, exec_eq_taken _ s, ?_⟩, fun s l => ⟨fun f h => ?_, fun f h => ?_,
      fun f h => ?_⟩, fun s f hh hr hb => ⟨_, exec_eq_taken _ s, ?_⟩, fun s f hh hr hb => ⟨_, exec_eq_taken _ s, ?_⟩,
    fun s f hh hr hb => ⟨_, exec_eq_taken _ s, ?_⟩, fun s c hh hs hb hc => ⟨_, exec_eq_taken c s, ?_⟩,
    fun s c h hc => ⟨_, exec_eq_taken c s, ?_⟩, fun s h => ⟨_, exec_eq_taken _ s, ?_⟩,
    fun s hl hs hb => ⟨_, exec_eq_taken _ s, ?_⟩, fun s hb => ⟨_, exec_eq_taken _ s, ?_⟩,
    fun s c hh hr hc => ⟨_, exec_eq_taken c s, fun hl => ?_, fun hl => ?_⟩,
    fun s c hh hl hs hb hc => ⟨_, exec_eq_taken c s, ?_⟩⟩
  · have heq : taken (.frameDiscarded (.bits l)) s = (s.awaitIdle true).countDiscard := by
      show s.takeActivity (.bits l) = _
      unfold State.takeActivity
      dsimp only
      rw [hn]
      simp only [State.frameBroken, s.live_of_hearing hh, hr, discardFrame_hearing true hh, Bool.not_true, Bool.or_self,
        Bool.false_eq_true, if_false]
    rw [heq]
    exact countDiscard_counted s true
  · rw [exec_eq_taken, taken_bits h]
    rfl
  · rw [exec_eq_taken, taken_bits h]
    rfl
  · rw [exec_eq_taken, taken_bits h]
    rfl
  · rw [show taken (.receivedStatus f) s = _ from takeFrame_bad hh hr hb]
    exact markDuplicate_counted _ (countDiscard_counted s false)
  · rw [show taken (.receivedNotice f) s = _ from takeFrame_bad hh hr hb]
    exact markDuplicate_counted _ (countDiscard_counted s false)
  · rw [show taken (.receivedOffer f) s = _ from takeFrame_bad hh hr hb]
    exact markDuplicate_counted _ (countDiscard_counted s false)
  · rw [taken_strays hc (not_receives hb), straysSeen_first (s.live_of_hearing hh) hs hb, discardFrame_hearing true hh]
    exact countDiscard_counted s true
  · have hr : s.link.receives = false := by
      rcases h with h | h
      · exact not_receives h
      · obtain ⟨f, hf⟩ := Option.isSome_iff_exists.mp h
        simp [LinkUnit.receives, hf]
    rw [taken_strays hc hr]
    refine s.straysSeen_uncounted (.inr ?_)
    rcases h with h | h
    · simp [LinkUnit.awaits, h]
    · obtain ⟨f, hf⟩ := Option.isSome_iff_exists.mp h
      simp [LinkUnit.awaits, hf]
  · refine straysSeen_elsewhere ?_
    rcases h with h | h | h <;> simp [h]
  · have heq : taken (.frameDiscarded .startBit) s = _ := startBitSeen_begins hl hs hb
    rw [heq]
    exact ⟨rfl, congrArg Host.Outcome.next (beginFrame_following rfl)⟩
  · have hfollowed : taken (.frameDiscarded .startBit) s = s.straysSeen := by
      show s.startBitSeen = s.straysSeen
      simp [State.startBitSeen, hb]
    rw [hfollowed, straysSeen_elsewhere (by simp [hb])]
  · obtain ⟨b, hb⟩ := taken_deaf hl hh hr hc
    rw [hb]
    exact ⟨rfl, b, rfl⟩
  · obtain ⟨f, rfl⟩ | ⟨f, rfl⟩ | ⟨f, rfl⟩ | ⟨l, rfl⟩ := hc
    · exact takeFrame_dead s _ hl
    · exact takeFrame_dead s _ hl
    · exact takeFrame_dead s _ hl
    · exact takeActivity_dead s (.bits l) hl
  · rw [taken_strays hc (not_receives hb), straysSeen_first hl hs hb, discardFrame_deaf true hh]
    rfl

end Sys2Proof.Proofs.Reception
end

section
/-! The keys TEST and ACK (R29, R36, R140 to R144, R186, R188). -/

namespace Sys2Proof.Proofs.PanelKeys

open Sys2Proof Sys2Proof.Machine Sys2Proof.Proofs.PartFrames Sys2Proof.Proofs.Steps Sys2Proof.Proofs.ResetUnit
open Sys2Proof.Proofs.SceneStack Sys2Proof.Proofs.Lighting

/-- R188: the line of a key closed and its filter pressed. -/
def keyHeld (s : State) (k : PanelKey) : State := (s.setKeyLine k true).setKeyRec k .held

theorem keyDown_held {s : State} {k : PanelKey} {sampled : Bool} (press : State → State) (hs : sampled = true)
    (h : (s.keys.get k).pressed = true) : s.keyDown k sampled press = keyHeld s k := by
  rw [hs, s.keyDown_sampled]
  exact (s.setKeyLine k true).keyReads_held k press h

theorem keyDown_pressed {s : State} {k : PanelKey} {sampled : Bool} (press : State → State) (hs : sampled = true)
    (h : (s.keys.get k).pressed = false) : s.keyDown k sampled press = press (keyHeld s k) := by
  rw [hs, s.keyDown_sampled]
  exact (s.setKeyLine k true).keyReads_press k press h

theorem keyDown_outside {s : State} {k : PanelKey} {sampled : Bool} (press : State → State) (hs : sampled = false) :
    s.keyDown k sampled press = s.setKeyLine k true := by
  rw [hs, s.keyDown_unsampled]

@[simp] theorem keyHeld_keeps (s : State) (k : PanelKey) : (keyHeld s k).clock = s.clock ∧ (keyHeld s k).timers = s.timers
    ∧ (keyHeld s k).modes = s.modes ∧ (keyHeld s k).fire = s.fire ∧ (keyHeld s k).watch = s.watch ∧ (keyHeld s k).doors = s.doors
    ∧ (keyHeld s k).calls = s.calls ∧ (keyHeld s k).table = s.table ∧ (keyHeld s k).egress = s.egress
    ∧ (keyHeld s k).light = s.light ∧ (keyHeld s k).link = s.link ∧ (keyHeld s k).start = s.start
    ∧ (keyHeld s k).troubles = s.troubles ∧ (keyHeld s k).buzzer = s.buzzer ∧ (keyHeld s k).raised = s.raised
    ∧ (keyHeld s k).order = s.order ∧ (keyHeld s k).pending = s.pending :=
  ⟨rfl, rfl, rfl, rfl, rfl, rfl, rfl, rfl, rfl, rfl, rfl, rfl, rfl, rfl, rfl, rfl, rfl⟩

@[simp] theorem keyHeld_panel (s : State) (k : PanelKey) :
    (keyHeld s k).pins = s.pins.setKey k true ∧ (keyHeld s k).keys = s.keys.set k .held := ⟨rfl, rfl⟩

/-! ### What a push does to the stack (R140, R141) -/

/-- A push is a placing on what the push leaves of the stack. -/
theorem pushed_eq (depth : Nat) {sc : Scene} (above : List Scene) (hsc : sc ≠ .evacuate) : ∃ left, pushed depth sc above = placeScene sc left
    ∧ (Scene.evacuate ∈ left ↔ Scene.evacuate ∈ above) ∧ ∀ x ∈ left, x ∈ above := by
  unfold pushed
  split
  · exact ⟨_, rfl, List.mem_erase_of_ne (Ne.symm hsc), fun x hx => List.mem_of_mem_erase hx⟩
  · split
    · exact ⟨_, rfl, evacuate_mem_dropVictim above, fun x hx => mem_dropVictim hx⟩
    · exact ⟨_, rfl, Iff.rfl, fun x hx => hx⟩

theorem pushed_top {depth : Nat} {sc : Scene} {above : List Scene} (hsc : sc ≠ .evacuate) (h : Scene.evacuate ∉ above) :
    (pushed depth sc above).getLast? = some sc := by
  obtain ⟨left, heq, hev, -⟩ := pushed_eq depth above hsc
  rw [heq, placeScene, if_neg (fun hc => h (hev.mp hc.1))]
  simp

theorem pushed_belowEvacuate {depth : Nat} {sc : Scene} {above : List Scene} (hsc : sc ≠ .evacuate) (h : Scene.evacuate ∈ above) :
    (pushed depth sc above).getLast? = some .evacuate ∧ (pushed depth sc above).dropLast.getLast? = some sc := by
  obtain ⟨left, heq, hev, -⟩ := pushed_eq depth above hsc
  rw [heq, placeScene, if_pos ⟨hev.mpr h, hsc⟩]
  simp

theorem mem_pushed {depth : Nat} {sc x : Scene} {above : List Scene} (hsc : sc ≠ .evacuate) (h : x ∈ pushed depth sc above) :
    x ∈ above ∨ x = sc := by
  obtain ⟨left, heq, -, hsub⟩ := pushed_eq depth above hsc
  rw [heq, mem_placeScene] at h
  exact h.symm.imp_left (hsub x)

/-- Below the limit, or for a scene that stands, nothing leaves the stack. -/
theorem mem_pushed_of_room {depth : Nat} {sc x : Scene} {above : List Scene} (h : above.length + 1 < depth ∨ sc ∈ above)
    (hx : x ∈ above) : x ∈ pushed depth sc above := by
  unfold pushed
  split
  · rw [mem_placeScene]
    by_cases hxs : x = sc
    · exact .inl hxs
    · exact .inr ((List.mem_erase_of_ne hxs).mpr hx)
  next hn =>
    have hroom : ¬ depth ≤ above.length + 1 := by
      have := h.resolve_right hn
      omega
    rw [if_neg hroom, mem_placeScene]
    exact .inr hx

/-- At the limit the one scene that leaves is the lowest removable one. -/
theorem mem_eraseP_of_find {p : Scene → Bool} {x : Scene} {l : List Scene} (h : l.find? p ≠ some x) (hx : x ∈ l) : x ∈ l.eraseP p := by
  induction l with
  | nil => exact hx
  | cons a l ih =>
    by_cases hp : p a = true
    · rw [List.eraseP_cons_of_pos hp]
      rw [List.find?_cons_of_pos hp] at h
      exact (List.mem_cons.mp hx).resolve_left fun he => h (by rw [he])
    · rw [List.eraseP_cons_of_neg hp]
      rw [List.find?_cons_of_neg hp] at h
      rcases List.mem_cons.mp hx with he | hx
      · exact he ▸ List.mem_cons_self
      · exact List.mem_cons_of_mem _ (ih h hx)

theorem mem_pushed_of_ne_victim {depth : Nat} {sc x : Scene} {above : List Scene}
    (h : above.find? (fun y => y != .evacuate) ≠ some x) (hx : x ∈ above) : x ∈ pushed depth sc above := by
  by_cases hroom : above.length + 1 < depth ∨ sc ∈ above
  · exact mem_pushed_of_room hroom hx
  · rw [not_or] at hroom
    rw [pushed, if_neg hroom.2, if_pos (by omega), mem_placeScene]
    exact .inr (mem_eraseP_of_find h hx)

theorem length_pushed_full {depth : Nat} {sc : Scene} {above : List Scene} (hn : above.Nodup) (h3 : 3 ≤ depth)
    (h : depth ≤ above.length + 1) : (pushed depth sc above).length ≤ above.length := by
  unfold pushed
  split
  next hin =>
    rw [length_placeScene, List.length_erase_of_mem hin]
    have := List.length_pos_of_mem hin
    omega
  next =>
    rw [length_placeScene, length_dropVictim hn (by omega)]

/-! ### TEST (R144) -/

theorem pressTest_channel (s : State) (hp : s.start.phase ≠ .configRead) (c : Chan) : s.pressTest.channel c =
    if .t20 = c then Channel.fresh 10 .s1 .oneShot 0 else s.channel c := by
  rw [State.pressTest, State.startTimer_channel _ _ _ _ _ _ _ (by simpa using hp)]
  simp [State.channel]

theorem pressTest_pushes (s : State) : s.pressTest.light = (s.pushScene .test).light := by
  simp [State.pressTest]

theorem pressTest_follow (s : State) : s.pressTest.LightsFollow :=
  same' (pushScene_follow s .test) (by simp [State.pressTest]) (by simp [State.pressTest]) (by simp [State.pressTest])
    (descs (by simp [State.pressTest])) (by simp [State.pressTest])

/-- R138: outputs neither forced nor frozen are those of the scene on top, in a state that kept the phase and the freeze flag. -/
theorem out_of_follow {s t : State} (h : t.LightsFollow) (hst : t.start = s.start) (hf : s.forced = false)
    (hz : s.start.freeze = false) : t.light.out = t.sceneOutputs := by
  have hforced : t.forced = s.forced := forced_congr (by rw [hst]) (by rw [hst]) (by rw [hst])
  exact h.2 (hforced.trans hf) (by rw [hst]; exact hz)

/-- Settles O39: the push by the cases of `pushed`, and the expiry that removes TEST. -/
theorem testPushesItsSceneForTenSeconds : Obligations.TestPushesItsSceneForTenSeconds := by
  refine ⟨fun s hk hp hstack => ?_, fun s hk hp => ⟨_, congrArg Host.Outcome.next (keyDown_held _ hk hp), rfl⟩,
    fun s hk => ⟨_, congrArg Host.Outcome.next (keyDown_outside _ hk), rfl⟩, fun s hl h => ?_,
    fun s h => ⟨s, congrArg Host.Outcome.next (s.onExpiry_idle _ _ _ (.inr h)), rfl⟩⟩
  · have hphase : (keyHeld s .test).start.phase ≠ .configRead := by simpa using not_configRead_of_keyed hk
    obtain ⟨-, hfits, h3, -⟩ := (stackSound_iff s).mp hstack
    have habove : (keyHeld s .test).pressTest.light.above = pushed s.cfg.depth .test s.light.above := by
      rw [pressTest_pushes, (State.pushScene_stack _ _).2]
      simp [State.cfg]
    have hsc : Scene.test ≠ .evacuate := by decide
    refine ⟨(keyHeld s .test).pressTest, congrArg Host.Outcome.next (keyDown_pressed _ hk hp), ?_, ?_, ?_⟩
    · rw [pressTest_channel _ hphase, if_pos rfl]
    · rw [pressTest_pushes]
      simp
    · rw [habove]
      refine ⟨pushed_top hsc, pushed_belowEvacuate hsc, fun x hx => mem_pushed hsc hx, fun h x hx => mem_pushed_of_room h hx,
        length_pushed_full hfits.nodup h3, fun x h hx => mem_pushed_of_ne_victim h hx,
        out_of_follow (pressTest_follow _) (by simp), fun c _ hc => ?_, state_eq (by simp [State.pressTest, Pins.setKey, KeyFilters.set])⟩
      rw [pressTest_channel _ hphase, if_neg (Ne.symm hc)]
      simp [State.channel]
  · obtain ⟨ch, -, hact⟩ := s.onExpiry_acts .t20 true (fun t => t.removeScene .test) hl rfl h
    refine ⟨_, congrArg Host.Outcome.next hact, by simp, by simp, out_of_follow (removeScene_follow _ _) (by simp), fun c _ hc => ?_,
      state_eq (by simp)⟩
    have h20 : (s.setChannel .t20 ch).channel c = s.channel c := by simp [Ne.symm hc]
    rw [← h20]
    simp [State.channel]

/-! ### ACK (R29, R36, R186) -/

theorem ackVerification_begins {s : State} (h : s.fire.state = .verify ∧ s.fire.phase = .ackWindow) : s.ackVerification
    = (State.syncBuzzer { s.stopTimer .t0 with fire := { s.fire with phase := .investigation } }).startTimer .pair
        s.cfg.investigation .s1 .oneShot 0 := by
  rw [State.ackVerification, if_pos h]
  rfl

theorem ackVerification_same {s : State} (h : ¬(s.fire.state = .verify ∧ s.fire.phase = .ackWindow)) : s.ackVerification = s :=
  if_neg h

@[simp] theorem ackSounder_fire (s : State) : s.ackSounder.fire = { s.fire with silenced := s.fire.evac || s.fire.silenced } := by
  unfold State.ackSounder
  split
  next h => simp [State.setSounderSilenced, h]
  next h =>
    rw [Bool.not_eq_true] at h
    rw [h, Bool.false_or]

theorem pressAck_eq (s : State) : s.pressAck = State.syncBuzzer
    { s.ackVerification.ackSounder with troubles := { s.ackVerification.ackSounder.troubles with silenced := true } } := rfl

theorem ackSounder_stack (s : State) : s.ackSounder.light.base = s.light.base ∧ s.ackSounder.light.above = s.light.above := by
  unfold State.ackSounder State.setSounderSilenced
  split <;> simp

/-- R29: what ACK does to a verification. -/
theorem ackVerification_fire (s : State) : s.ackVerification.fire
    = { s.fire with phase := if s.fire.state = .verify ∧ s.fire.phase = .ackWindow then .investigation else s.fire.phase } := by
  by_cases h : s.fire.state = .verify ∧ s.fire.phase = .ackWindow
  · rw [ackVerification_begins h]
    simp [h]
  · rw [ackVerification_same h, if_neg h]

/-- Settles O20: the verification, the sounder and the buzzer are separate parts of the press. -/
theorem ackAnswersVerificationSounderAndBuzzer : Obligations.AckAnswersVerificationSounderAndBuzzer := by
  refine ⟨fun s hk hp => ⟨(keyHeld s .ack).pressAck, congrArg Host.Outcome.next (keyDown_pressed _ hk hp), ?_, fun hv hw => ?_,
      fun hn => ?_, fun c _ h0 hpair => ?_, ?_, ?_, ?_⟩,
    fun s hk hp => ⟨_, congrArg Host.Outcome.next (keyDown_held _ hk hp), rfl⟩,
    fun s hk => ⟨_, congrArg Host.Outcome.next (keyDown_outside _ hk), rfl⟩⟩
  · simp [pressAck_eq, ackVerification_fire]
  · have hrun : (keyHeld s .ack).fire.state = .verify ∧ (keyHeld s .ack).fire.phase = .ackWindow := by simp [hv, hw]
    have htimers : (keyHeld s .ack).pressAck.timers = (keyHeld s .ack).ackVerification.timers := by simp [pressAck_eq]
    have hch : ∀ c, (keyHeld s .ack).pressAck.channel c = (keyHeld s .ack).ackVerification.channel c := fun c => by
      simp only [State.channel, htimers]
    have hphase : (keyHeld s .ack).start.phase ≠ .configRead := by simpa using not_configRead_of_keyed hk
    rw [hch, hch, ackVerification_begins hrun, State.startTimer_channel _ _ _ _ _ _ _ (by simpa using hphase),
      State.startTimer_channel _ _ _ _ _ _ _ (by simpa using hphase)]
    refine ⟨?_, ?_, ?_⟩
    · simp [State.channel, State.stopTimer, State.setChannel, Channel.stop]
    · simp [State.cfg]
    · simp [pressAck_eq, State.syncBuzzer, ackVerification_fire, hv, hw]
  · have hnot : ¬((keyHeld s .ack).fire.state = .verify ∧ (keyHeld s .ack).fire.phase = .ackWindow) := by simpa using hn
    simp [pressAck_eq, ackVerification_same hnot]
  · have htimers : (keyHeld s .ack).pressAck.timers = (keyHeld s .ack).ackVerification.timers := by simp [pressAck_eq]
    have hch : (keyHeld s .ack).pressAck.channel c = (keyHeld s .ack).ackVerification.channel c := by
      simp only [State.channel, htimers]
    rw [hch]
    by_cases h : (keyHeld s .ack).fire.state = .verify ∧ (keyHeld s .ack).fire.phase = .ackWindow
    · rw [ackVerification_begins h, State.startTimer_other _ _ _ _ _ _ _ (Ne.symm hpair)]
      simp [State.channel, State.stopTimer, State.setChannel, Ne.symm h0]
    · rw [ackVerification_same h]
      rfl
  · simp [pressAck_eq]
  · simp [pressAck_eq, State.syncBuzzer]
  · have hl : (keyHeld s .ack).pressAck.light
        = { s.light with out := (keyHeld s .ack).pressAck.light.out } := by
      have h := ackSounder_stack (keyHeld s .ack).ackVerification
      simp only [pressAck_eq, State.syncBuzzer_keeps]
      cases hu : (keyHeld s .ack).ackVerification.ackSounder.light
      cases hs : s.light
      simp_all
    refine state_eq ?_
    simp only [← hl]
    simp [pressAck_eq, Pins.setKey, KeyFilters.set]

end Sys2Proof.Proofs.PanelKeys
end

section
/-! The key GUARD and the watch unit's timer (R45 to R48, R91). -/

namespace Sys2Proof.Proofs.GuardKey

open Sys2Proof Sys2Proof.Machine Sys2Proof.Proofs.PartFrames Sys2Proof.Proofs.Steps Sys2Proof.Proofs.ResetUnit
open Sys2Proof.Proofs.SceneStack Sys2Proof.Proofs.Lighting Sys2Proof.Proofs.PanelKeys

/-! ### The clearing of the open points (R91) -/

/-- R91: an open point as GUARD leaves it. -/
def pointGone (s : State) (p : Fin 4) : State :=
  (((s.setPoint p .idle).stopTimer (.point p)).markCall p).dropEntries fun e => e.id == s.ownCall p

theorem clearPoint_open {s : State} {p : Fin 4} (h : (s.point p).isOpen = true) : s.clearPoint p = pointGone s p := if_pos h

theorem pointGone_point (s : State) (p q : Fin 4) : (pointGone s p).point q = if p = q then PointRec.idle else s.point q :=
  s.setPoint_point p q .idle

theorem pointGone_mark (s : State) (p q : Fin 4) : (pointGone s p).link.calls[q] = (s.link.calls[q] || q == p) := by
  have h : (pointGone s p).link.calls[q] = (s.link.calls.set p true)[q] := rfl
  rw [h]
  by_cases hp : q = p
  · subst hp
    simp
  · simp [hp, Fin.val_inj, Ne.symm hp]

theorem pointGone_channel (s : State) (p : Fin 4) (c : Chan) :
    (pointGone s p).channel c = if .point p = c then (s.channel (.point p)).stop else s.channel c :=
  s.stopTimer_channel (.point p) c

theorem pointGone_list (s : State) (p : Fin 4) : (pointGone s p).calls.list = s.calls.list.filter fun e => !(e.id == s.ownCall p) := rfl

theorem pointGone_offer (s : State) (p : Fin 4) : (pointGone s p).link.offer
    = s.link.offer.filter fun id => !(s.calls.list.any fun e => e.id == s.ownCall p && e.id == id) := rfl

theorem pointGone_link (s : State) (p : Fin 4) :
    (pointGone s p).link = { s.link with calls := (pointGone s p).link.calls, offer := (pointGone s p).link.offer } := rfl

theorem pointGone_rest (s : State) (p : Fin 4) : pointGone s p
    = { s with calls := (pointGone s p).calls, timers := (pointGone s p).timers, link := (pointGone s p).link } := rfl

theorem clearPoint_idle {s : State} {p : Fin 4} (h : (s.point p).isOpen = false) : s.clearPoint p = s := if_neg (by simp [h])

/-- What the clearing of the points that `gone` names makes of a state. -/
structure Cleared (gone : Fin 4 → Bool) (s t : State) : Prop where
  wasOpen : ∀ p, gone p = true → (s.point p).isOpen = true
  point : ∀ p : Fin 4, t.point p = if gone p then PointRec.idle else s.point p
  mark : ∀ p : Fin 4, t.link.calls[p] = (s.link.calls[p] || gone p)
  stopped : ∀ p, gone p = true → (t.channel (.point p)).running = false ∧ (t.channel (.point p)).waiting = []
  channel : ∀ c, (∀ p, gone p = true → c ≠ .point p) → t.channel c = s.channel c
  list : t.calls.list = s.calls.list.filter fun e => !(e.id.origin == s.own && gone e.id.point)
  link : t.link = { s.link with calls := t.link.calls, offer := t.link.offer }
  offer : ∀ id, s.link.offer = some id → id.origin ≠ s.own → t.link.offer = some id
  rest : t = { s with calls := t.calls, timers := t.timers, link := t.link }

theorem Cleared.nothing (s : State) : Cleared (fun _ => false) s s := by
  refine ⟨?_, ?_, ?_, ?_, ?_, ?_, rfl, fun _ h _ => h, rfl⟩ <;> simp

theorem ownCall_beq (s : State) (p : Fin 4) (id : CallId) : (id == s.ownCall p) = (id.origin == s.own && id.point == p) := by
  rw [Bool.eq_iff_iff, beq_iff_eq, Bool.and_eq_true, beq_iff_eq, beq_iff_eq]
  exact ⟨fun h => by rw [h]; exact ⟨rfl, rfl⟩, fun ⟨h1, h2⟩ => by cases id; subst h1 h2; rfl⟩

/-- One more point is cleared. -/
theorem Cleared.next {gone : Fin 4 → Bool} {s t : State} (h : Cleared gone s t) {p : Fin 4} (hopen : (t.point p).isOpen = true) :
    Cleared (fun q => gone q || q == p) s (t.clearPoint p) := by
  have hown : t.own = s.own := by rw [h.rest]; rfl
  have hstill : gone p = false ∧ (s.point p).isOpen = true := by
    rw [h.point p] at hopen
    cases hg : gone p <;> rw [hg] at hopen
    · exact ⟨rfl, hopen⟩
    · cases hopen
  rw [clearPoint_open hopen]
  refine ⟨fun q hq => ?_, fun q => ?_, fun q => ?_, fun q hq => ?_, fun c hc => ?_, ?_, ?_, fun id hid ho => ?_, ?_⟩
  · rcases Bool.or_eq_true_iff.mp hq with hq | hq
    · exact h.wasOpen q hq
    · exact (beq_iff_eq.mp hq) ▸ hstill.2
  · rw [pointGone_point, h.point q]
    by_cases hp : p = q
    · simp [hp]
    · simp [hp, Ne.symm hp]
  · rw [pointGone_mark, h.mark q, Bool.or_assoc]
  · rw [pointGone_channel]
    by_cases hp : p = q
    · rw [if_pos (by rw [hp])]
      exact ⟨rfl, rfl⟩
    · rw [if_neg (by simpa using hp)]
      exact h.stopped q (by simpa [Ne.symm hp] using hq)
  · rw [pointGone_channel, if_neg (Ne.symm (hc p (by simp)))]
    exact h.channel c fun q hq => hc q (by simp [hq])
  · rw [pointGone_list, h.list, List.filter_filter]
    refine List.filter_congr fun e _ => ?_
    rw [ownCall_beq, hown]
    cases e.id.origin == s.own <;> cases gone e.id.point <;> cases e.id.point == p <;> rfl
  · exact (pointGone_link t p).trans (by rw [h.link])
  · rw [pointGone_offer, h.offer id hid ho]
    refine Option.filter_eq_some_iff.mpr ⟨rfl, ?_⟩
    rw [Bool.not_eq_true', List.any_eq_false]
    intro e _ he
    simp only [Bool.and_eq_true, beq_iff_eq] at he
    refine ho ?_
    rw [← he.2, he.1, ← hown]
    rfl
  · exact (pointGone_rest t p).trans (by rw [h.rest])

theorem foldl_cleared (s : State) (l : List (Fin 4)) : ∀ (gone : Fin 4 → Bool) (t : State), Cleared gone s t →
    ∃ gone', Cleared gone' s (l.foldl State.clearPoint t) ∧ (∀ p, gone p = true → gone' p = true)
      ∧ ∀ p ∈ l, (s.point p).isOpen = true → gone' p = true := by
  induction l with
  | nil => exact fun gone t h => ⟨gone, h, fun _ h => h, by simp⟩
  | cons q l ih =>
    intro gone t h
    by_cases hopen : (t.point q).isOpen = true
    · obtain ⟨gone', hc, hmono, hall⟩ := ih _ _ (h.next hopen)
      refine ⟨gone', hc, fun p hp => hmono p (by simp [hp]), fun p hp ho => ?_⟩
      rcases List.mem_cons.mp hp with rfl | hp
      · exact hmono p (by simp)
      · exact hall p hp ho
    · obtain ⟨gone', hc, hmono, hall⟩ := ih gone t h
      rw [List.foldl_cons, clearPoint_idle (by simpa using hopen)]
      refine ⟨gone', hc, hmono, fun p hp ho => ?_⟩
      rcases List.mem_cons.mp hp with rfl | hp
      · refine hmono p ?_
        by_contra hn
        rw [h.point p, if_neg hn] at hopen
        exact hopen ho
      · exact hall p hp ho

theorem clearPoints_cleared (s : State) : Cleared (fun p => (s.point p).isOpen) s s.clearPoints := by
  obtain ⟨gone, hc, -, hall⟩ := foldl_cleared s (List.finRange 4) _ s (.nothing s)
  have heq : gone = fun p => (s.point p).isOpen := by
    funext p
    exact Bool.eq_iff_iff.mpr ⟨hc.wasOpen p, hall p (List.mem_finRange p)⟩
  exact heq ▸ hc

/-! ### The watch unit's part (R47, R48) -/

theorem setRound_link (s : State) (b : Bool) : (s.setRound b).link = { s.link with status := s.link.status || s.watch.round != b } := by
  unfold State.setRound
  split <;> simp_all

theorem setRound_watch (s : State) (b : Bool) : (s.setRound b).watch = { s.watch with round := b } := by
  unfold State.setRound
  split
  next h => simp [← h]
  next => rfl

theorem setGuard_link (s : State) (g : GuardState) : (s.setGuard g).link = { s.link with status := s.link.status || s.watch.guard != g } := by
  unfold State.setGuard
  split <;> simp_all

theorem guardWatch_opened {s : State} (h : s.watch.guard = .opened) : s.guardWatch = s := by
  simp [State.guardWatch, h]

theorem guardWatch_setting {s : State} (h : s.watch.guard = .setting) : s.guardWatch = s.startExitDelay := by
  simp [State.guardWatch, h]

theorem guardWatch_watching {s : State} (h : s.watch.guard = .watching) :
    s.guardWatch = ((s.setRound true).startRoundTime).pushScene .round := by
  simp [State.guardWatch, h]

theorem guardWatch_link (s : State) : s.guardWatch.link
    = { s.link with status := s.link.status || (s.watch.guard == .watching && !s.watch.round) } := by
  cases h : s.watch.guard with
  | opened =>
    have hn : (s.watch.guard == .watching) = false := by rw [h]; rfl
    simp [guardWatch_opened h, ← h, hn]
  | setting =>
    have hn : (s.watch.guard == .watching) = false := by rw [h]; rfl
    simp [guardWatch_setting h, ← h, hn]
  | watching =>
    rw [guardWatch_watching h]
    simp [setRound_link]

/-- R48: T18 runs the exit delay in SETTING, and the round time in WATCHING. -/
theorem guardWatch_channel {s : State} (hp : s.start.phase ≠ .configRead) :
    (s.watch.guard = .setting → s.guardWatch.channel .t18 = Channel.fresh s.cfg.exitDelay .s1 .oneShot 0)
      ∧ (s.watch.guard = .watching → s.guardWatch.channel .t18 = Channel.fresh s.cfg.roundTime .s1 .oneShot 0)
      ∧ ∀ c, c ≠ .t18 → s.guardWatch.channel c = s.channel c := by
  have hpush : ∀ (t : State) (sc : Scene) (c : Chan), (t.pushScene sc).channel c = t.channel c := fun t sc c => by simp [State.channel]
  have hround : ∀ (c : Chan), (s.setRound true).channel c = s.channel c := fun c => by simp [State.channel]
  refine ⟨fun h => ?_, fun h => ?_, fun c hc => ?_⟩
  · rw [guardWatch_setting h, State.startExitDelay, State.startTimer_channel _ _ _ _ _ _ _ hp, if_pos rfl]
  · rw [guardWatch_watching h, hpush, State.startRoundTime, State.startTimer_channel _ _ _ _ _ _ _ (by simpa using hp), if_pos rfl]
    simp [State.cfg]
  · cases h : s.watch.guard with
    | opened => rw [guardWatch_opened h]
    | setting => rw [guardWatch_setting h, State.startExitDelay, State.startTimer_other _ _ _ _ _ _ _ (Ne.symm hc)]
    | watching =>
      rw [guardWatch_watching h, hpush, State.startRoundTime, State.startTimer_other _ _ _ _ _ _ _ (Ne.symm hc), hround]

theorem guardWatch_watch (s : State) :
    s.guardWatch.watch = { s.watch with round := s.watch.round || s.watch.guard == .watching } := by
  cases h : s.watch.guard with
  | opened =>
    have hn : (s.watch.guard == .watching) = false := by rw [h]; rfl
    rw [guardWatch_opened h, ← h, hn, Bool.or_false]
  | setting =>
    have hn : (s.watch.guard == .watching) = false := by rw [h]; rfl
    rw [guardWatch_setting h, ← h, hn, Bool.or_false]
    simp [State.startExitDelay]
  | watching =>
    rw [guardWatch_watching h]
    simp [← h]

/-- R48: outside WATCHING no scene is pushed. -/
theorem guardWatch_light_kept {s : State} (h : s.watch.guard ≠ .watching) : s.guardWatch.light = s.light := by
  cases hg : s.watch.guard with
  | opened => rw [guardWatch_opened hg]
  | setting => simp [guardWatch_setting hg]
  | watching => exact absurd hg h

theorem light_of_base {l m : LightUnit} (h : m.base = l.base) : m = { l with above := m.above, out := m.out } := by
  rw [← h]

/-- R47: a round ends with its scene. -/
theorem endRound_round {s : State} (h : s.watch.round = true) : s.endRound = (s.setRound false).removeScene .round := if_pos h

/-- Settles O25: the watch unit's part by the guard state, then the clearing of the points. -/
theorem guardKeyAndItsTimerWalkTheRoundAndAttendTheCalls : Obligations.GuardKeyAndItsTimerWalkTheRoundAndAttendTheCalls := by
  refine ⟨fun s hk hp => ?_, fun s hk hp => ⟨_, congrArg Host.Outcome.next (keyDown_held _ hk hp), rfl⟩,
    fun s hk => ⟨_, congrArg Host.Outcome.next (keyDown_outside _ hk), rfl⟩, fun s hl hg h => ?_, fun s hl hg hr h => ?_,
    fun s hg => ⟨s, congrArg Host.Outcome.next (s.onExpiry_idle _ _ _ (.inl (by simp [hg]))), rfl⟩,
    fun s hg => ⟨s, congrArg Host.Outcome.next (s.onExpiry_idle _ _ _ (.inl (by rcases hg with h | h <;> simp [h]))), rfl⟩⟩
  · obtain ⟨u, hu⟩ : ∃ u, u = keyHeld s .guard := ⟨_, rfl⟩
    have hphase : u.start.phase ≠ .configRead := by simpa [hu] using not_configRead_of_keyed hk
    have hclear := clearPoints_cleared u.guardWatch
    have hpoint : ∀ p, u.guardWatch.point p = s.point p := point_congr (by simp [hu])
    have hown : u.guardWatch.own = s.own := by simp [State.own, State.cfg, hu]
    have hcfg : u.cfg = s.cfg := by simp [State.cfg, hu]
    have hlink : u.guardWatch.link = { s.link with status := s.link.status || (s.watch.guard == .watching && !s.watch.round) } := by
      simpa [hu] using guardWatch_link u
    obtain ⟨hsetting, hwatching, hother⟩ := guardWatch_channel hphase
    have hwatch : u.watch = s.watch := by simp [hu]
    have hlight : u.light = s.light := by simp [hu]
    have hch : ∀ c, u.channel c = s.channel c := fun c => by simp [State.channel, hu]
    rw [hwatch, hcfg] at hsetting hwatching
    obtain ⟨t, ht⟩ : ∃ t, t = u.guardWatch.clearPoints := ⟨_, rfl⟩
    have h18 : t.channel .t18 = u.guardWatch.channel .t18 := ht ▸ hclear.channel .t18 (by simp)
    have htw : t.watch = u.guardWatch.watch := by rw [ht, hclear.rest]
    have htl : t.light = u.guardWatch.light := by rw [ht, hclear.rest]
    refine ⟨t, (congrArg Host.Outcome.next (keyDown_pressed (k := .guard) State.pressGuard hk hp)).trans (by rw [ht, hu]; rfl), fun p => ?_, fun p => ?_, fun p ho => ?_,
      ?_, fun c _ hc hn => ?_, ?_, fun id hid ho => ?_, fun hg => ?_, fun hg => ?_, fun hg => ?_, ?_⟩
    · rw [ht, hclear.point p, hpoint]
    · rw [ht, hclear.mark p, hpoint, hlink]
    · rw [ht]
      exact hclear.stopped p (by rw [hpoint]; exact ho)
    · have hlist : u.guardWatch.calls = s.calls := by simp [hu]
      rw [ht, hclear.list, hown, hlist]
      simp only [hpoint]
    · rw [ht, hclear.channel c fun p hp => hn p (by rw [← hpoint]; exact hp), hother c hc, hch]
    · rw [ht]
      exact hclear.link.trans (by rw [hlink])
    · rw [ht]
      exact hclear.offer id (by rw [hlink]; exact hid) (by rw [hown]; exact ho)
    · have h : u.guardWatch = u := guardWatch_opened (by rw [hwatch]; exact hg)
      rw [htw, h18, htl, h, hwatch, hch, hlight]
      exact ⟨rfl, rfl, rfl⟩
    · rw [htw, h18, htl, hsetting hg, guardWatch_light_kept (by simp [hwatch, hg]), guardWatch_watch, hwatch, hlight]
      refine ⟨?_, rfl, rfl⟩
      rw [hg, show (GuardState.setting == .watching) = false from rfl, Bool.or_false]
    · have hbase : u.guardWatch.light.base = s.light.base := by simp [hlight]
      have habove : u.guardWatch.light.above = pushed s.cfg.depth .round s.light.above := by simp [hwatch, hg, hcfg, hlight]
      have hfollow : t.LightsFollow := by
        have h : u.guardWatch.LightsFollow := by
          rw [guardWatch_watching (by rw [hwatch]; exact hg)]
          exact pushScene_follow _ _
        exact same' h htl (by rw [ht, hclear.rest]) (by rw [ht, hclear.rest]) (descs (by rw [ht, hclear.rest]))
          (by rw [ht, hclear.rest])
      rw [htw, h18, htl, hwatching hg, guardWatch_watch, hwatch, habove]
      refine ⟨by simp [hg], rfl, rfl, fun hev => ?_, fun hf hz => ?_⟩
      · rw [LightUnit.top, habove, pushed_top (by decide) hev]
        rfl
      · rw [← htl]
        refine out_of_follow hfollow ?_ hf hz
        rw [ht, hclear.rest]
        simp [hu]
    · have hbase : u.guardWatch.light = { s.light with above := u.guardWatch.light.above, out := u.guardWatch.light.out } :=
        light_of_base (by simp [hlight])
      rw [htw, htl]
      refine state_eq ?_
      simp only [← hbase]
      rw [ht, hclear.rest]
      simp [hu, Pins.setKey, KeyFilters.set]
  · obtain ⟨ch, -, hact⟩ := s.onExpiry_acts .t18 (s.watch.guard == .setting) (fun t => t.setGuard .watching) hl (by simp [hg]) h
    have hset : (s.setChannel .t18 ch).setGuard .watching
        = State.markStatus { s.setChannel .t18 ch with watch := { s.watch with guard := .watching } } := if_neg (by simp [hg])
    refine ⟨_, congrArg Host.Outcome.next (hact.trans hset), rfl, fun c _ hc => ?_⟩
    simp [State.channel, State.setChannel, Ne.symm hc]
  · obtain ⟨ch, -, hact⟩ := s.onExpiry_acts .t18 (s.watch.guard == .watching && s.watch.round) State.endRound hl (by simp [hg, hr]) h
    have hend : (s.setChannel .t18 ch).endRound = ((s.setChannel .t18 ch).setRound false).removeScene .round := endRound_round hr
    refine ⟨_, congrArg Host.Outcome.next (hact.trans hend), by simp, out_of_follow (removeScene_follow _ _) (by simp), ?_, fun c _ hc => ?_⟩
    · have hlight := light_of_base (l := s.light) (m := (((s.setChannel .t18 ch).setRound false).removeScene .round).light) (by simp)
      refine state_eq ?_
      simp only [← hlight]
      simp [setRound_link, hr]
    · simp [State.channel, State.setChannel, Ne.symm hc]

end Sys2Proof.Proofs.GuardKey
end

section
/-! Call buttons, offers and ACCEPT (R44, R86, R89, R97, R102, R103). -/

namespace Sys2Proof.Proofs.CallEvents

open Sys2Proof Sys2Proof.Machine Sys2Proof.Proofs.PartFrames Sys2Proof.Proofs.Steps Sys2Proof.Proofs.ResetUnit
open Sys2Proof.Proofs.PanelKeys Sys2Proof.Proofs.StartOfRun

/-! ### Entries and channels -/

theorem insertEntry_chirp (s : State) (e : CallEntry) : (s.insertEntry e).buzzer.callChirp = s.buzzer.callChirp.presented := rfl

/-- R97: an inserted local entry is in the list, chirps once, and a list with room takes it by its level. -/
theorem insertLocal_spec (s : State) (p : Fin 4) : s.localEntry p ∈ (s.insertLocal p).calls.list
    ∧ (s.insertLocal p).buzzer.callChirp = s.buzzer.callChirp.presented
    ∧ (s.calls.list.length < 16 → (s.insertLocal p).calls.list = placeEntry (s.localEntry p) s.calls.list) := by
  have hmem : ∀ u : State, s.localEntry p ∈ (u.insertEntry (s.localEntry p)).calls.list := fun u => by
    rw [State.insertEntry_list, mem_placeEntry]
    exact .inl rfl
  unfold State.insertLocal
  split
  next hroom => exact ⟨hmem s, insertEntry_chirp _ _, fun _ => State.insertEntry_list _ _⟩
  next hfull =>
    refine ⟨?_, ?_, fun h => absurd h hfull⟩
    · split <;> exact hmem _
    · split
      · exact insertEntry_chirp _ _
      next v _ =>
        rw [insertEntry_chirp]
        exact congrArg OneShotRec.presented ((s.dropEntries fun e => e.id == v.id).enterTrouble_buzzer .callListFull .callChirp)

theorem startAttend_channel (s : State) (hp : s.start.phase ≠ .configRead) (p : Fin 4) (c : Chan) : (s.startAttend p).channel c =
    if .point p = c then Channel.fresh s.cfg.attend .s1 .oneShot 0 else s.channel c :=
  State.startTimer_channel _ _ _ _ _ _ _ hp

theorem startEscalation_channel (s : State) (hp : s.start.phase ≠ .configRead) (p : Fin 4) (c : Chan) :
    (s.startEscalation p).channel c =
      if .point p = c then Channel.fresh s.cfg.escalation .s1 .oneShot (s.cfg.escalation / 2) else s.channel c :=
  State.startTimer_channel _ _ _ _ _ _ _ hp

theorem channel_congr {s t : State} (h : t.timers = s.timers) (c : Chan) : t.channel c = s.channel c := by
  simp only [State.channel, h]

theorem phase_of_hearing {s : State} (h : s.hearing = true) : s.start.phase ≠ .configRead := by
  intro hp
  simp [State.hearing, hp] at h

/-! ### A call button (R44, R86) -/

/-- A button's line closed and its filter pressed. -/
def buttonHeld (s : State) (p : Fin 4) : State := (s.setButtonLine p true).setButton p .held

theorem buttonHeld_eq (s : State) (p : Fin 4) : buttonHeld s p = { s with
    pins := { s.pins with buttons := s.pins.buttons.set p true }
    watch := { s.watch with buttons := s.watch.buttons.set p { pressed := true, filter := Filter.clear } } } := rfl

theorem button_held {s : State} {p : Fin 4} (hh : s.hearing = true) (hf : s.pointFitted p = true)
    (hb : s.watch.buttons[p].pressed = true) : exec (.callButtonPressed p) s = .next (buttonHeld s p) := by
  have h := (s.setButtonLine p true).buttonReads_held p hb
  have hsampled : ((s.setButtonLine p true).hearing && (s.setButtonLine p true).pointFitted p) = true := by
    rw [Bool.and_eq_true]
    exact ⟨hh, hf⟩
  exact congrArg Host.Outcome.next ((if_pos hsampled).trans h)

theorem button_pressed {s : State} {p : Fin 4} (hh : s.hearing = true) (hf : s.pointFitted p = true)
    (hb : s.watch.buttons[p].pressed = false) : exec (.callButtonPressed p) s = .next ((buttonHeld s p).buttonTaken p) := by
  have h := (s.setButtonLine p true).buttonReads_press p hb
  have hsampled : ((s.setButtonLine p true).hearing && (s.setButtonLine p true).pointFitted p) = true := by
    rw [Bool.and_eq_true]
    exact ⟨hh, hf⟩
  exact congrArg Host.Outcome.next ((if_pos hsampled).trans h)

theorem button_unsampled {s : State} {p : Fin 4} (h : s.hearing = false ∨ s.pointFitted p = false) :
    exec (.callButtonPressed p) s = .next (s.setButtonLine p true) := by
  have hsampled : ¬ ((s.setButtonLine p true).hearing && (s.setButtonLine p true).pointFitted p) = true := by
    rw [Bool.and_eq_true]
    rintro ⟨hh, hf⟩
    rcases h with h | h
    · exact absurd (hh.symm.trans h) (by decide)
    · exact absurd (hf.symm.trans h) (by decide)
  exact congrArg Host.Outcome.next (if_neg hsampled)

theorem buttonTaken_call {s : State} (p : Fin 4) (h : responseTable .callButton s.column = .call) : s.buttonTaken p = s.raiseCall p := by
  simp [State.buttonTaken, h]

theorem buttonTaken_other {s : State} (p : Fin 4) {r : Response} (h : responseTable .callButton s.column = r) (hr : r ≠ .call) :
    s.buttonTaken p = s.respond r := by
  unfold State.buttonTaken
  rw [h]
  cases r with
  | call => exact absurd rfl hr
  | _ => rfl

/-- R86: the record of a call as it is raised. -/
def raised (s : State) : PointRec := { state := .waiting, level := s.baseLevel, late := false, answerer := 0, hurry := false }

/-- R86: a raised call before its entry is made. -/
def callOpened (s : State) (p : Fin 4) : State := ((s.setPoint p (raised s)).startEscalation p).markCall p

theorem raiseCall_idle {s : State} {p : Fin 4} (h : (s.point p).isOpen = false) : s.raiseCall p = (callOpened s p).insertLocal p := by
  have hn : ¬ (s.point p).isOpen = true := by simp [h]
  exact if_neg hn

theorem raiseCall_open {s : State} {p : Fin 4} (h : (s.point p).isOpen = true) : s.raiseCall p = s := if_pos h

theorem callOpened_point (s : State) (p q : Fin 4) : (callOpened s p).point q = if p = q then raised s else s.point q := by
  rw [callOpened, ← State.setPoint_point]
  exact point_congr (by simp) q

theorem callOpened_localEntry (s : State) (p : Fin 4) : (callOpened s p).localEntry p
    = { id := s.ownCall p, level := s.baseLevel, answered := false, answerer := 0, isLocal := true, offered := false, heard := false } := by
  have hid : (callOpened s p).ownCall p = s.ownCall p := by simp [State.ownCall, State.own, State.cfg, callOpened]
  rw [State.localEntry, hid, callOpened_point, if_pos rfl]
  rfl

/-- R86, R97: everything that a raised call changes. -/
theorem raiseCall_spec {s : State} {p : Fin 4} (h : (s.point p).isOpen = false) (hp : s.start.phase ≠ .configRead) :
    (∀ q, (s.raiseCall p).point q = if p = q then raised s else s.point q)
    ∧ (∀ c, (s.raiseCall p).channel c = if .point p = c then Channel.fresh s.cfg.escalation .s1 .oneShot (s.cfg.escalation / 2)
        else s.channel c)
    ∧ (s.raiseCall p).link.calls = s.link.calls.set p true
    ∧ (callOpened s p).localEntry p ∈ (s.raiseCall p).calls.list
    ∧ (s.raiseCall p).buzzer.callChirp = s.buzzer.callChirp.presented
    ∧ (s.calls.list.length < 16 → (s.raiseCall p).calls.list = placeEntry ((callOpened s p).localEntry p) s.calls.list)
    ∧ s.raiseCall p = { s with calls := (s.raiseCall p).calls, timers := (s.raiseCall p).timers, link := (s.raiseCall p).link
                               troubles := (s.raiseCall p).troubles, buzzer := (s.raiseCall p).buzzer } := by
  obtain ⟨hmem, hchirp, hroom⟩ := insertLocal_spec (callOpened s p) p
  have hlist : (callOpened s p).calls.list = s.calls.list := by simp [callOpened, State.startEscalation]
  have hbuzzer : (callOpened s p).buzzer = s.buzzer := by simp [callOpened]
  have hcalls : ((callOpened s p).insertLocal p).link.calls = (callOpened s p).link.calls := by
    have hentry : ∀ u v : State, u.link.calls = v.link.calls → ∀ e, (u.insertEntry e).link.calls = v.link.calls := fun u v h e => h
    unfold State.insertLocal
    split
    · rfl
    · split
      · rfl
      next v _ =>
        refine hentry _ _ ?_ _
        rw [(State.enterTrouble_link _ _).1]
        rfl
  rw [raiseCall_idle h]
  refine ⟨fun q => by rw [insertLocal_point, callOpened_point], fun c => ?_, ?_, hmem, by rw [hchirp, hbuzzer], ?_, state_eq (by simp [callOpened])⟩
  · have hopened : ((callOpened s p).insertLocal p).channel c = ((s.setPoint p (raised s)).startEscalation p).channel c :=
      channel_congr (by simp [callOpened]) c
    rw [hopened, startEscalation_channel _ (by simpa using hp)]
    rfl
  · rw [hcalls]
    simp [callOpened]
  · rw [hlist] at hroom
    exact hroom

theorem respondAlert_marks {s : State} (h : s.watch.intrusion = false) :
    s.respondAlert.link.status = true ∧ Scene.intrusion ∈ s.respondAlert.light.above := by
  have hself : ∀ (n : Nat) (l : List Scene), Scene.intrusion ∈ pushed n .intrusion l := fun n l => by
    obtain ⟨left, heq, -, -⟩ := pushed_eq n l (sc := .intrusion) (by decide)
    rw [heq, mem_placeScene]
    exact .inl rfl
  rw [respondAlert_clear h]
  exact ⟨rfl, by simp [hself]⟩

/-- Settles O24, by the filter of the button, then by the response of its column. -/
theorem callButtonIsAnsweredByTheHour : Obligations.CallButtonIsAnsweredByTheHour := by
  refine ⟨fun s p hh hf hb hr hi => ?_, fun s p hh hf hb hr hi => ?_, fun s p hh hf hb hr => ?_, fun s p hh hf hb hr => ?_,
    fun s p hh hf hb => ⟨_, button_held hh hf hb, rfl⟩, fun s p h => ⟨_, button_unsampled h, rfl⟩⟩
  · have hidle : ((buttonHeld s p).point p).isOpen = false := by
      show (s.point p).isOpen = false
      simp [PointRec.isOpen, hi]
    obtain ⟨hpoint, hchannel, hmark, hmem, hchirp, hroom, hrest⟩ := raiseCall_spec hidle (phase_of_hearing hh)
    have hentry := callOpened_localEntry (buttonHeld s p) p
    rw [hentry] at hmem hroom
    refine ⟨(buttonHeld s p).raiseCall p, ?_, ?_, fun q hq => ?_, ?_, fun c _ hc => ?_, ?_, ⟨_, hmem, ?_⟩, fun hlen hfall => ?_, hchirp, hrest⟩
    · exact (button_pressed hh hf hb).trans (congrArg Host.Outcome.next (buttonTaken_call p hr))
    · rw [hpoint, if_pos rfl]
      rfl
    · rw [hpoint, if_neg (Ne.symm hq)]
      rfl
    · rw [hchannel, if_pos rfl]
      rfl
    · rw [hchannel, if_neg (Ne.symm hc)]
      rfl
    · simp [hmark]
    · have hown : (buttonHeld s p).ownCall p = s.ownCall p := rfl
      rw [hpoint, if_pos rfl, hown]
      simp [CallEntry.standsFor, raised]
    · rw [hroom hlen]
      exact placeEntry_eq_behindEquals _ _ hfall
  · have hopen : ((buttonHeld s p).point p).isOpen = true := by
      show (s.point p).isOpen = true
      simp [PointRec.isOpen, hi]
    exact ⟨_, (button_pressed hh hf hb).trans (congrArg Host.Outcome.next ((buttonTaken_call (s := buttonHeld s p) p hr).trans (raiseCall_open hopen))), rfl⟩
  · exact ⟨_, (button_pressed hh hf hb).trans (congrArg Host.Outcome.next (buttonTaken_other p hr (by decide))), rfl⟩
  · have heq := (button_pressed hh hf hb).trans (congrArg Host.Outcome.next (buttonTaken_other p hr (by decide)))
    have K := states_kept fun q => (s.point q).state
    refine ⟨(buttonHeld s p).respondAlert, heq, respondAlert_watch _, K.respondAlert (buttonHeld s p) fun _ => rfl, fun hi => ?_,
      fun hi => respondAlert_marks hi, by simp [buttonHeld_eq], by simp [buttonHeld], by simp [buttonHeld], by simp [buttonHeld],
      by simp [buttonHeld]⟩
    have hkept : (buttonHeld s p).respondAlert = buttonHeld s p := respondAlert_set (s := buttonHeld s p) hi
    rw [hkept]
    rfl

end Sys2Proof.Proofs.CallEvents
end

section
/-! Offers received and the key ACCEPT (R89, R102, R103). -/

namespace Sys2Proof.Proofs.CallAnswers

open Sys2Proof Sys2Proof.Machine Sys2Proof.Proofs.PartFrames Sys2Proof.Proofs.Steps Sys2Proof.Proofs.ResetUnit
open Sys2Proof.Proofs.PanelKeys Sys2Proof.Proofs.CallEvents Sys2Proof.Proofs.SceneStack

/-! ### A good frame is counted (R171) -/

/-- The station as it stands when a good frame is dispatched. -/
def goodHeard (s : State) : State := (s.awaitIdle false).countGood

theorem takeFrame_good {s : State} {fr : Frame} (hh : s.hearing = true) (hr : s.link.receives = true) (hb : fr.isBad s.own = false) :
    s.takeFrame fr = (goodHeard s).dispatch fr := by
  rw [s.takeFrame_judged fr hh hr, hb]
  rfl

theorem goodHeard_link (s : State) : (goodHeard s).link
    = { s.link with bus := .waiting false, discards := 0, status := (goodHeard s).link.status } :=
  (State.removeTroubles_link { s.awaitIdle false with link := { (s.awaitIdle false).link with discards := 0 } } _).1

theorem goodHeard_status (s : State) (h : s.link.status = true) : (goodHeard s).link.status = true :=
  (State.removeTroubles_link { s.awaitIdle false with link := { (s.awaitIdle false).link with discards := 0 } } _).2 h

@[simp] theorem goodHeard_keeps (s : State) : (goodHeard s).clock = s.clock ∧ (goodHeard s).pins = s.pins
    ∧ (goodHeard s).timers = s.timers ∧ (goodHeard s).modes = s.modes ∧ (goodHeard s).fire = s.fire ∧ (goodHeard s).watch = s.watch
    ∧ (goodHeard s).doors = s.doors ∧ (goodHeard s).calls = s.calls ∧ (goodHeard s).table = s.table
    ∧ (goodHeard s).egress = s.egress ∧ (goodHeard s).light = s.light ∧ (goodHeard s).start = s.start
    ∧ (goodHeard s).keys = s.keys ∧ (goodHeard s).raised = s.raised ∧ (goodHeard s).order = s.order
    ∧ (goodHeard s).pending = s.pending := by
  simp [goodHeard]

theorem goodHeard_own (s : State) : (goodHeard s).own = s.own := by
  simp [State.own, State.cfg]

theorem goodHeard_fitted (s : State) (p : Fin 4) : (goodHeard s).pointFitted p = s.pointFitted p := by
  have h : (goodHeard s).cfg = s.cfg := by simp [State.cfg]
  rw [State.pointFitted, h]
  rfl

/-- A state that differs from what a good frame found in the calls, their timers and their marks alone. -/
theorem goodHeard_rest (s t : State) (h : t = { goodHeard s with calls := t.calls, timers := t.timers, link := t.link })
    (hl : t.link = { (goodHeard s).link with calls := t.link.calls }) :
    t = { s with
      calls := t.calls, timers := t.timers, troubles := t.troubles, buzzer := t.buzzer
      link := { s.link with bus := .waiting false, discards := 0, status := t.link.status, calls := t.link.calls } } := by
  have hlink : t.link = { s.link with bus := .waiting false, discards := 0, status := t.link.status, calls := t.link.calls } := by
    have hstatus : t.link.status = (goodHeard s).link.status := by rw [hl]
    rw [hstatus]
    exact hl.trans (by rw [goodHeard_link])
  have ht : t.troubles = (goodHeard s).troubles := by rw [h]
  have hb : t.buzzer = (goodHeard s).buzzer := by rw [h]
  rw [← hlink, ht, hb]
  exact h.trans (state_eq (by simp))

/-! ### An offer taken (R89) -/

/-- R97: the entry of a point that has been ANSWERED takes its answerer. -/
theorem syncEntry_answered {s : State} (u : State) {p : Fin 4} {n : Station} (hl : u.calls.list = s.calls.list)
    (hid : u.ownCall p = s.ownCall p) (hp : (u.point p).state = .answered ∧ (u.point p).answerer = n) :
    (u.syncEntry p).calls.list = s.calls.list.map (fun e => if e.id = s.ownCall p then { e with answered := true, answerer := n } else e) := by
  obtain ⟨hstate, hby⟩ := hp
  have h : (u.syncEntry p).calls.list = updateEntry (u.ownCall p)
      (fun e => { e with answered := (u.point p).state == .answered, answerer := (u.point p).answerer }) u.calls.list := rfl
  rw [h, hid, hl, hstate, hby]
  rfl

/-- R89: what an offer by `n` makes of a WAITING call. -/
theorem takeOffer_waiting {s : State} {p : Fin 4} (n : Station) (h : (s.point p).state = .waiting) (hp : s.start.phase ≠ .configRead) :
    (∀ q, (s.takeOffer p n).point q = if p = q then { s.point p with state := .answered, answerer := n, hurry := false } else s.point q)
    ∧ (∀ c, (s.takeOffer p n).channel c = if .point p = c then Channel.fresh s.cfg.attend .s1 .oneShot 0 else s.channel c)
    ∧ (s.takeOffer p n).link = { s.link with calls := s.link.calls.set p true }
    ∧ (s.takeOffer p n).calls.list
      = s.calls.list.map (fun e => if e.id = s.ownCall p then { e with answered := true, answerer := n } else e)
    ∧ s.takeOffer p n = { s with calls := (s.takeOffer p n).calls, timers := (s.takeOffer p n).timers, link := (s.takeOffer p n).link } := by
  have heq : s.takeOffer p n = (((s.setPoint p { s.point p with state := .answered, answerer := n, hurry := false }).startAttend
      p).markCall p).syncEntry p := by
    unfold State.takeOffer
    dsimp only
    rw [h]
  rw [heq]
  refine ⟨fun q => by simp, fun c => ?_, by simp, syncEntry_answered _ ?_ ?_ ?_, state_eq (by simp)⟩
  · exact startAttend_channel (s.setPoint p _) hp p c
  · simp
  · simp [State.ownCall, State.own, State.cfg]
  · simp

/-- R89: an ANSWERED call takes a sender of lower number. -/
theorem takeOffer_lower {s : State} {p : Fin 4} {n : Station} (h : (s.point p).state = .answered)
    (hn : n.toNat < (s.point p).answerer.toNat) :
    (∀ q, (s.takeOffer p n).point q = if p = q then { s.point p with answerer := n } else s.point q)
    ∧ (s.takeOffer p n).link = { s.link with calls := s.link.calls.set p true }
    ∧ (s.takeOffer p n).calls.list
      = s.calls.list.map (fun e => if e.id = s.ownCall p then { e with answered := true, answerer := n } else e)
    ∧ s.takeOffer p n = { s with calls := (s.takeOffer p n).calls, link := (s.takeOffer p n).link } := by
  have heq : s.takeOffer p n = ((s.setPoint p { s.point p with answerer := n }).markCall p).syncEntry p := by
    unfold State.takeOffer
    dsimp only
    rw [h]
    exact if_pos hn
  rw [heq]
  refine ⟨fun q => by simp, by simp, syncEntry_answered _ ?_ ?_ ?_, state_eq (by simp)⟩
  · simp
  · simp [State.ownCall, State.own, State.cfg]
  · simp [h]

theorem takeOffer_higher {s : State} {p : Fin 4} {n : Station} (h : (s.point p).state = .answered)
    (hn : (s.point p).answerer.toNat ≤ n.toNat) : s.takeOffer p n = s.markCall p := by
  unfold State.takeOffer
  dsimp only
  rw [h]
  exact if_neg (by omega)

theorem takeOffer_idle {s : State} {p : Fin 4} (n : Station) (h : (s.point p).state = .idle) : s.takeOffer p n = s := by
  unfold State.takeOffer
  dsimp only
  rw [h]

theorem dispatch_offer {u : State} {f : AnswerFrame} (ho : f.origin = u.own) (hf : u.pointFitted (pointOfCode f.point) = true) :
    u.dispatch (.answer f) = u.takeOffer (pointOfCode f.point) f.source := if_pos ⟨ho, hf⟩

/-! ### ACCEPT (R102, R103) -/

theorem acceptCall_remote {s : State} {e : CallEntry} (h : s.calls.list.find? (fun x => !x.answered && !x.offered) = some e)
    (hl : e.isLocal = false) : s.acceptCall = s.loadOffer e.id := by
  have hs : s.acceptable = some e := h
  simp [State.acceptCall, hs, hl]

theorem acceptCall_local {s : State} {e : CallEntry} (h : s.calls.list.find? (fun x => !x.answered && !x.offered) = some e)
    (hl : e.isLocal = true) : s.acceptCall = s.takeOffer e.id.point s.own := by
  have hs : s.acceptable = some e := h
  simp [State.acceptCall, hs, hl]

theorem acceptCall_refused {s : State} (h : s.calls.list.find? (fun x => !x.answered && !x.offered) = none) :
    s.acceptCall = s.present .refuse := by
  have hs : s.acceptable = none := h
  simp [State.acceptCall, hs]

/-- R102: the offered flags after a loading. -/
theorem loadOffer_list (s : State) (id : CallId) : (s.loadOffer id).calls.list = s.calls.list.map (fun x =>
    { x with offered := if x.id = id then true else if s.link.offer = some x.id then false else x.offered }) := by
  have hset : ∀ (l : List CallEntry), updateEntry id (fun e => { e with offered := true }) l
      = l.map fun x => { x with offered := if x.id = id then true else x.offered } := fun l => by
    refine List.map_congr_left fun x _ => ?_
    split <;> rfl
  cases ho : s.link.offer with
  | none =>
    have h : (s.loadOffer id).calls.list = updateEntry id (fun e => { e with offered := true }) s.calls.list := by
      simp [State.loadOffer, ho, State.setOffered]
    rw [h, hset]
    simp
  | some old =>
    have h : (s.loadOffer id).calls.list = updateEntry id (fun e => { e with offered := true })
        (updateEntry old (fun e => { e with offered := false }) s.calls.list) := by
      simp [State.loadOffer, ho, State.setOffered]
    rw [h, hset, updateEntry, List.map_map]
    refine List.map_congr_left fun x _ => ?_
    by_cases hx : x.id = old
    · simp [hx]
    · simp [hx, Ne.symm hx]

theorem loadOffer_rest (s : State) (id : CallId) : s.loadOffer id = { s with
    calls := (s.loadOffer id).calls
    link := { s.link with offer := some id, sending := s.link.sending.map Sending.overtaken } } := by
  cases ho : s.link.offer <;> simp [State.loadOffer, ho, State.setOffered, State.setList]

theorem loadOffer_points (s : State) (id : CallId) : (s.loadOffer id).calls.points = s.calls.points := by
  cases ho : s.link.offer <;> simp [State.loadOffer, ho, State.setOffered, State.setList]

/-- Settles O33: offers by the state of the point they name, ACCEPT by the first entry it may answer. -/
theorem callsAreAnsweredByOffersAndByAccept : Obligations.CallsAreAnsweredByOffersAndByAccept := by
  have heard : ∀ (s : State) (f : AnswerFrame), s.hearing = true → s.link.receives = true → (Frame.answer f).isBad s.own = false →
      f.origin = s.own → s.pointFitted (pointOfCode f.point) = true →
      exec (.receivedOffer f) s = .next ((goodHeard s).takeOffer (pointOfCode f.point) f.source) := by
    intro s f hh hr hb ho hf
    have hfit := hf.symm.trans (goodHeard_fitted s (pointOfCode f.point)).symm
    exact congrArg Host.Outcome.next ((takeFrame_good hh hr hb).trans (dispatch_offer (ho.trans (goodHeard_own s).symm) hfit.symm))
  have hpoint : ∀ (s : State) (q : Fin 4), (goodHeard s).point q = s.point q := fun s => point_congr (by simp)
  have hcfg : ∀ s : State, (goodHeard s).cfg = s.cfg := fun s => by simp [State.cfg]
  have hcall : ∀ (s : State) (p : Fin 4), (goodHeard s).ownCall p = s.ownCall p := fun s p => by simp [State.ownCall, goodHeard_own]
  have hmarks : ∀ s : State, (goodHeard s).link.calls = s.link.calls := fun s => by rw [goodHeard_link]
  have hchan : ∀ (s : State) (c : Chan), (goodHeard s).channel c = s.channel c := fun s => channel_congr (by simp)
  refine ⟨fun s f hh hr hb ho hf hw => ⟨_, heard s f hh hr hb ho hf, ?_⟩, fun s f hh hr hb ho hf ha hn => ⟨_, heard s f hh hr hb ho hf, ?_⟩,
    fun s f hh hr hb ho hf ha hn => ⟨_, heard s f hh hr hb ho hf, ?_⟩, fun s f hh hr hb hno => ?_,
    fun s hk hp hn => ⟨_, congrArg Host.Outcome.next (keyDown_pressed (k := .accept) State.acceptCall hk hp), ?_⟩,
    fun s e hk hp hfirst hl hw => ⟨_, congrArg Host.Outcome.next (keyDown_pressed (k := .accept) State.acceptCall hk hp), ?_⟩,
    fun s e hk hp hfirst hl => ⟨_, congrArg Host.Outcome.next (keyDown_pressed (k := .accept) State.acceptCall hk hp), ?_⟩,
    fun s hk hp => ⟨_, congrArg Host.Outcome.next (keyDown_held (k := .accept) _ hk hp), rfl⟩,
    fun s hk => ⟨_, congrArg Host.Outcome.next (keyDown_outside (k := .accept) _ hk), rfl⟩⟩
  · obtain ⟨hpt, hch, hlink, hlist, hrest⟩ := takeOffer_waiting (s := goodHeard s) f.source (by rw [hpoint]; exact hw)
      (by simpa using phase_of_hearing hh)
    refine ⟨by rw [hpt, if_pos rfl, hpoint], fun q hq => by rw [hpt, if_neg (Ne.symm hq), hpoint], by rw [hch, if_pos rfl, hcfg],
      fun c _ hc => by rw [hch, if_neg (Ne.symm hc), hchan], by rw [hlink, hmarks], by rw [hlist, hcall]; simp,
      goodHeard_rest s _ hrest (by rw [hlink])⟩
  · obtain ⟨hpt, hlink, hlist, hrest⟩ := takeOffer_lower (s := goodHeard s) (by rw [hpoint]; exact ha) (by rw [hpoint]; exact hn)
    have htimers : ((goodHeard s).takeOffer (pointOfCode f.point) f.source).timers = (goodHeard s).timers := by rw [hrest]
    refine ⟨by rw [hpt, if_pos rfl, hpoint], fun q hq => by rw [hpt, if_neg (Ne.symm hq), hpoint], by rw [htimers]; simp, by rw [hlink, hmarks],
      by rw [hlist, hcall]; simp, goodHeard_rest s _ (hrest.trans (by rw [← htimers])) (by rw [hlink])⟩
  · rw [takeOffer_higher (s := goodHeard s) (by rw [hpoint]; exact ha) (by rw [hpoint]; exact hn)]
    refine ⟨by simp, by simp, by simp [hmarks], goodHeard_rest s _ rfl rfl⟩
  · have hsame : (goodHeard s).dispatch (.answer f) = goodHeard s := by
      by_cases hto : f.origin = (goodHeard s).own ∧ (goodHeard s).pointFitted (pointOfCode f.point) = true
      · have hidle : (s.point (pointOfCode f.point)).state = .idle := by
          rcases hno with h | h | h
          · exact absurd (hto.1.trans (goodHeard_own s)) h
          · rw [goodHeard_fitted, h] at hto
            cases hto.2
          · exact h
        rw [dispatch_offer hto.1 hto.2, takeOffer_idle]
        rw [hpoint]
        exact hidle
      · exact if_neg hto
    refine ⟨goodHeard s, congrArg Host.Outcome.next ((takeFrame_good hh hr hb).trans hsame), by simp, by simp, hmarks s, goodHeard_rest s _ rfl rfl⟩
  · rw [acceptCall_refused (s := keyHeld s .accept) hn]
    rfl
  · rw [acceptCall_local (s := keyHeld s .accept) hfirst hl]
    obtain ⟨hpt, hch, hlink, hlist, hrest⟩ := takeOffer_waiting (s := keyHeld s .accept) (keyHeld s .accept).own hw
      (by simpa using not_configRead_of_keyed hk)
    refine ⟨by rw [hpt, if_pos rfl]; rfl, fun q hq => by rw [hpt, if_neg (Ne.symm hq)]; rfl, by rw [hch, if_pos rfl]; rfl,
      fun c _ hc => by rw [hch, if_neg (Ne.symm hc)]; rfl, hlist, ?_⟩
    exact hrest.trans (by rw [hlink]; rfl)
  · rw [acceptCall_remote (s := keyHeld s .accept) hfirst hl]
    exact ⟨loadOffer_list _ _, loadOffer_points _ _, loadOffer_rest (keyHeld s .accept) e.id⟩

end Sys2Proof.Proofs.CallAnswers
end

section
/-! The timings of the call points (R88, R90, R152). -/

namespace Sys2Proof.Proofs.CallTimers

open Sys2Proof Sys2Proof.Machine Sys2Proof.Proofs.PartFrames Sys2Proof.Proofs.Steps Sys2Proof.Proofs.ResetUnit
open Sys2Proof.Proofs.CallEvents Sys2Proof.Proofs.CallList

/-! ### A compare event taken (R152) -/

theorem onCompare_acts {s : State} {c : Chan} {purpose : Bool} (act : State → State) (hl : s.live = true) (hp : purpose = true)
    (h : (s.channel c).compareDue = true) : ∃ ch, s.onCompare c purpose act = act (s.setChannel c ch) := by
  unfold State.onCompare
  simp only [hl, hp, Bool.and_self, if_true]
  unfold Channel.takeCompare
  by_cases hw : (s.channel c).waiting.contains .compare = true
  · exact ⟨_, by simp only [hw, if_true]; rfl⟩
  · exact ⟨_, by simp only [hw, h, if_true]; rfl⟩

theorem onCompare_idle {s : State} {c : Chan} {purpose : Bool} (act : State → State)
    (h : purpose = false ∨ (s.channel c).compareDue = false) : s.onCompare c purpose act = s := by
  unfold State.onCompare
  split
  next hp =>
    simp only [Bool.and_eq_true] at hp
    have hdue : (s.channel c).compareDue = false := h.resolve_left (by simp [hp.2])
    have hw : (s.channel c).waiting.contains .compare = false := by
      unfold Channel.compareDue at hdue
      rw [Bool.or_eq_false_iff] at hdue
      exact hdue.1
    have hnone : (s.channel c).takeCompare = none := by
      unfold Channel.takeCompare
      simp only [hw, hdue, Bool.false_eq_true, if_false]
    rw [hnone]
  next => rfl

/-! ### An entry moved to a level (R96) -/

section Moved

variable {id : CallId} {l : List CallEntry} {m n : Nat}

theorem mem_of_find {e : CallEntry} (h : (l.find? fun x => x.id == id) = some e) : e ∈ l ∧ e.id = id :=
  ⟨List.mem_of_find?_eq_some h, by simpa using List.find?_some h⟩

theorem relevelEntry_same (h : ∀ e ∈ l, e.id = id → e.level = m) : relevelEntry id m l = l := by
  unfold relevelEntry
  split
  · rfl
  next e he =>
    obtain ⟨hmem, hid⟩ := mem_of_find he
    exact if_pos (h e hmem hid)

theorem mem_relevelEntry_other {x : CallEntry} (hx : x ∈ l) (hid : x.id ≠ id) : x ∈ relevelEntry id n l := by
  unfold relevelEntry
  split
  · exact hx
  · split
    · exact hx
    · rw [mem_placeEntry]
      exact .inr (List.mem_filter.mpr ⟨hx, by simpa using hid⟩)

/-- The entries of the identity carry the level they were moved to. -/
theorem mem_relevelEntry_own (h : ∀ e ∈ l, e.id = id → e.level = m) {x : CallEntry} (hx : x ∈ relevelEntry id n l) (hid : x.id = id) :
    ∃ e ∈ l, e.id = id ∧ x = { e with level := n } := by
  unfold relevelEntry at hx
  split at hx
  next hnone => exact absurd hid (by simpa using List.find?_eq_none.mp hnone x hx)
  next e he =>
    obtain ⟨hmem, heid⟩ := mem_of_find he
    split at hx
    next hn =>
      refine ⟨x, hx, hid, ?_⟩
      rw [← hn, h e hmem heid, ← h x hx hid]
    next =>
      rcases (mem_placeEntry _ _ _).mp hx with hx | hx
      · exact ⟨e, hmem, heid, hx⟩
      · exact absurd hid (by simpa using (List.mem_filter.mp hx).2)

theorem relevelEntry_behindEquals (hf : falling l) (hd : (l.map CallEntry.id).Nodup) {e : CallEntry} (he : e ∈ l) (hid : e.id = id)
    (hn : e.level ≠ n) : relevelEntry id n l = behindEquals { e with level := n } (l.filter fun x => x.id != id) := by
  subst hid
  unfold relevelEntry
  rw [find_of_mem hd he]
  dsimp only
  rw [if_neg hn]
  exact placeEntry_eq_behindEquals _ _ (hf.filter _)

theorem length_relevelEntry_le : (relevelEntry id n l).length ≤ l.length := by
  unfold relevelEntry
  split
  · exact le_rfl
  next e he =>
    split
    · exact le_rfl
    · obtain ⟨hmem, hid⟩ := mem_of_find he
      rw [length_placeEntry, Nat.succ_le_iff, ← List.countP_eq_length_filter]
      exact List.countP_lt_length_iff.mpr ⟨e, hmem, by simp [hid]⟩

end Moved

/-! ### The parts of an escalation (R87, R88, R90) -/

theorem candidateLevel_congr {s t : State} (hf : t.fire = s.fire) (he : t.egress = s.egress) (b : Bool) :
    t.candidateLevel b = s.candidateLevel b := by
  have h : t.baseLevel = s.baseLevel := by simp only [State.baseLevel, hf, he]
  rw [State.candidateLevel, State.candidateLevel, h]

/-- R87: an open point computed again, with its entry. -/
theorem relevel_spec {s : State} {p : Fin 4} (ho : (s.point p).isOpen = true)
    (hl : ∀ e ∈ s.calls.list, e.id = s.ownCall p → e.level = (s.point p).level) :
    (∀ q, (s.relevel p).point q = if p = q then { s.point p with level := max (s.point p).level (s.candidateLevel (s.point p).late) }
      else s.point q)
    ∧ (s.relevel p).calls.list = relevelEntry (s.ownCall p) (max (s.point p).level (s.candidateLevel (s.point p).late)) s.calls.list
    ∧ (∀ q : Fin 4, q ≠ p → (s.relevel p).link.calls[q] = s.link.calls[q])
    ∧ s.relevel p = { s with calls := (s.relevel p).calls, link := { s.link with calls := (s.relevel p).link.calls } } := by
  obtain ⟨n, hn⟩ : ∃ n, n = max (s.point p).level (s.candidateLevel (s.point p).late) := ⟨_, rfl⟩
  rw [← hn]
  by_cases hsame : n = (s.point p).level
  · have heq : s.relevel p = s := by
      unfold State.relevel
      exact if_pos (by simp [← hn, hsame])
    rw [heq, hsame, relevelEntry_same hl]
    refine ⟨fun q => ?_, rfl, fun _ _ => rfl, rfl⟩
    split
    next h => rw [← h]
    next => rfl
  · have heq : s.relevel p = ((s.setPoint p { s.point p with level := n }).setList (relevelEntry (s.ownCall p) n s.calls.list)).markCall p := by
      unfold State.relevel
      rw [hn]
      exact if_neg (by simp [← hn, hsame, ho])
    rw [heq]
    refine ⟨fun q => by simp, by simp, fun q hq => ?_, rfl⟩
    simp [Fin.val_inj, Ne.symm hq]

/-- R88: the hurry flag set by a compare event still due, before the expiry. -/
def hurried (s : State) (p : Fin 4) (due : Bool) : State := if due then s.hurry p else s

theorem hurry_waiting {s : State} {p : Fin 4} (h : (s.point p).state = .waiting) :
    s.hurry p = s.setPoint p { s.point p with hurry := true } := if_pos h

theorem hurried_waiting {s : State} {p : Fin 4} (due : Bool) (h : (s.point p).state = .waiting) :
    hurried s p due = s.setPoint p { s.point p with hurry := (s.point p).hurry || due } := by
  cases due with
  | true =>
    rw [Bool.or_true]
    exact hurry_waiting h
  | false =>
    rw [Bool.or_false]
    refine state_eq ?_
    have hset : s.calls.points.set p (s.point p) = s.calls.points := by
      simp [State.point]
    simp only [hurried, State.setPoint, Bool.false_eq_true, if_false, hset]
    simp

/-- A call that waits again, late, under a running escalation: what both expiries leave. -/
structure Escalated (s t : State) (p : Fin 4) (f : CallEntry → CallEntry) (r : PointRec) : Prop where
  point : ∀ q, t.point q = if p = q then r else s.point q
  channel : ∀ c, t.channel c = if .point p = c then Channel.fresh s.cfg.escalation .s1 .oneShot (s.cfg.escalation / 2) else s.channel c
  mark : t.link.calls[p] = true ∧ ∀ q : Fin 4, q ≠ p → t.link.calls[q] = s.link.calls[q]
  list : t.calls.list = relevelEntry (s.ownCall p) r.level (updateEntry (s.ownCall p) f s.calls.list)
  rest : t = { s with timers := t.timers, calls := t.calls, link := { s.link with calls := t.link.calls } }

/-- A call's record and entry changed, its timing not yet begun. -/
structure Returned (s w : State) (p : Fin 4) (f : CallEntry → CallEntry) (r : PointRec) : Prop where
  point : ∀ q, w.point q = if p = q then r else s.point q
  channel : ∀ c, c ≠ .point p → w.channel c = s.channel c
  list : w.calls.list = updateEntry (s.ownCall p) f s.calls.list
  rest : w = { s with timers := w.timers, calls := w.calls }

theorem markCall_startEscalation (s : State) (p : Fin 4) : (s.markCall p).startEscalation p = (s.startEscalation p).markCall p := by
  unfold State.startEscalation State.startTimer
  have h : (s.markCall p).start.phase = s.start.phase := rfl
  rw [h]
  split <;> rfl

theorem mem_updateEntry {id : CallId} {f : CallEntry → CallEntry} {l : List CallEntry} {x : CallEntry} (hx : x ∈ updateEntry id f l) (hid : x.id = id) : ∃ e ∈ l, e.id = id ∧ x = f e := by
  obtain ⟨e, he, rfl⟩ := List.mem_map.mp hx
  by_cases h : e.id = id
  · exact ⟨e, he, h, by simp [h]⟩
  · simp [h] at hid

theorem updateEntry_ids (id : CallId) {f : CallEntry → CallEntry} {l : List CallEntry} (hf : ∀ e, (f e).id = e.id) :
    (updateEntry id f l).map CallEntry.id = l.map CallEntry.id := by
  rw [updateEntry, List.map_map]
  refine List.map_congr_left fun x _ => ?_
  simp only [Function.comp_apply]
  split
  · exact hf x
  · rfl

/-- The entries of other identities stay as they are. -/
theorem updateEntry_others (id : CallId) {f : CallEntry → CallEntry} {l : List CallEntry} (hf : ∀ e, (f e).id = e.id) :
    (updateEntry id f l).filter (fun x => x.id != id) = l.filter fun x => x.id != id := by
  have hcomp : ((fun x : CallEntry => x.id != id) ∘ fun e => if e.id = id then f e else e) = fun x => x.id != id := by
    funext x
    by_cases hx : x.id = id <;> simp [hx, hf]
  rw [updateEntry, List.filter_map, hcomp]
  refine (List.map_congr_left fun x hx => ?_).trans (List.map_id _)
  exact if_neg (by simpa using (List.mem_filter.mp hx).2)

/-- R88, R90: the escalation of a call that waits. -/
theorem Returned.escalates {s w : State} {p : Fin 4} {f : CallEntry → CallEntry} {r : PointRec} (h : Returned s w p f r)
    (ho : r.isOpen = true) (hl : ∀ e ∈ s.calls.list, e.id = s.ownCall p → e.level = r.level)
    (hlev : ∀ e, (f e).level = e.level) (hp : s.start.phase ≠ .configRead) :
    Escalated s (((w.relevel p).markCall p).startEscalation p) p f { r with level := max r.level (s.candidateLevel r.late) } := by
  have hpt : w.point p = r := by rw [h.point, if_pos rfl]
  have hown : w.ownCall p = s.ownCall p := by rw [h.rest]; rfl
  have hcand : ∀ b, w.candidateLevel b = s.candidateLevel b := candidateLevel_congr (by rw [h.rest]) (by rw [h.rest])
  have hstart : w.start = s.start := by rw [h.rest]
  obtain ⟨hpoint, hlist, hmark, hrest⟩ := relevel_spec (s := w) (p := p) (by rw [hpt]; exact ho) fun e he heid => by
    rw [h.list] at he
    obtain ⟨x, hx, hxid, rfl⟩ := mem_updateEntry he (heid.trans hown)
    rw [hpt, hlev, hl x hx hxid]
  rw [hpt, hcand] at hpoint hlist
  have hwlink : w.link = s.link := by rw [h.rest]
  rw [markCall_startEscalation]
  refine ⟨fun q => ?_, fun c => ?_, ⟨by simp, fun q hq => ?_⟩, ?_, ?_⟩
  · rw [markCall_point, startEscalation_point, hpoint, h.point]
    split <;> rfl
  · have hch : (((w.relevel p).startEscalation p).markCall p).channel c = ((w.relevel p).startEscalation p).channel c := rfl
    have hcfg : (w.relevel p).cfg = s.cfg := by simp [State.cfg, hstart]
    rw [hch, startEscalation_channel _ (by simpa [hstart] using hp), hcfg]
    by_cases hc : Chan.point p = c
    · rw [if_pos hc, if_pos hc]
    · rw [if_neg hc, if_neg hc, channel_congr (s := w) (by simp), h.channel c (Ne.symm hc)]
  · have hq' : (((w.relevel p).startEscalation p).markCall p).link.calls[q] = (w.relevel p).link.calls[q] := by
      simp [Fin.val_inj, Ne.symm hq]
    rw [hq', hmark q hq, hwlink]
  · have h1 : (((w.relevel p).startEscalation p).markCall p).calls.list = (w.relevel p).calls.list := by
      simp [State.startEscalation]
    rw [h1, hlist, h.list, hown]
  · have hlink : (((w.relevel p).startEscalation p).markCall p).link
        = { w.link with calls := (((w.relevel p).startEscalation p).markCall p).link.calls } := by
      have hkeep : (((w.relevel p).startEscalation p).markCall p).link
          = { (w.relevel p).link with calls := (((w.relevel p).startEscalation p).markCall p).link.calls } := by
        simp
      refine hkeep.trans ?_
      rw [hrest]
    have hw : (((w.relevel p).startEscalation p).markCall p) = { w with
        timers := (((w.relevel p).startEscalation p).markCall p).timers
        calls := (((w.relevel p).startEscalation p).markCall p).calls
        link := { w.link with calls := (((w.relevel p).startEscalation p).markCall p).link.calls } } := by
      rw [← hlink]
      exact state_eq (by simp)
    exact hw.trans (by rw [hwlink, h.rest])

/-- R88: the expiry at a WAITING point. -/
theorem escalate_waiting {s : State} {p : Fin 4} (h : (s.point p).state = .waiting) :
    s.escalate p = (((s.setPoint p { s.point p with late := true }).relevel p).markCall p).startEscalation p := if_pos h

/-- R90: the attend limit at an ANSWERED point. -/
theorem attendLapse_answered {s : State} {p : Fin 4} (h : (s.point p).state = .answered) : s.attendLapse p
    = ((((s.setPoint p { s.point p with state := .waiting, answerer := 0, late := true, hurry := true }).syncEntry p).relevel
        p).markCall p).startEscalation p := by
  rw [markCall_startEscalation]
  exact if_pos h

theorem updateEntry_id (id : CallId) (l : List CallEntry) : updateEntry id (fun e => e) l = l := by
  simp [updateEntry]

/-- What the statement says of the list after either expiry. -/
theorem Escalated.entries {s t : State} {p : Fin 4} {f : CallEntry → CallEntry} {r : PointRec} {m : Nat} (h : Escalated s t p f r)
    (hl : ∀ e ∈ s.calls.list, e.id = s.ownCall p → e.level = m) (hid : ∀ e, (f e).id = e.id) (hlev : ∀ e, (f e).level = e.level) :
    (∀ e ∈ s.calls.list, e.id ≠ s.ownCall p → e ∈ t.calls.list)
    ∧ (∀ e ∈ t.calls.list, e.id = s.ownCall p → ∃ x, e = { f x with level := r.level })
    ∧ (falling s.calls.list → (s.calls.list.map CallEntry.id).Nodup → r.level ≠ m → ∀ e ∈ s.calls.list, e.id = s.ownCall p →
        t.calls.list = behindEquals { f e with level := r.level } (s.calls.list.filter fun x => x.id != s.ownCall p))
    ∧ t.calls.list.length ≤ s.calls.list.length := by
  rw [h.list]
  have hown : ∀ x ∈ updateEntry (s.ownCall p) f s.calls.list, x.id = s.ownCall p → x.level = m := fun x hx hxid => by
    obtain ⟨e, he, heid, rfl⟩ := mem_updateEntry hx hxid
    rw [hlev, hl e he heid]
  refine ⟨fun e he heid => mem_relevelEntry_other (List.mem_map.mpr ⟨e, he, if_neg heid⟩) heid, fun x hx hxid => ?_,
    fun hfall hd hne e he heid => ?_, length_relevelEntry_le.trans (by simp [updateEntry])⟩
  · obtain ⟨y, hy, hyid, rfl⟩ := mem_relevelEntry_own hown hx hxid
    obtain ⟨e, -, -, rfl⟩ := mem_updateEntry hy hyid
    exact ⟨e, rfl⟩
  · have hmem : f e ∈ updateEntry (s.ownCall p) f s.calls.list := List.mem_map.mpr ⟨e, he, if_pos heid⟩
    rw [relevelEntry_behindEquals (falling_updateEntry hfall (s.ownCall p) f hlev) (by rw [updateEntry_ids _ hid]; exact hd) hmem
      ((hid e).trans heid) (n := r.level) (by rw [hlev, hl e he heid]; exact Ne.symm hne), updateEntry_others _ hid]

/-- Settles O31: each expiry leaves an escalated call. -/
theorem callTimersHurryEscalateAndReturn : Obligations.CallTimersHurryEscalateAndReturn := by
  refine ⟨fun s p hl hw hdue => ?_, fun s p h => ⟨s, congrArg Host.Outcome.next (onCompare_idle _ (h.imp_left fun h => by simpa using h)), rfl⟩,
    fun s p hh hw hexp hlev => ?_, fun s p h => ⟨s, congrArg Host.Outcome.next (s.onExpiry_idle _ _ _ (h.imp_left fun h => by simp [h])), rfl⟩,
    fun s p hh ha hexp hlev => ?_, fun s p h => ⟨s, congrArg Host.Outcome.next (s.onExpiry_idle _ _ _ (h.imp_left fun h => by simp [h])), rfl⟩⟩
  · obtain ⟨ch, hact⟩ := onCompare_acts (s := s) (c := .point p) (fun t => t.hurry p) hl (purpose := (s.point p).state == .waiting) (by simp [hw]) hdue
    have hset : (s.setChannel (.point p) ch).hurry p = (s.setChannel (.point p) ch).setPoint p { s.point p with hurry := true } :=
      hurry_waiting hw
    refine ⟨_, congrArg Host.Outcome.next (hact.trans hset), by simp, fun q hq => ?_, fun c _ hc => ?_, rfl, rfl⟩
    · rw [State.setPoint_point, if_neg (Ne.symm hq)]
      rfl
    · rw [State.setPoint_channel, State.setChannel_channel, if_neg (Ne.symm hc)]
  · obtain ⟨ch, -, hact⟩ := s.onExpiry_acts (.point p) ((s.point p).state == .waiting) (fun t =>
      (if (s.channel (.point p)).compareDue then t.hurry p else t).escalate p) (s.live_of_hearing hh) (by simp [hw]) hexp
    obtain ⟨due, hdue⟩ : ∃ due, due = (s.channel (.point p)).compareDue := ⟨_, rfl⟩
    rw [← hdue]
    have hw' : ((s.setChannel (.point p) ch).point p).state = .waiting := hw
    obtain ⟨v, hv⟩ : ∃ v, v = hurried (s.setChannel (.point p) ch) p due := ⟨_, rfl⟩
    rw [hurried_waiting due hw'] at hv
    have hvp : v.point p = { s.point p with hurry := (s.point p).hurry || due } := by
      rw [hv, State.setPoint_point, if_pos rfl]
      rfl
    have hreturned : Returned s (v.setPoint p { v.point p with late := true }) p (fun e => e)
        { s.point p with hurry := (s.point p).hurry || due, late := true } := by
      refine ⟨fun q => ?_, fun c hc => ?_, ?_, ?_⟩
      · rw [State.setPoint_point, hvp, hv, State.setPoint_point]
        split <;> rfl
      · rw [hv, State.setPoint_channel, State.setPoint_channel, State.setChannel_channel, if_neg (Ne.symm hc)]
      · rw [updateEntry_id, hv]
        rfl
      · rw [hv]
        rfl
    have hesc := hreturned.escalates (by simp [PointRec.isOpen, hw]) hlev (fun _ => rfl) (phase_of_hearing hh)
    rw [← escalate_waiting (by rw [hvp]; exact hw)] at hesc
    obtain ⟨hother, hown, hbehind, hlen⟩ := hesc.entries hlev (fun _ => rfl) (fun _ => rfl)
    have hpoint := hesc.point p
    rw [if_pos rfl] at hpoint
    refine ⟨v.escalate p, ?_, hpoint, fun q hq => by rw [hesc.point, if_neg (Ne.symm hq)], fun c _ hc => by rw [hesc.channel, if_neg (Ne.symm hc)],
      by rw [hesc.channel, if_pos rfl], hesc.mark, hother, fun e he heid => ?_, fun hf hd hne e he heid => ?_, hlen, hesc.rest⟩
    · rw [← hurried_waiting due hw'] at hv
      exact congrArg Host.Outcome.next (hact.trans (by rw [hv, hurried, hdue]))
    · obtain ⟨x, hx⟩ := hown e he heid
      rw [hpoint, hx]
    · rw [hpoint] at hne ⊢
      exact hbehind hf hd hne e he heid
  · obtain ⟨ch, -, hact⟩ := s.onExpiry_acts (.point p) ((s.point p).state == .answered) (fun t => t.attendLapse p)
      (s.live_of_hearing hh) (by simp [ha]) hexp
    obtain ⟨u, hu⟩ : ∃ u, u = s.setChannel (.point p) ch := ⟨_, rfl⟩
    have ha' : (u.point p).state = .answered := by rw [hu]; exact ha
    have hreturned : Returned s ((u.setPoint p { u.point p with state := .waiting, answerer := 0, late := true, hurry := true }).syncEntry p)
        p (fun e => { e with answered := false, answerer := 0 })
        { s.point p with state := .waiting, answerer := 0, late := true, hurry := true } := by
      refine ⟨fun q => ?_, fun c hc => ?_, ?_, ?_⟩
      · rw [syncEntry_point, State.setPoint_point, hu]
        rfl
      · have h : ((u.setPoint p { u.point p with state := .waiting, answerer := 0, late := true, hurry := true }).syncEntry p).channel c
            = u.channel c := rfl
        rw [h, hu, State.setChannel_channel, if_neg (Ne.symm hc)]
      · have h : ((u.setPoint p { u.point p with state := .waiting, answerer := 0, late := true, hurry := true }).point p)
            = { u.point p with state := .waiting, answerer := 0, late := true, hurry := true } := by simp
        rw [State.syncEntry, h, hu]
        rfl
      · rw [hu]
        rfl
    have hesc := hreturned.escalates rfl hlev (fun _ => rfl) (phase_of_hearing hh)
    rw [← attendLapse_answered ha'] at hesc
    obtain ⟨hother, hown, hbehind, hlen⟩ := hesc.entries hlev (fun _ => rfl) (fun _ => rfl)
    have hpoint := hesc.point p
    rw [if_pos rfl] at hpoint
    refine ⟨u.attendLapse p, congrArg Host.Outcome.next (hact.trans (by rw [hu])), hpoint, fun q hq => by rw [hesc.point, if_neg (Ne.symm hq)],
      fun c _ hc => by rw [hesc.channel, if_neg (Ne.symm hc)], by rw [hesc.channel, if_pos rfl], hesc.mark, hother, fun e he heid => ?_,
      fun hf hd hne e he heid => ?_, hlen, hesc.rest⟩
    · obtain ⟨x, hx⟩ := hown e he heid
      rw [hpoint, hx]
      exact ⟨rfl, rfl, rfl⟩
    · rw [hpoint] at hne ⊢
      exact hbehind hf hd hne e he heid

end Sys2Proof.Proofs.CallTimers
end

section
/-! Notices of other stations' calls (R98, R99, R104). -/

namespace Sys2Proof.Proofs.Notices

open Sys2Proof Sys2Proof.Machine Sys2Proof.Proofs.PartFrames Sys2Proof.Proofs.Steps Sys2Proof.Proofs.ResetUnit
open Sys2Proof.Proofs.CallEvents Sys2Proof.Proofs.CallList Sys2Proof.Proofs.CallAnswers Sys2Proof.Proofs.CallTimers

/-- R98: the remote entry that a notice of an unknown call gives. -/
def noticed (id : CallId) (x : BitVec 2) (level : Nat) (answerer : Station) : CallEntry :=
  { id := id, level := level, answered := x == 1, answerer := answerer, isLocal := false, offered := false, heard := true }

/-- R98, R104: an entry as a notice of its call updates it. -/
def renoticed (s : State) (id : CallId) (x : BitVec 2) (answerer : Station) (e : CallEntry) : CallEntry :=
  { e with answered := x == 1, answerer := answerer, heard := true
           offered := e.offered && (s.link.offer == some id || ((x == 1) && answerer == s.own)) }

variable {s : State} {id : CallId} {x : BitVec 2} {n : Nat} {a : Station}

theorem find_unknown {l : List CallEntry} (h : ∀ e ∈ l, e.id ≠ id) : (l.find? fun e => e.id == id) = none := by
  simpa using h

theorem takeNotice_unknown_cleared (h : ∀ e ∈ s.calls.list, e.id ≠ id) : s.takeNotice id 2 n a = s := by
  unfold State.takeNotice
  dsimp only
  rw [find_unknown h]
  exact if_pos rfl

theorem takeNotice_known_cleared {e : CallEntry} (he : e ∈ s.calls.list) (hid : e.id = id) :
    s.takeNotice id 2 n a = s.dropEntries fun e => e.id == id := by
  obtain ⟨e', he'⟩ : ∃ e', (s.calls.list.find? fun e => e.id == id) = some e' := by
    rw [← Option.isSome_iff_exists, List.find?_isSome]
    exact ⟨e, he, by simp [hid]⟩
  unfold State.takeNotice
  dsimp only
  rw [he']
  exact if_pos rfl

theorem takeNotice_known (hx : x ≠ 2) (hd : (s.calls.list.map CallEntry.id).Nodup) {e : CallEntry} (he : e ∈ s.calls.list) (hid : e.id = id) :
    s.takeNotice id x n a = s.setList (relevelEntry id n (updateEntry id (renoticed s id x a) s.calls.list)) := by
  unfold State.takeNotice
  dsimp only
  rw [← hid, find_of_mem hd he]
  exact if_neg hx

/-- R98: a notice of an unknown call that is not cleared, by the room of the list. -/
theorem takeNotice_unknown (hx : x ≠ 2) (h : ∀ e ∈ s.calls.list, e.id ≠ id) : s.takeNotice id x n a =
    if s.calls.list.length < 16 then s.insertEntry (noticed id x n a)
    else match lastRemote s.calls.list with
      | none => s.enterTrouble .callListFull
      | some v =>
        if v.level < n then ((s.dropEntries fun y => y.id == v.id).enterTrouble .callListFull).insertEntry (noticed id x n a)
        else s.enterTrouble .callListFull := by
  unfold State.takeNotice
  dsimp only
  rw [find_unknown h]
  exact if_neg hx

theorem takeNotice_room (hx : x ≠ 2) (h : ∀ e ∈ s.calls.list, e.id ≠ id) (hroom : s.calls.list.length < 16) :
    s.takeNotice id x n a = s.insertEntry (noticed id x n a) :=
  (takeNotice_unknown hx h).trans (if_pos hroom)

theorem takeNotice_refused (hx : x ≠ 2) (h : ∀ e ∈ s.calls.list, e.id ≠ id) (hfull : 16 ≤ s.calls.list.length)
    (hv : ∀ v, lastRemote s.calls.list = some v → n ≤ v.level) : s.takeNotice id x n a = s.enterTrouble .callListFull := by
  rw [takeNotice_unknown hx h, if_neg (by omega)]
  split
  · rfl
  next v hlast => exact if_neg (by have := hv v hlast; omega)

theorem takeNotice_displaces (hx : x ≠ 2) (h : ∀ e ∈ s.calls.list, e.id ≠ id) (hfull : 16 ≤ s.calls.list.length) {v : CallEntry}
    (hv : lastRemote s.calls.list = some v) (hn : v.level < n) : s.takeNotice id x n a
      = ((s.dropEntries fun y => y.id == v.id).enterTrouble .callListFull).insertEntry (noticed id x n a) := by
  rw [takeNotice_unknown hx h, if_neg (by omega), hv]
  exact if_pos hn

/-- R102: the entry that leaves takes an unsent offer for it along. -/
theorem dropEntries_offer (s : State) (id : CallId) : (s.dropEntries fun e => e.id == id).link.offer
    = if s.link.offer = some id ∧ ∃ e ∈ s.calls.list, e.id = id then none else s.link.offer := by
  have hoff : (s.dropEntries fun e => e.id == id).link.offer
      = s.link.offer.filter fun i => !(s.calls.list.any fun e => e.id == id && e.id == i) := rfl
  rw [hoff]
  cases ho : s.link.offer with
  | none => simp
  | some i =>
    by_cases hi : i = id
    · subst hi
      by_cases hex : ∃ e ∈ s.calls.list, e.id = i
      · simp [Option.filter, hex]
      · rw [if_neg (fun h => hex h.2)]
        have hnone : ∀ e ∈ s.calls.list, e.id ≠ i := fun e he heid => hex ⟨e, he, heid⟩
        simpa [Option.filter] using hnone
    · have hne : ∀ e ∈ s.calls.list, e.id = id → e.id ≠ i := fun e _ heid h => hi (h ▸ heid)
      simpa [Option.filter, hi] using hne

theorem dropEntries_link (s : State) (g : CallEntry → Bool) :
    (s.dropEntries g).link = { s.link with offer := (s.dropEntries g).link.offer } := rfl

theorem dropEntries_rest (s : State) (g : CallEntry → Bool) :
    s.dropEntries g = { s with calls := { s.calls with list := s.calls.list.filter fun e => !g e }, link := (s.dropEntries g).link } := rfl

/-- A state that differs from what a good frame found in the call list, the offer, the troubles and the buzzer alone. -/
theorem goodHeard_notice (s t : State)
    (h : t = { goodHeard s with calls := t.calls, troubles := t.troubles, buzzer := t.buzzer, link := t.link })
    (hl : t.link = { (goodHeard s).link with status := t.link.status, offer := t.link.offer }) :
    t = { s with
      calls := t.calls, troubles := t.troubles, buzzer := t.buzzer
      link := { s.link with bus := .waiting false, discards := 0, status := t.link.status, offer := t.link.offer } } := by
  have hlink : t.link = { s.link with bus := .waiting false, discards := 0, status := t.link.status, offer := t.link.offer } :=
    hl.trans (by rw [goodHeard_link])
  rw [← hlink]
  exact h.trans (state_eq (by simp))

theorem goodHeard_chirp (s : State) : (goodHeard s).buzzer.callChirp = s.buzzer.callChirp := by
  unfold goodHeard State.countGood State.removeTrouble State.removeTroubles
  dsimp only
  split <;> rfl

/-- R98: the list after a notice of a call that it holds. -/
theorem renoticed_list (hd : (s.calls.list.map CallEntry.id).Nodup) {e : CallEntry} (he : e ∈ s.calls.list) (hid : e.id = id) :
    let l := relevelEntry id n (updateEntry id (renoticed s id x a) s.calls.list)
    let new : CallEntry := { renoticed s id x a e with level := n }
    new ∈ l ∧ (∀ y ∈ s.calls.list, y.id ≠ id → y ∈ l)
      ∧ (e.level = n → l = s.calls.list.map fun y => if y.id = e.id then new else y)
      ∧ (falling s.calls.list → e.level ≠ n → l = behindEquals new (s.calls.list.filter fun y => y.id != e.id))
      ∧ l.length = s.calls.list.length := by
  intro l new
  subst hid
  have hids := updateEntry_ids e.id (l := s.calls.list) (f := renoticed s e.id x a) fun _ => rfl
  have hd' : ((updateEntry e.id (renoticed s e.id x a) s.calls.list).map CallEntry.id).Nodup := by rwa [hids]
  have hmem : renoticed s e.id x a e ∈ updateEntry e.id (renoticed s e.id x a) s.calls.list :=
    List.mem_map.mpr ⟨e, he, if_pos rfl⟩
  have hperm := relevelEntry_perm hd' hmem n
  have honly : ∀ y ∈ s.calls.list, y.id = e.id → y = e := fun y hy hyid => List.inj_on_of_nodup_map hd hy he hyid
  refine ⟨hperm.mem_iff.mpr List.mem_cons_self, fun y hy hyid => ?_, fun hlev => ?_, fun hf hlev => ?_, ?_⟩
  · exact mem_relevelEntry_other (List.mem_map.mpr ⟨y, hy, if_neg hyid⟩) hyid
  · have hsame : l = updateEntry e.id (renoticed s e.id x a) s.calls.list := relevelEntry_same fun y hy hyid => by
      obtain ⟨z, hz, hzid, rfl⟩ := mem_updateEntry hy hyid
      rw [honly z hz hzid]
      exact hlev
    rw [hsame]
    refine List.map_congr_left fun y hy => ?_
    split
    next hyid =>
      rw [honly y hy hyid]
      show renoticed s e.id x a e = { renoticed s e.id x a e with level := n }
      rw [← hlev]
      rfl
    next => rfl
  · have h := relevelEntry_behindEquals (falling_updateEntry hf e.id (renoticed s e.id x a) fun _ => rfl) hd' hmem
      (id := e.id) rfl (n := n) hlev
    rw [updateEntry_others (f := renoticed s e.id x a) e.id fun _ => rfl] at h
    exact h
  · have hlen : l.length = (updateEntry e.id (renoticed s e.id x a) s.calls.list).length :=
      hperm.length_eq.trans (perm_cons_others hd' hmem).length_eq.symm
    rw [hlen, updateEntry, List.length_map]

/-- Settles O32, by what the list holds for the call and the room it has. -/
theorem noticesKeepTheCallList : Obligations.NoticesKeepTheCallList := by
  have hcalls : ∀ s : State, (goodHeard s).calls = s.calls := fun s => by simp
  have hpoints : ∀ s : State, (goodHeard s).calls.points = s.calls.points := fun s => by rw [hcalls]
  have hoffer : ∀ s : State, (goodHeard s).link.offer = s.link.offer := fun s => by rw [goodHeard_link]
  have heard : ∀ (s : State) (f : CallFrame), s.hearing = true → s.link.receives = true → (Frame.call f).isBad s.own = false →
      exec (.receivedNotice f) s = .next ((goodHeard s).takeNotice { origin := f.source, point := pointOfCode f.point } f.state
        (levelOfCode f.level) (answererOfCode (f.state == 1) f.answerer)) :=
    fun s f hh hr hb => congrArg Host.Outcome.next (takeFrame_good hh hr hb)
  refine ⟨fun s f hh hr hb hx => ?_, fun s f hh hr hb hx hn hroom => ⟨_, heard s f hh hr hb, ?_⟩,
    fun s f e hh hr hb hx hd he hid => ⟨_, heard s f hh hr hb, ?_⟩, fun s f hh hr hb hx hn hfull hv => ⟨_, heard s f hh hr hb, ?_⟩,
    fun s f v hh hr hb hx hn hfull hv hlt => ⟨_, heard s f hh hr hb, ?_⟩⟩
  · refine ⟨_, heard s f hh hr hb, ?_⟩
    rw [hx]
    by_cases hex : ∃ e ∈ s.calls.list, e.id = { origin := f.source, point := pointOfCode f.point : CallId }
    · obtain ⟨e, he, hid⟩ := hex
      rw [takeNotice_known_cleared (s := goodHeard s) (by rw [hcalls]; exact he) hid]
      refine ⟨?_, ?_, ?_, goodHeard_notice s _ rfl rfl⟩
      · rw [State.dropEntries_calls, hcalls]
        rfl
      · rw [dropEntries_offer, hcalls, hoffer]
      · rw [State.dropEntries_calls, hcalls]
    · have hnone : ∀ e ∈ s.calls.list, e.id ≠ { origin := f.source, point := pointOfCode f.point : CallId } :=
        fun e he hid => hex ⟨e, he, hid⟩
      rw [takeNotice_unknown_cleared (s := goodHeard s) (by rw [hcalls]; exact hnone)]
      refine ⟨?_, ?_, by rw [hcalls], goodHeard_notice s _ rfl rfl⟩
      · rw [hcalls]
        exact (List.filter_eq_self.mpr fun e he => by simpa using hnone e he).symm
      · rw [if_neg fun h => hex h.2, hoffer]
  · rw [takeNotice_room (s := goodHeard s) hx (by rw [hcalls]; exact hn) (by rw [hcalls]; exact hroom)]
    have hlist : ((goodHeard s).insertEntry (noticed { origin := f.source, point := pointOfCode f.point } f.state (levelOfCode f.level)
        (answererOfCode (f.state == 1) f.answerer))).calls.list
        = placeEntry (noticed { origin := f.source, point := pointOfCode f.point } f.state (levelOfCode f.level) (answererOfCode (f.state == 1) f.answerer)) s.calls.list := by
      rw [State.insertEntry_list, hcalls]
    rw [hlist]
    refine ⟨fun y => ?_, length_placeEntry _ _, fun hf => placeEntry_eq_behindEquals _ _ hf, ?_, hoffer s, hpoints s,
      goodHeard_notice s _ rfl rfl⟩
    · rw [mem_placeEntry, or_comm]
      rfl
    · rw [insertEntry_chirp, goodHeard_chirp]
  · rw [takeNotice_known (s := goodHeard s) hx (by rw [hcalls]; exact hd) (by rw [hcalls]; exact he) hid]
    have hnew : ∀ i x a, renoticed (goodHeard s) i x a = renoticed s i x a := fun i x a => by
      funext e
      simp only [renoticed, hoffer, goodHeard_own]
    have hlist := renoticed_list (s := goodHeard s) (x := f.state) (n := levelOfCode f.level)
      (a := answererOfCode (f.state == 1) f.answerer) (by rw [hcalls]; exact hd) (by rw [hcalls]; exact he) hid
    rw [hcalls, hnew] at hlist ⊢
    obtain ⟨hmem, hother, hkept, hbehind, hlen⟩ := hlist
    exact ⟨hmem, hother, hkept, hbehind, hlen, goodHeard_chirp s, hoffer s, hpoints s, goodHeard_notice s _ rfl rfl⟩
  · rw [takeNotice_refused (s := goodHeard s) hx (by rw [hcalls]; exact hn) (by rw [hcalls]; exact hfull) (by rw [hcalls]; exact hv)]
    obtain ⟨hlink, -⟩ := (goodHeard s).enterTrouble_link .callListFull
    refine ⟨by simp, ?_, ?_, goodHeard_notice s _ (state_eq (by simp)) ?_⟩
    · rw [State.mem_enterTrouble]
      exact .inl rfl
    · rw [hlink]
      exact hoffer s
    · rw [hlink]
  · rw [takeNotice_displaces (s := goodHeard s) hx (by rw [hcalls]; exact hn) (by rw [hcalls]; exact hfull) (by rw [hcalls]; exact hv) hlt]
    obtain ⟨u, hu⟩ : ∃ u, u = (goodHeard s).dropEntries fun y => y.id == v.id := ⟨_, rfl⟩
    obtain ⟨new, hnew⟩ : ∃ new, new = noticed { origin := f.source, point := pointOfCode f.point } f.state (levelOfCode f.level)
      (answererOfCode (f.state == 1) f.answerer) := ⟨_, rfl⟩
    rw [← hu, ← hnew]
    have hleft : u.calls.list = s.calls.list.filter fun y => y.id != v.id := by
      rw [hu, State.dropEntries_calls, hcalls]
      rfl
    have hlist : ((u.enterTrouble .callListFull).insertEntry new).calls.list = placeEntry new (s.calls.list.filter fun y => y.id != v.id) := by
      rw [State.insertEntry_list, ← hleft]
      simp
    obtain ⟨hlink, -⟩ := u.enterTrouble_link .callListFull
    have hlink' : ((u.enterTrouble .callListFull).insertEntry new).link = { u.link with status := (u.enterTrouble .callListFull).link.status } :=
      hlink
    refine ⟨fun y => ?_, fun hf => ?_, ?_, ?_, ?_, ?_, goodHeard_notice s _ (state_eq (by simp [hu])) ?_⟩
    · rw [hlist, mem_placeEntry, List.mem_filter, or_comm, hnew]
      simp [noticed]
    · rw [hlist, hnew]
      exact placeEntry_eq_behindEquals _ _ (hf.filter _)
    · have h : ((u.enterTrouble .callListFull).insertEntry new).troubles = (u.enterTrouble .callListFull).troubles := rfl
      rw [h, State.mem_enterTrouble]
      exact .inl rfl
    · rw [insertEntry_chirp, ← goodHeard_chirp s]
      have h := u.enterTrouble_buzzer .callListFull .callChirp
      rw [hu] at h ⊢
      exact congrArg OneShotRec.presented h
    · rw [hlink', hu, dropEntries_offer, hcalls, hoffer]
      refine if_congr ⟨fun h => h.1, fun h => ⟨h, v, (mem_lastRemote hv).1, rfl⟩⟩ rfl rfl
    · have h : ((u.enterTrouble .callListFull).insertEntry new).calls.points = (u.enterTrouble .callListFull).calls.points := rfl
      rw [h, hu]
      simp
    · rw [hlink', hu]
      rfl

end Sys2Proof.Proofs.Notices
end

section
/-! What the resolution of a door does to the locks, to ajar timing and to the channels (R65 to R67, R74), and the PASSAGE key
(R63, R64, R66). -/

namespace Sys2Proof.Proofs.DoorRules

open Sys2Proof Sys2Proof.Machine Sys2Proof.Proofs.PartFrames Sys2Proof.Proofs.Steps Sys2Proof.Proofs.ResetUnit
open Sys2Proof.Proofs.DoorDrive Sys2Proof.Proofs.PanelKeys Sys2Proof.Proofs.CallEvents

/-! ### Channels -/

theorem driveLock_channel (s : State) (d : Fin 4) (c : Chan) : (s.driveLock d).channel c = s.channel c :=
  channel_congr (by simp) c

theorem driveHold_channel {s : State} {d : Fin 4} {c : Chan} (h : c ≠ .door d) : (s.driveHold d).channel c = s.channel c := by
  have hne : Chan.door d ≠ c := Ne.symm h
  have hset : ∀ (t : State) (r : DoorRec), (t.setDoor d r).channel c = t.channel c := fun _ _ => rfl
  unfold State.driveHold State.holdChanged State.startTravel
  dsimp only
  (repeat' split) <;> simp [hset, State.startTimer_other _ _ _ _ _ _ _ hne, hne]

theorem ajarUpdate_channel {s : State} {d : Fin 4} {c : Chan} (h : c ≠ .door d) : (s.ajarUpdate d).channel c = s.channel c := by
  have hne : Chan.door d ≠ c := Ne.symm h
  have hset : ∀ (t : State) (r : DoorRec), (t.setDoor d r).channel c = t.channel c := fun _ _ => rfl
  unfold State.ajarUpdate State.startAjar
  dsimp only
  (repeat' split) <;> simp [hset, State.startTimer_other _ _ _ _ _ _ _ hne, hne]

theorem driven_channel {s : State} {d : Fin 4} {c : Chan} (h : c ≠ .door d) :
    ((s.driveLock d).driveHold d).channel c = s.channel c := by
  rw [driveHold_channel h, driveLock_channel]

/-- A resolution reaches the channel of its own door alone. -/
theorem resolve_channel {s : State} {d : Fin 4} {c : Chan} (h : c ≠ .door d) : (s.resolve d).channel c = s.channel c := by
  unfold State.resolve
  split
  · rw [ajarUpdate_channel h, driven_channel h]
  · rfl

theorem resolves_channel {c : Chan} (h : ∀ d : Fin 4, c ≠ .door d) (l : List (Fin 4)) (s : State) :
    (deliver (l.map fun d t => t.resolve d) s).channel c = s.channel c := by
  refine deliver_keeps (·.channel c) (fun _ _ => rfl) _ (fun f hf t => ?_) s
  obtain ⟨d, -, rfl⟩ := List.mem_map.mp hf
  exact resolve_channel (h d)

theorem resolveAll_channel {s : State} {c : Chan} (h : ∀ d : Fin 4, c ≠ .door d) : s.resolveAll.channel c = s.channel c :=
  resolves_channel h _ s

/-! ### Ajar timing -/

theorem ajarUpdate_ajarDue (s : State) (d : Fin 4) : (s.ajarUpdate d).ajarDue d = s.ajarDue d := by
  have hc := ajarUpdate_claims s d
  have hd := ajarUpdate_sameDoor s d d
  simp only [State.ajarDue, State.lockPending, hc.resolvedLock (hc.stands hd.desc) hd.desc, hd.position, hd.lock, hd.phase]

/-- R74: ajar timing runs exactly while it is due. -/
theorem ajarUpdate_ajar (s : State) (d : Fin 4) : ((s.ajarUpdate d).door d).ajar = (s.ajarUpdate d).ajarDue d := by
  rw [ajarUpdate_ajarDue]
  unfold State.ajarUpdate
  dsimp only
  cases hd : s.ajarDue d <;> cases ha : (s.door d).ajar <;> simp [ha]
  split <;> simp

/-- R74: it begins with the full ajar limit. -/
theorem ajarUpdate_started {s : State} {d : Fin 4} (h : s.start.phase ≠ .configRead) (ha : (s.door d).ajar = false)
    (hd : s.ajarDue d = true) :
    (s.ajarUpdate d).channel (.door d) = Channel.fresh s.cfg.ajar .s1 .oneShot (s.cfg.ajar / 2) := by
  unfold State.ajarUpdate
  simp only [hd, ha, Bool.not_false, Bool.and_self, if_true]
  unfold State.startAjar
  rw [State.startTimer_channel _ _ _ _ _ _ _ (by exact h), if_pos rfl]
  rfl

/-! ### Locks -/

theorem lockFor_again (resolved now : LockOut) (p : Option Position) :
    lockFor resolved p (lockFor resolved p now) = lockFor resolved p now := by
  cases resolved <;> simp only [lockFor]
  split <;> rfl

/-- R66: the lock that the claims standing in `s` give a door. -/
def ruledLock (s : State) (d : Fin 4) : LockOut :=
  if s.drivable d then lockFor (s.resolvedLock d) (s.door d).position (s.door d).lock else (s.door d).lock

/-- The part of a door that no resolution changes, and its lock the old one or the ruled one. -/
structure Ruling (s : State) (d : Fin 4) (t : State) : Prop where
  claims : SameClaims s t
  desc : (t.door d).desc = (s.door d).desc
  position : (t.door d).position = (s.door d).position
  keep : (t.door d).keep = (s.door d).keep
  lock : (t.door d).lock = (s.door d).lock ∨ (t.door d).lock = ruledLock s d

theorem Ruling.refl (s : State) (d : Fin 4) : Ruling s d s := ⟨.refl s, rfl, rfl, rfl, .inl rfl⟩

/-- However far the doors have been resolved, the ruled lock is the same. -/
theorem Ruling.ruled {s t : State} {d : Fin 4} (h : Ruling s d t) : ruledLock t d = ruledLock s d := by
  have hd := h.claims.drivable h.desc h.position h.keep
  have hr := h.claims.resolvedLock (h.claims.stands h.desc) h.desc
  rcases h.lock with hl | hl
  · simp only [ruledLock, hd, hr, h.position, hl]
  · unfold ruledLock
    rw [hd, hr, h.position, hl]
    unfold ruledLock
    split
    · exact lockFor_again _ _ _
    · rfl

/-- R65: the lock of a resolved door is the ruled one; a door not owned is not driven. -/
theorem resolve_lock (s : State) (d : Fin 4) : ((s.resolve d).door d).lock = ruledLock s d := by
  unfold State.resolve
  split
  · simp only [ajarUpdate_site, driveHold_site, driveLock_lock, ruledLock]
  next h => simp [ruledLock, State.drivable, State.sensed, h]

theorem Ruling.resolve {s t : State} {d : Fin 4} (h : Ruling s d t) (e : Fin 4) : Ruling s d (t.resolve e) := by
  obtain ⟨hdesc, hpos, -, hkeep⟩ := State.resolve_fixed t e d
  refine ⟨h.claims.trans (resolve_claims t e), hdesc.trans h.desc, hpos.trans h.position, hkeep.trans h.keep, ?_⟩
  by_cases he : e = d
  · subst he
    exact .inr ((resolve_lock t e).trans h.ruled)
  · rw [State.resolve_other t e d he]
    exact h.lock

theorem Ruling.afterDraw {s t : State} {d : Fin 4} (h : Ruling s d t) (n : Nat) : Ruling s d (t.afterDraw n) :=
  ⟨h.claims.trans (afterDraw_claims t n), h.desc, h.position, h.keep, h.lock⟩

/-- R60, R66: after the resolution of every door each lock is the ruled one. -/
theorem resolveAll_lock (s : State) (d : Fin 4) : (s.resolveAll.door d).lock = ruledLock s d := by
  unfold State.resolveAll
  cases ho : (s.door d).desc.isOwned with
  | true =>
    have hmem : d ∈ s.ownedDoors := by simp [State.ownedDoors, ho]
    refine (deliver_establishes (Q := Ruling s d) (R := fun t => Ruling s d t ∧ (t.door d).lock = ruledLock s d) _ (fun t => t.resolve d)
      (List.mem_map.mpr ⟨d, hmem, rfl⟩) (fun _ _ h => h.afterDraw _)
      (fun _ _ h => ⟨h.1.afterDraw _, h.2⟩) ?_ ?_ (fun t h => ?_) s (.refl s d)).2
    · intro g hg t h
      obtain ⟨e, -, rfl⟩ := List.mem_map.mp hg
      exact h.resolve e
    · intro g hg t h
      obtain ⟨e, -, rfl⟩ := List.mem_map.mp hg
      refine ⟨h.1.resolve e, ?_⟩
      by_cases he : e = d
      · subst he
        exact (resolve_lock t e).trans h.1.ruled
      · rw [State.resolve_other t e d he]
        exact h.2
    · exact ⟨h.resolve d, (resolve_lock t d).trans h.ruled⟩
  | false =>
    have hr : ruledLock s d = (s.door d).lock := by simp [ruledLock, State.drivable, State.sensed, ho]
    rw [hr]
    refine deliver_keeps (fun t => (t.door d).lock) (fun _ _ => rfl) _ (fun f hf t => ?_) s
    obtain ⟨e, he, rfl⟩ := List.mem_map.mp hf
    have hne : e ≠ d := fun hed => by simp [State.ownedDoors, hed, ho] at he
    exact congrArg DoorRec.lock (State.resolve_other t e d hne)

/-! ### The PASSAGE key and T21 (R63, R64) -/

/-- What the resolution of every door does after the PASSAGE slot alone has changed. -/
theorem resolved_after_passage {s u : State} (hr : u.doors.records = s.doors.records) (hs : u.start = s.start) :
    (∀ d : Fin 4, (u.resolveAll.door d).lock = if s.drivable d
      then (match u.resolveAll.resolvedLock d with | .free => .free | .locked => if (s.door d).position = some .opened
      then (s.door d).lock else .locked) else (s.door d).lock)
    ∧ (∀ d : Fin 4, (u.resolveAll.door d).desc = (s.door d).desc ∧ (u.resolveAll.door d).position = (s.door d).position
      ∧ (u.resolveAll.door d).filter = (s.door d).filter ∧ (u.resolveAll.door d).keep = (s.door d).keep) := by
  have hdoor : ∀ d, u.door d = s.door d := fun d => by unfold State.door; rw [hr]
  have hsite := fun d => resolveAll_site u d
  simp only [hdoor] at hsite
  refine ⟨fun d => ?_, hsite⟩
  have hclaims := resolveAll_claims u
  have hdr : u.drivable d = s.drivable d := by simp only [State.drivable, State.sensed, State.frozen, hdoor, hs]
  have hdesc : (u.resolveAll.door d).desc = (u.door d).desc := by rw [hdoor]; exact (hsite d).1
  rw [resolveAll_lock, ruledLock, hdr, hdoor, hclaims.resolvedLock (hclaims.stands hdesc) hdesc]
  cases u.resolvedLock d <;> rfl

theorem takePassage_standing {s : State} (h : s.doors.passage = true) :
    s.takePassage = s.startTimer .t21 s.cfg.passage .ms100 .oneShot 0 := by
  obtain ⟨clock, pins, timers, modes, fire, watch, doors, calls, table, egress, light, link, start, troubles, buzzer, keys, raised, order, pending⟩ := s
  obtain ⟨records, passage⟩ := doors
  obtain rfl : passage = true := h
  rfl

/-- The PASSAGE slot stands and T21 runs. -/
def passageBegun (s : State) : State :=
  State.startTimer { s with doors := { s.doors with passage := true } } .t21 s.cfg.passage .ms100 .oneShot 0

theorem takePassage_new {s : State} (h : s.doors.passage = false) : s.takePassage = (passageBegun s).resolveAll := by
  simp only [State.takePassage, h, Bool.false_eq_true, if_false, passageBegun]

/-- The PASSAGE slot is withdrawn. -/
def passageEnded (s : State) : State := { s with doors := { s.doors with passage := false } }

@[simp] theorem passageEnded_keeps (s : State) : (passageEnded s).clock = s.clock ∧ (passageEnded s).pins = s.pins
    ∧ (passageEnded s).timers = s.timers ∧ (passageEnded s).modes = s.modes ∧ (passageEnded s).fire = s.fire
    ∧ (passageEnded s).watch = s.watch ∧ (passageEnded s).doors = { s.doors with passage := false }
    ∧ (passageEnded s).table = s.table ∧ (passageEnded s).start = s.start ∧ (passageEnded s).troubles = s.troubles
    ∧ (passageEnded s).buzzer = s.buzzer ∧ (passageEnded s).keys = s.keys ∧ (passageEnded s).raised = s.raised
    ∧ (passageEnded s).pending = s.pending :=
  ⟨rfl, rfl, rfl, rfl, rfl, rfl, rfl, rfl, rfl, rfl, rfl, rfl, rfl, rfl⟩

theorem passageBegun_channel (s : State) (h : s.start.phase ≠ .configRead) (c : Chan) :
    (passageBegun s).channel c = if .t21 = c then Channel.fresh s.cfg.passage .ms100 .oneShot 0 else s.channel c :=
  State.startTimer_channel _ _ _ _ _ _ _ h

/-- Settles O29: the key and T21 change the PASSAGE slot, and the doors follow by the resolution. -/
theorem passageKeyOpensTheDoorsForItsTime : Obligations.PassageKeyOpensTheDoorsForItsTime := by
  refine ⟨fun s hh hr hp => ?_, fun s hh hr hp => ?_, fun s hh hr => ?_, fun s hh => ?_, fun s hl hm => ?_, fun s hm => ?_⟩
  · obtain ⟨hlock, hfixed⟩ := resolved_after_passage (s := s) (u := passageBegun (keyHeld s .passage))
      (by simp [passageBegun]) (by simp [passageBegun])
    have hact : s.keyDown .passage s.hearing State.takePassage = (passageBegun (keyHeld s .passage)).resolveAll := by
      rw [keyDown_pressed (k := .passage) _ hh hr, takePassage_new (by simpa using hp)]
    have hphase : (keyHeld s .passage).start.phase ≠ .configRead := hearing_not_configRead hh
    have hchan := passageBegun_channel (keyHeld s .passage) hphase
    refine ⟨_, congrArg Host.Outcome.next hact, ?_, ?_, hlock, hfixed, fun c _ hc hcd => ?_, ?_⟩
    · simp [passageBegun]
    · rw [resolveAll_channel (fun _ hc => by cases hc), hchan, if_pos rfl]
      rfl
    · rw [resolveAll_channel hcd, hchan, if_neg (Ne.symm hc)]
      rfl
    · exact state_eq (by simp [passageBegun, Pins.setKey, KeyFilters.set])
  · have hact : s.keyDown .passage s.hearing State.takePassage = (keyHeld s .passage).startTimer .t21 s.cfg.passage .ms100 .oneShot 0 := by
      rw [keyDown_pressed (k := .passage) _ hh hr, takePassage_standing (by simpa using hp)]
      rfl
    have hphase : (keyHeld s .passage).start.phase ≠ .configRead := hearing_not_configRead hh
    have hchan := fun c => State.startTimer_channel (keyHeld s .passage) .t21 c s.cfg.passage .ms100 .oneShot 0 hphase
    refine ⟨_, congrArg Host.Outcome.next hact, ?_, fun c _ hc => ?_, ?_⟩
    · rw [hchan, if_pos rfl]
    · rw [hchan, if_neg (Ne.symm hc)]
      rfl
    · exact state_eq (by simp [Pins.setKey, KeyFilters.set])
  · exact ⟨_, congrArg Host.Outcome.next (keyDown_held (k := .passage) _ hh hr), rfl⟩
  · exact ⟨_, congrArg Host.Outcome.next (keyDown_outside (k := .passage) _ hh), rfl⟩
  · obtain ⟨ch, -, hact⟩ := State.onExpiry_acts s .t21 true
      (fun t => (passageEnded t).resolveAll) hl rfl hm
    obtain ⟨hlock, hfixed⟩ := resolved_after_passage (s := s) (u := passageEnded (s.setChannel .t21 ch))
      (by simp) (by simp)
    refine ⟨_, congrArg Host.Outcome.next hact, by simp, hlock, hfixed, fun c _ hc hcd => ?_, state_eq (by simp)⟩
    rw [resolveAll_channel hcd]
    exact (State.setChannel_channel s .t21 c ch).trans (if_neg (Ne.symm hc))
  · exact ⟨_, congrArg Host.Outcome.next (State.onExpiry_idle s .t21 true _ (.inr hm)), rfl⟩

end Sys2Proof.Proofs.DoorRules
end

section
/-! What marks STATUS keeps it marked (R163): no shared operation withdraws the mark. -/

namespace Sys2Proof.Proofs.StatusMark

open Sys2Proof Sys2Proof.Machine Sys2Proof.Proofs.PartFrames Sys2Proof.Proofs.Steps

/-- An operation that does not withdraw the pending mark of STATUS. -/
def Tells (f : State → State) : Prop := ∀ s : State, s.link.status = true → (f s).link.status = true

theorem deliver_tells {fs : List (State → State)} (h : ∀ f ∈ fs, Tells f) : Tells (deliver fs) := fun s hs =>
  deliver_induct (fun t => t.link.status = true) (fun _ _ h => h) fs (fun f hf t ht => h f hf t ht) s hs

theorem relevel_tells (p : Fin 4) : Tells fun s => s.relevel p := fun s hs => by
  unfold State.relevel
  dsimp only
  (repeat' split) <;> simpa using hs

theorem relevelAll_tells : Tells State.relevelAll := fun s hs => by
  refine deliver_tells (fun f hf => ?_) s hs
  obtain ⟨p, -, rfl⟩ := List.mem_map.mp hf
  exact relevel_tells p

theorem takeEgress_tells (new : EgressUnit) (first : Bool) : Tells fun s => s.takeEgress new first := fun s hs => by
  unfold State.takeEgress
  dsimp only
  simp only [State.refreshLights_keeps]
  (repeat' split)
  · exact relevelAll_tells _ rfl
  · exact relevelAll_tells _ hs
  · rfl
  · exact hs

theorem recomputeEgress_tells : Tells State.recomputeEgress := fun s hs => by
  unfold State.recomputeEgress
  (repeat' split)
  · exact hs
  · exact hs
  · exact takeEgress_tells _ _ s hs

theorem driveLock_tells (d : Fin 4) : Tells fun s => s.driveLock d := fun s hs => by
  unfold State.driveLock
  dsimp only
  split
  · exact hs
  · exact recomputeEgress_tells _ rfl

theorem driven_tells (d : Fin 4) : Tells fun s => (s.driveLock d).driveHold d := fun s hs => by
  simpa using driveLock_tells d s hs

theorem resolve_tells (d : Fin 4) : Tells fun s => s.resolve d := fun s hs => by
  unfold State.resolve
  dsimp only
  split
  · simpa using driveLock_tells d s hs
  · exact hs

theorem resolves_tells (l : List (Fin 4)) : Tells (deliver (l.map fun d t => t.resolve d)) :=
  deliver_tells fun f hf => by
    obtain ⟨d, -, rfl⟩ := List.mem_map.mp hf
    exact resolve_tells d

theorem resolveAll_tells : Tells State.resolveAll := fun s hs => resolves_tells _ s hs

theorem resolveToward_tells (n : Station) : Tells fun s => s.resolveToward n := fun s hs => resolves_tells _ s hs

theorem release_tells : Tells State.release := fun s hs => by
  unfold State.release
  split
  · exact hs
  · simpa using resolves_tells _ { s with start := { s.start with freeze := false } } hs

theorem enterTrouble_tells (x : Trouble) : Tells fun s => s.enterTrouble x := fun s => (s.enterTrouble_link x).2

theorem removeTroubles_tells (g : Trouble → Bool) : Tells fun s => s.removeTroubles g := fun s => (s.removeTroubles_link g).2

/-- A change of the evacuation flag marks STATUS. -/
theorem recomputeEvac_marks {s : State} (h : s.evacDue ≠ s.fire.evac) : s.recomputeEvac.link.status = true := by
  rw [recomputeEvac_changed h]
  unfold statusTold
  split <;> simp

theorem recomputeEvac_tells : Tells State.recomputeEvac := fun s hs => by
  by_cases h : s.evacDue = s.fire.evac
  · rwa [recomputeEvac_same h]
  · exact recomputeEvac_marks h

/-- R20: a change of the fire state marks STATUS. -/
theorem setFireState_marks {s : State} {f : FireState} (h : s.fire.state ≠ f) : (s.setFireState f).link.status = true := by
  unfold State.setFireState
  rw [if_neg h]
  dsimp only
  split
  · exact recomputeEvac_tells _ rfl
  · rfl

theorem setFireState_tells (f : FireState) : Tells fun s => s.setFireState f := fun s hs => by
  by_cases h : s.fire.state = f
  · simpa [State.setFireState, h] using hs
  · exact setFireState_marks h

theorem enterFire_marks {s : State} (h : s.fire.state ≠ .fire) : s.enterFire.link.status = true := by
  unfold State.enterFire
  rw [if_neg h]
  exact setFireState_marks (by simpa using h)

theorem enterFire_tells : Tells State.enterFire := fun s hs => by
  by_cases h : s.fire.state = .fire
  · unfold State.enterFire
    rwa [if_pos h]
  · exact enterFire_marks h

end Sys2Proof.Proofs.StatusMark
end

section
/-! The events of a door (R69 to R75, R80, R82): its first reading, its timers, and the changes of its position. -/

namespace Sys2Proof.Proofs.DoorEvents

open Sys2Proof Sys2Proof.Machine Sys2Proof.Proofs.PartFrames Sys2Proof.Proofs.Steps Sys2Proof.Proofs.ResetUnit
open Sys2Proof.Proofs.DoorDrive Sys2Proof.Proofs.DoorRules Sys2Proof.Proofs.StatusMark Sys2Proof.Proofs.CallEvents

/-! ### The hold of a driven door -/

/-- R67: outside CLOSING and BLOCKED a hold is given to a door with a magnet whose hold is not deferred. -/
theorem holdFor_calm (resolved : HoldOut) (magnet deferred : Bool) {phase : Option DoorPhase}
    (h : phase ≠ some .closing ∧ phase ≠ some .blocked) : holdFor resolved magnet deferred phase
      = (if resolved = .holding ∧ magnet = true ∧ deferred = false then .holding else .dropped, deferred && resolved == .holding) := by
  obtain ⟨h1, h2⟩ := h
  cases resolved with
  | dropped => cases deferred <;> rfl
  | holding => cases magnet <;> cases deferred <;> simp [holdFor, h1, h2]

/-- R67: a door that is owned and has been read has its deferred flag by the resolution, frozen or not, and its hold unless frozen. -/
theorem driveHold_outputs {s : State} {d : Fin 4} (hs : s.sensed d = true) :
    ((s.driveHold d).door d).hold = (if s.frozen d then (s.door d).hold
        else (holdFor (s.resolvedHold d) (s.door d).desc.magnet (s.door d).deferred (s.door d).phase).1)
    ∧ ((s.driveHold d).door d).deferred = (holdFor (s.resolvedHold d) (s.door d).desc.magnet (s.door d).deferred (s.door d).phase).2 := by
  cases hz : s.frozen d with
  | true => simp [State.driveHold_frozen s d hs hz]
  | false =>
    rcases driveHold_door s d with ⟨hn, -⟩ | ⟨-, hf, -⟩ | ⟨-, -, hhold, hdef, -⟩
    · rw [hs] at hn; cases hn
    · rw [hz] at hf; cases hf
    · exact ⟨by rw [hhold]; simp, hdef⟩

theorem holdChanged_still {s : State} {d : Fin 4} (h : (s.door d).position ≠ some .opened
      ∨ ((s.door d).phase ≠ some .held ∧ (s.door d).phase ≠ some .opened)) : s.holdChanged d = s := by
  unfold State.holdChanged
  dsimp only
  rw [if_neg (by tauto), if_neg (by tauto)]

/-- R72: the phase follows the hold in HELD and OPEN alone. -/
theorem driveHold_still {s : State} {d : Fin 4} (h : (s.door d).position ≠ some .opened
      ∨ ((s.door d).phase ≠ some .held ∧ (s.door d).phase ≠ some .opened)) :
    ((s.driveHold d).door d).phase = (s.door d).phase ∧ ((s.driveHold d).door d).ajar = (s.door d).ajar
      ∧ (s.driveHold d).timers = s.timers := by
  unfold State.driveHold
  dsimp only
  split
  · exact ⟨rfl, rfl, rfl⟩
  · split
    · simp
    · rw [holdChanged_still (by simpa using h)]
      simp

theorem holdChanged_opening {s : State} {d : Fin 4} (hp : (s.door d).position = some .opened) (hph : (s.door d).phase = some .opened) :
    ((s.holdChanged d).door d).phase = (if ((s.holdChanged d).door d).hold = .holding then some .held else some .opened) := by
  unfold State.holdChanged
  simp only [hp, hph, Option.some.injEq, reduceCtorEq, false_and, and_false, if_false, true_and]
  split
  next h => simp [h]
  next => simp [hph]

/-- R72: a door without hold that stands open is HELD as soon as it is held. -/
theorem driveHold_opening {s : State} {d : Fin 4} (hp : (s.door d).position = some .opened) (hph : (s.door d).phase = some .opened)
    (hh : (s.door d).hold = .dropped) : ((s.driveHold d).door d).phase
      = if ((s.driveHold d).door d).hold = .holding then some .held else some .opened := by
  unfold State.driveHold
  dsimp only
  split
  · simp [hh, hph]
  · split
    · simp [hh, hph]
    · exact holdChanged_opening (by simpa using hp) (by simpa using hph)

theorem driveHold_ajar {s : State} {d : Fin 4} (h : (s.door d).ajar = false) : ((s.driveHold d).door d).ajar = false := by
  unfold State.driveHold State.holdChanged
  dsimp only
  (repeat' split) <;> simp [h]

/-! ### A door driven as a whole -/

/-- The parts of a written door that the resolution reads are those of the door before. -/
structure Written (s u : State) (d : Fin 4) : Prop where
  claims : SameClaims s u
  desc : (u.door d).desc = (s.door d).desc
  keep : (u.door d).keep = (s.door d).keep
  other : ∀ e, e ≠ d → u.door e = s.door e

namespace Written

variable {s u : State} {d : Fin 4} (h : Written s u d)

include h

theorem frozen : u.frozen d = s.frozen d := h.claims.frozen h.keep
theorem resolvedLock : u.resolvedLock d = s.resolvedLock d := h.claims.resolvedLock (h.claims.stands h.desc) h.desc
theorem resolvedHold : u.resolvedHold d = s.resolvedHold d := h.claims.resolvedHold (h.claims.stands h.desc) h.desc
theorem cfg : u.cfg = s.cfg := h.claims.toSameRules.cfg

/-- R66, R67: the outputs of a door written outside CLOSING and BLOCKED, as the claims standing before give them. -/
theorem driven (ho : (s.door d).desc.isOwned = true) {p : Position} (hp : (u.door d).position = some p)
    (hc : (u.door d).phase ≠ some .closing ∧ (u.door d).phase ≠ some .blocked) :
    (((u.driveLock d).driveHold d).door d).lock
        = (if s.frozen d then (u.door d).lock else lockFor (s.resolvedLock d) (some p) (u.door d).lock)
    ∧ (((u.driveLock d).driveHold d).door d).hold = (if s.frozen d then (u.door d).hold
        else if s.resolvedHold d = .holding ∧ (s.door d).desc.magnet = true ∧ (u.door d).deferred = false then .holding else .dropped)
    ∧ (((u.driveLock d).driveHold d).door d).deferred = ((u.door d).deferred && s.resolvedHold d == .holding) := by
  have hsensed : u.sensed d = true := by simp [State.sensed, h.desc, ho, hp]
  have hcl := driveLock_claims u d
  obtain ⟨hdesc, hpos, -, hkeep, hphase, hhold, hdef, -⟩ := driveLock_site u d d
  have hs' : (u.driveLock d).sensed d = true := by simpa only [State.sensed, hdesc, hpos] using hsensed
  obtain ⟨hh, hd⟩ := driveHold_outputs hs'
  rw [hcl.frozen hkeep, hcl.resolvedHold (hcl.stands hdesc) hdesc, hdesc, hdef, hphase, hhold, holdFor_calm _ _ _ hc, h.frozen,
    h.resolvedHold, h.desc] at hh
  rw [hcl.resolvedHold (hcl.stands hdesc) hdesc, hdesc, hdef, hphase, holdFor_calm _ _ _ hc, h.resolvedHold] at hd
  refine ⟨?_, hh, hd⟩
  obtain ⟨-, -, -, -, hlock⟩ := driveHold_site (u.driveLock d) d d
  rw [hlock, driveLock_lock, State.drivable, hsensed, h.frozen, h.resolvedLock, hp]
  cases s.frozen d <;> rfl

theorem driven_other {e : Fin 4} (he : e ≠ d) : ((u.driveLock d).driveHold d).door e = s.door e := by
  rw [DoorDrive.driven_other u (Ne.symm he), h.other e he]

end Written

/-! ### The first reading (R80) -/

theorem doorRead_marks (s : State) (d : Fin 4) (p : Position) : (doorRead s d p).link.status = true := by
  unfold doorRead
  dsimp only
  split
  · exact enterTrouble_tells _ _ rfl
  · rfl

theorem doorRead_written (s : State) (d : Fin 4) (p : Position) : Written s (doorRead s d p) d where
  claims := doorRead_claims s d p
  desc := by simp
  keep := by simp
  other e he := by rw [doorRead_door, if_neg (Ne.symm he)]

@[simp] theorem doorRead_rest (s : State) (d : Fin 4) (p : Position) : (doorRead s d p).clock = s.clock
    ∧ (doorRead s d p).pins = s.pins ∧ (doorRead s d p).keys = s.keys ∧ (doorRead s d p).raised = s.raised
    ∧ (doorRead s d p).order = s.order ∧ (doorRead s d p).pending = s.pending := by
  unfold doorRead; dsimp only; split <;> simp

theorem doorRead_troubles (s : State) (d : Fin 4) (p : Position) :
    (p = .unknown → Trouble.doorPosition d ∈ (doorRead s d p).troubles.record)
    ∧ (p ≠ .unknown → (doorRead s d p).troubles = s.troubles) := by
  unfold doorRead
  dsimp only
  refine ⟨fun h => ?_, fun h => ?_⟩
  · rw [if_pos h, State.mem_enterTrouble]
    exact .inl rfl
  · rw [if_neg h]
    rfl

/-- R80: everything that a first reading does to a door that was FREE and DROPPED. -/
theorem firstReading_spec {s : State} {d : Fin 4} (p : Position) (ho : (s.door d).desc.isOwned = true)
    (hfree : (s.door d).lock = .free ∧ (s.door d).hold = .dropped) :
    let t := s.firstReading d p
    ((t.door d).position = some p
      ∧ (t.door d).lock = (if s.frozen d = false ∧ s.resolvedLock d = .locked ∧ p ≠ .opened then .locked else .free)
      ∧ (t.door d).hold = (if s.frozen d = false ∧ s.resolvedHold d = .holding ∧ (s.door d).desc.magnet = true
          ∧ (s.door d).deferred = false then .holding else .dropped)
      ∧ (t.door d).deferred = ((s.door d).deferred && s.resolvedHold d == .holding))
    ∧ ((p = .closed → (t.door d).phase = some .shut) ∧ (p = .unknown → (t.door d).phase = some .unsensed)
      ∧ (p = .opened → (t.door d).phase = if (t.door d).hold = .holding then some .held else some .opened))
    ∧ (t.link.status = true ∧ t.troubles = (doorRead s d p).troubles)
    ∧ (∀ e, e ≠ d → t.door e = s.door e)
    ∧ (∀ c, c ≠ .door d → t.channel c = s.channel c) := by
  obtain ⟨hlock, hhold⟩ := hfree
  have hw := doorRead_written s d p
  have hdoor : (doorRead s d p).door d = { s.door d with
      position := some p, filter := Filter.clear, phase := some (phaseAtReading p) } := by rw [doorRead_door, if_pos rfl]
  obtain ⟨u, hu⟩ : ∃ u, u = doorRead s d p := ⟨_, rfl⟩
  rw [← hu] at hw hdoor
  have hcalm : (u.door d).phase ≠ some .closing ∧ (u.door d).phase ≠ some .blocked := by
    rw [hdoor]
    cases p <;> simp [phaseAtReading]
  obtain ⟨hl, hh, hdef⟩ := hw.driven ho (p := p) (by rw [hdoor]) hcalm
  have heq : s.firstReading d p = ((u.driveLock d).driveHold d).ajarUpdate d := by
    rw [firstReading_eq, ← hu, State.resolve, if_pos (by rw [hw.desc]; exact ho)]
  have hsame := ajarUpdate_sameDoor ((u.driveLock d).driveHold d) d d
  have hphase : (p ≠ .opened → (((u.driveLock d).driveHold d).door d).phase = some (phaseAtReading p)) := fun hp => by
    rw [(driveHold_still (.inl (by simp [hdoor, hp]))).1]
    simp [hdoor]
  dsimp only
  rw [heq]
  refine ⟨⟨?_, ?_, ?_, ?_⟩, ⟨fun hp => ?_, fun hp => ?_, fun hp => ?_⟩, ⟨?_, by simp [hu]⟩, fun e he => ?_, fun c hc => ?_⟩
  · rw [hsame.position]
    simp [hdoor]
  · rw [hsame.lock, hl, hdoor]
    cases s.frozen d <;> cases s.resolvedLock d <;> cases p <;> simp [hlock, lockFor]
  · rw [hsame.hold, hh, hdoor, hhold]
    cases s.frozen d <;> simp
  · rw [hsame.deferred, hdef, hdoor]
  · rw [hsame.phase, hphase (by simp [hp]), hp]
    rfl
  · rw [hsame.phase, hphase (by simp [hp]), hp]
    rfl
  · subst hp
    rw [hsame.phase, hsame.hold]
    exact driveHold_opening (by simp [hdoor]) (by simp [hdoor, phaseAtReading]) (by simp [hdoor, hhold])
  · simpa using driven_tells d u (by rw [hu]; exact doorRead_marks s d p)
  · rw [State.ajarUpdate_other _ _ _ (Ne.symm he), hw.driven_other he]
  · rw [ajarUpdate_channel hc, driven_channel hc]
    exact channel_congr (by simp [hu]) c

/-- R74: after a first reading ajar timing runs exactly while due, from its full limit. -/
theorem firstReading_ajar {s : State} {d : Fin 4} (p : Position) (ho : (s.door d).desc.isOwned = true) :
    ((s.firstReading d p).door d).ajar = (s.firstReading d p).ajarDue d
    ∧ (s.start.phase ≠ .configRead → (s.door d).ajar = false → (s.firstReading d p).ajarDue d = true →
      (s.firstReading d p).channel (.door d) = Channel.fresh s.cfg.ajar .s1 .oneShot (s.cfg.ajar / 2)) := by
  have hown : ((doorRead s d p).door d).desc.isOwned = true := by simp [ho]
  rw [firstReading_eq, State.resolve, if_pos hown]
  refine ⟨ajarUpdate_ajar _ d, fun hphase ha hdue => ?_⟩
  have hcfg : (((doorRead s d p).driveLock d).driveHold d).cfg = s.cfg := by simp [State.cfg]
  rw [ajarUpdate_ajarDue] at hdue
  rw [← hcfg]
  exact ajarUpdate_started (by simpa using hphase) (driveHold_ajar (by simp [ha])) hdue

/-- Settles O27, by the outputs that the resolution drives at the first reading. -/
theorem firstReadingDrivesTheDoor : Obligations.FirstReadingDrivesTheDoor := by
  refine ⟨fun s d r hh ho hn hs => ?_, fun s d r h => ?_⟩
  · have hfree := (((doorSound_iff s d).mp hs).1).unread (.inr hn)
    obtain ⟨u, hu⟩ : ∃ u : State, u = { s with pins := { s.pins with doors := s.pins.doors.set d r } } := ⟨_, rfl⟩
    have hact : exec (.firstReading d r) s = .next (u.firstReading d (positionOf r)) := by
      rw [hu]
      exact congrArg Host.Outcome.next (if_pos (by simp [hh, ho, hn]))
    have hdoor : ∀ e, u.door e = s.door e := fun e => by rw [hu]; rfl
    obtain ⟨⟨hpos, hlock, hhold, hdef⟩, ⟨hshut, hunsensed, hopen⟩, ⟨hstatus, htroubles⟩, hother, hchannel⟩ :=
      firstReading_spec (s := u) (positionOf r) (by rw [hdoor]; exact ho) (by rw [hdoor]; exact hfree)
    obtain ⟨hajar, hstarted⟩ := firstReading_ajar (s := u) (d := d) (positionOf r) (by rw [hdoor]; exact ho)
    obtain ⟨hin, hsame⟩ := doorRead_troubles u d (positionOf r)
    subst hu
    refine ⟨_, hact, hpos, hlock, hhold, hshut, fun hp => ⟨hunsensed hp, by rw [htroubles]; exact hin hp⟩, hopen, hajar,
      hstarted (phase_of_hearing hh), hstatus, hdef, fun hp => htroubles.trans (hsame hp), hother, fun c _ => hchannel c, ?_⟩
    rw [firstReading_eq]
    exact state_eq (by simp)
  · have hn : ¬ (s.hearing && (s.door d).desc.isOwned && (s.door d).position.isNone) = true := by
      rcases h with h | h | h
      · simp [h]
      · simp [h]
      · obtain ⟨p, hp⟩ := Option.isSome_iff_exists.mp h
        simp [hp]
    exact ⟨_, congrArg Host.Outcome.next (if_neg hn), rfl⟩

end Sys2Proof.Proofs.DoorEvents
end

section
/-! What a response of the table does (R14, R50, R51), and the timers of a door (R72 to R74, R152). -/

namespace Sys2Proof.Proofs.DoorTimers

open Sys2Proof Sys2Proof.Machine Sys2Proof.Proofs.PartFrames Sys2Proof.Proofs.Steps Sys2Proof.Proofs.ResetUnit
open Sys2Proof.Proofs.DoorDrive Sys2Proof.Proofs.DoorRules Sys2Proof.Proofs.DoorEvents Sys2Proof.Proofs.StatusMark
open Sys2Proof.Proofs.CallEvents Sys2Proof.Proofs.CallTimers

/-! ### Responses -/

theorem respond_watch (s : State) (r : Response) : (s.respond r).watch = { s.watch with
    localLatch := s.watch.localLatch || r == .local, intrusion := s.watch.intrusion || r == .alert } := by
  cases r with
  | alert => simp [State.respond, respondAlert_watch]
  | nothing | trouble | call =>
    show s.watch = { s.watch with localLatch := s.watch.localLatch || false, intrusion := s.watch.intrusion || false }
    simp
  | _ => simp [State.respond, State.respondLocal]

theorem respond_buzzer (s : State) (r : Response) :
    (s.respond r).buzzer = if r = .local then { s.buzzer with callChirp := s.buzzer.callChirp.presented } else s.buzzer := by
  cases r with
  | alert => simp [State.respond]
  | _ => rfl

/-- Without a latch newly set a response reaches the watch unit and the buzzer alone. -/
theorem respond_quiet {s : State} {r : Response} (h : (s.respond r).watch.intrusion = s.watch.intrusion) :
    s.respond r = { s with watch := (s.respond r).watch, buzzer := (s.respond r).buzzer } := by
  cases r with
  | alert =>
    have hset : s.watch.intrusion = true := by
      rw [respond_watch] at h
      simpa using h.symm
    rw [State.respond, respondAlert_set hset]
  | _ => rfl

theorem respond_marks {s : State} {r : Response} (h : (s.respond r).watch.intrusion = true) (hs : s.watch.intrusion = false) :
    Scene.intrusion ∈ (s.respond r).light.above ∧ (s.respond r).link.status = true := by
  cases r with
  | alert => exact (respondAlert_marks hs).symm
  | _ =>
    rw [respond_watch] at h
    simp [hs] at h

@[simp] theorem respond_rest (s : State) (r : Response) : (s.respond r).clock = s.clock ∧ (s.respond r).pins = s.pins
    ∧ (s.respond r).modes = s.modes ∧ (s.respond r).fire = s.fire ∧ (s.respond r).table = s.table
    ∧ (s.respond r).start = s.start ∧ (s.respond r).troubles = s.troubles ∧ (s.respond r).keys = s.keys
    ∧ (s.respond r).raised = s.raised ∧ (s.respond r).pending = s.pending := by
  cases r <;> simp [State.respond, State.respondLocal]

/-! ### The travel limit (R73) -/

theorem live_of_hearing {s : State} (h : s.hearing = true) : s.live = true := by
  unfold State.hearing at h
  rw [Bool.and_eq_true] at h
  exact h.1

theorem doorStuck_written (s : State) (d : Fin 4) : Written s (doorStuck s d) d where
  claims := doorStuck_claims s d
  desc := by simp
  keep := by simp
  other e he := by rw [doorStuck_door, if_neg (Ne.symm he)]

@[simp] theorem doorStuck_rest (s : State) (d : Fin 4) : (doorStuck s d).clock = s.clock
    ∧ (doorStuck s d).pins = s.pins ∧ (doorStuck s d).keys = s.keys ∧ (doorStuck s d).raised = s.raised
    ∧ (doorStuck s d).order = s.order ∧ (doorStuck s d).pending = s.pending := by
  simp [doorStuck]

theorem holdFor_blocked (resolved : HoldOut) (magnet deferred : Bool) : (holdFor resolved magnet deferred (some .blocked)).1 = .dropped
    ∧ (resolved = .holding → magnet = true → (holdFor resolved magnet deferred (some .blocked)).2 = true)
    ∧ (resolved = .dropped → (holdFor resolved magnet deferred (some .blocked)).2 = false) := by
  cases resolved <;> cases magnet <;> simp [holdFor]

/-- R73: everything that the travel limit does to a door in CLOSING. -/
theorem travelLapse_spec {s : State} {d : Fin 4} (ho : (s.door d).desc.isOwned = true) (hp : (s.door d).position = some .opened)
    (hc : (s.door d).phase = some .closing) :
    let t := s.travelLapse d
    ((t.door d).phase = some .blocked ∧ (t.door d).position = some .opened ∧ (t.door d).lock = (s.door d).lock)
    ∧ Trouble.doorBlocked d ∈ t.troubles.record
    ∧ ((s.frozen d = false → (t.door d).hold = .dropped)
      ∧ (s.resolvedHold d = .holding → (s.door d).desc.magnet = true → (t.door d).deferred = true)
      ∧ (s.resolvedHold d = .dropped → (t.door d).deferred = false))
    ∧ ((t.door d).ajar = t.ajarDue d
      ∧ (s.start.phase ≠ .configRead → (s.door d).ajar = false → t.ajarDue d = true →
        t.channel (.door d) = Channel.fresh s.cfg.ajar .s1 .oneShot (s.cfg.ajar / 2)))
    ∧ (∀ e, e ≠ d → t.door e = s.door e)
    ∧ (∀ c, c ≠ .door d → t.channel c = s.channel c) := by
  have hw := doorStuck_written s d
  have hdoor : (doorStuck s d).door d = { s.door d with phase := some .blocked } := by rw [doorStuck_door, if_pos rfl]
  have hrec : Trouble.doorBlocked d ∈ (doorStuck s d).troubles.record := (State.mem_enterTrouble _ _ _).mpr (.inl rfl)
  have htim : (doorStuck s d).timers = s.timers := by simp
  have hstart : (doorStuck s d).start = s.start := by simp
  dsimp only
  rw [travelLapse_closing hc]
  obtain ⟨u, hu⟩ : ∃ u, u = doorStuck s d := ⟨_, rfl⟩
  rw [← hu] at hw hdoor hrec htim hstart ⊢
  obtain ⟨hh, hdef⟩ := driveHold_outputs (s := u) (d := d) (by simp [State.sensed, hdoor, ho, hp])
  rw [hw.frozen, hw.resolvedHold, hdoor] at hh
  rw [hw.resolvedHold, hdoor] at hdef
  obtain ⟨hdropped, hheld, hfree⟩ := holdFor_blocked (s.resolvedHold d) (s.door d).desc.magnet (s.door d).deferred
  have hphase := (driveHold_still (s := u) (d := d) (.inr (by simp [hdoor]))).1
  have hsame := ajarUpdate_sameDoor (u.driveHold d) d d
  refine ⟨⟨?_, ?_, ?_⟩, by simpa using hrec, ⟨fun hz => ?_, fun hr hm => ?_, fun hr => ?_⟩, ⟨ajarUpdate_ajar _ d, fun hcfg ha hdue => ?_⟩,
    fun e he => ?_, fun c hne => ?_⟩
  · rw [hsame.phase, hphase, hdoor]
  · rw [hsame.position]
    simp [hdoor, hp]
  · rw [hsame.lock]
    simp [hdoor]
  · rw [hsame.hold, hh, hz]
    simpa using hdropped
  · rw [hsame.deferred, hdef]
    exact hheld hr hm
  · rw [hsame.deferred, hdef]
    exact hfree hr
  · rw [ajarUpdate_ajarDue] at hdue
    have hcfg' : (u.driveHold d).cfg = s.cfg := by simp [State.cfg, hstart]
    rw [← hcfg']
    exact ajarUpdate_started (by simpa [hstart] using hcfg) (driveHold_ajar (by simp [hdoor, ha])) hdue
  · rw [State.ajarUpdate_other _ _ _ (Ne.symm he), State.driveHold_other _ _ _ (Ne.symm he), hw.other e he]
  · rw [ajarUpdate_channel hne, driveHold_channel hne, channel_congr htim]

/-! ### Ajar timing (R74, R152) -/

theorem standsAjar_eq_true {s : State} {d : Fin 4} (ha : (s.door d).ajar = true) (hc : (s.door d).phase ≠ some .closing) :
    s.standsAjar d = true := by
  simp [State.standsAjar, State.travels, ha, hc]

theorem standsAjar_eq_false {s : State} {d : Fin 4} (h : (s.door d).ajar = false ∨ (s.door d).phase = some .closing) :
    s.standsAjar d = false := by
  rcases h with h | h <;> simp [State.standsAjar, State.travels, h]

/-- R152: the compare event still due is taken before the expiry. -/
def warned (s : State) (due : Bool) : State := if due then s.present .warning else s

theorem warned_eq (s : State) (due : Bool) : warned s due
    = { s with buzzer := { s.buzzer with warning := if due then s.buzzer.warning.presented else s.buzzer.warning } } := by
  cases due <;> rfl

/-- Settles O28, by the purpose of the door's channel: the travel limit in CLOSING, ajar timing elsewhere. -/
theorem doorTimersBlockAndReportTheDoor : Obligations.DoorTimersBlockAndReportTheDoor := by
  refine ⟨fun s d hh ho hp hc hm => ?_, fun s d h => ?_, fun s d hl ha hc hm => ?_, fun s d h => ?_, fun s d hl ha hc hm => ?_, fun s d h => ?_⟩
  · obtain ⟨ch, -, hact⟩ := State.onExpiry_acts s (.door d) (s.travels d) (fun t => t.travelLapse d) (live_of_hearing hh)
      (by simp [State.travels, hc]) hm
    obtain ⟨hdoor, hrec, ⟨hhold, hdef, hfree⟩, ⟨hajar, hstarted⟩, hother, hchannel⟩ := travelLapse_spec (s := s.setChannel (.door d) ch) ho hp hc
    refine ⟨_, congrArg Host.Outcome.next hact, hdoor, hrec, hhold, hdef, hfree, hajar, hstarted (phase_of_hearing hh), hother,
      fun c _ hne => ?_, ?_⟩
    · rw [hchannel c hne]
      exact (State.setChannel_channel s _ c ch).trans (if_neg (Ne.symm hne))
    · rw [travelLapse_closing (s := s.setChannel (.door d) ch) hc]
      exact state_eq (by simp)
  · refine ⟨s, congrArg Host.Outcome.next (State.onExpiry_idle s _ _ _ ?_), rfl⟩
    exact h.imp_left fun h => by simp [State.travels, h]
  · obtain ⟨ch, hact⟩ := onCompare_acts (fun t : State => t.present .warning) hl (standsAjar_eq_true ha hc) hm
    refine ⟨_, congrArg Host.Outcome.next hact, rfl, fun c _ hne => ?_⟩
    exact (State.setChannel_channel s _ c ch).trans (if_neg (Ne.symm hne))
  · refine ⟨s, congrArg Host.Outcome.next (onCompare_idle _ ?_), rfl⟩
    rcases h with h | h | h
    · exact .inl (standsAjar_eq_false (.inl h))
    · exact .inl (standsAjar_eq_false (.inr h))
    · exact .inr h
  · obtain ⟨ch, -, hact⟩ := State.onExpiry_acts s (.door d) (s.standsAjar d)
      (fun t => (warned t (s.channel (.door d)).compareDue).respond (responseTable .held s.column)) hl (standsAjar_eq_true ha hc) hm
    have hbuzzer := respond_buzzer (warned (s.setChannel (.door d) ch) (s.channel (.door d)).compareDue) (responseTable .held s.column)
    rw [warned_eq] at hact hbuzzer
    refine ⟨_, congrArg Host.Outcome.next hact, respond_watch _ _, ?_, ?_, respond_marks, fun hq => ?_, state_eq (by simp)⟩
    · rw [hbuzzer]
      split <;> rfl
    · rw [hbuzzer]
      split <;> rfl
    · rw [respond_quiet hq]
      refine ⟨rfl, rfl, rfl, rfl, rfl, fun c _ hne => ?_⟩
      exact (State.setChannel_channel s _ c ch).trans (if_neg (Ne.symm hne))
  · refine ⟨s, congrArg Host.Outcome.next (State.onExpiry_idle s _ _ _ ?_), rfl⟩
    rcases h with h | h | h
    · exact .inl (by simp [standsAjar_eq_false (.inl h)])
    · exact .inl (by simp [standsAjar_eq_false (.inr h)])
    · exact .inr h

end Sys2Proof.Proofs.DoorTimers
end

section
/-! The changes of a door's position (R59, R69 to R71, R82, R12), with the intrusion latch that a FORCED door may set. -/

namespace Sys2Proof.Proofs.DoorPositions

open Sys2Proof Sys2Proof.Machine Sys2Proof.Proofs.PartFrames Sys2Proof.Proofs.Steps Sys2Proof.Proofs.ResetUnit
open Sys2Proof.Proofs.Claims Sys2Proof.Proofs.DoorDrive Sys2Proof.Proofs.DoorRules Sys2Proof.Proofs.DoorEvents Sys2Proof.Proofs.StatusMark
open Sys2Proof.Proofs.DoorTimers Sys2Proof.Proofs.CallEvents

/-! ### What LOCKDOWN leaves of a resolution -/

theorem strongest_mem {α : Type} {l : List (Nat × α)} {x : Nat × α} (h : strongest l = some x) : x ∈ l := by
  have hfrom : ∀ (l : List (Nat × α)) best, l.foldl better best = some x → x ∈ l ∨ best = some x := by
    intro l
    induction l with
    | nil => exact fun _ h => .inr h
    | cons y l ih =>
      intro best hx
      rcases ih _ hx with hm | hb
      · exact .inl (List.mem_cons_of_mem _ hm)
      · cases best with
        | none =>
          obtain rfl : y = x := by simpa [better] using hb
          exact .inl (by simp)
        | some b =>
          simp only [better] at hb
          split at hb
          · obtain rfl : y = x := by simpa using hb
            exact .inl (by simp)
          · exact .inr hb
  exact (hfrom l none h).resolve_right (by simp)

/-- R61: outside PUBLIC no slot prefers a hold. -/
theorem resolvedHold_dropped {s : State} (d : Fin 4) (h : s.modes.mode ≠ .pub) : s.resolvedHold d = .dropped := by
  unfold State.resolvedHold
  cases hs : strongest (s.wishes d (slotHold s.modes.mode (s.door d).desc.kind)) with
  | none => rfl
  | some x =>
    obtain ⟨slot, -, hx⟩ := List.mem_filterMap.mp (strongest_mem hs)
    split at hx
    · obtain ⟨w, hw, rfl⟩ := Option.map_eq_some_iff.mp hx
      show w = .dropped
      revert hw h
      cases slot <;> cases s.modes.mode <;> simp [slotHold] <;> exact fun hw => hw.symm
    · cases hx

/-- R61, R65: a door resolved to LOCK stays so when LOCKDOWN comes to stand. -/
theorem resolvedLock_locked {s t : State} {d : Fin 4} (hr : SameRules s t) (hd : (t.door d).desc = (s.door d).desc)
    (hst : ∀ slot, slot ≠ .lockdown → t.slotStands d slot = s.slotStands d slot) (hl : t.slotStands d .lockdown = true)
    (h : s.resolvedLock d = .locked) : t.resolvedLock d = .locked := by
  have hf := hst .fire (by decide)
  have hp := hst .passage (by decide)
  have hs := hst .schedule (by decide)
  have hsched : s.slotStands d .schedule = true := rfl
  rw [hsched] at hs
  simp only [State.resolvedLock, State.wishes, ClaimSlot.inOrder, List.filterMap_cons, List.filterMap_nil, State.slotLevel,
    hf, hp, hs, hl, hsched, hr.cfg, hr.mode, hd, if_true] at h ⊢
  rw [scheduleLock_eq] at h ⊢
  generalize s.slotStands d .fire = f at h ⊢
  generalize s.slotStands d .lockdown = l at h
  generalize s.slotStands d .passage = p at h ⊢
  generalize (if s.modes.mode = .night ∨ (s.modes.mode = .closed ∧ (s.door d).desc.kind = .exit) then LockOut.locked else .free) = w at h ⊢
  cases l with
  | true => exact h
  | false =>
    simp only [slotLock] at h ⊢
    cases f <;> cases p <;> simp [strongest_eq_foldl, better] at h ⊢
    all_goals grind

/-! ### A FORCED door and the latch it sets (R51, R70) -/

/-- A door that stands as its rules leave it. -/
structure Settled (s : State) (d : Fin 4) : Prop where
  lock : (s.door d).lock = .locked
  phase : (s.door d).phase = some .forced
  deferred : (s.door d).deferred = false
  ajar : (s.door d).ajar = false
  resolvedLock : s.frozen d = true ∨ s.resolvedLock d = .locked
  resolvedHold : s.resolvedHold d = .dropped
  hold : s.frozen d = true ∨ (s.door d).hold = .dropped

theorem Settled.congr {s t : State} {d : Fin 4} (h : Settled s d) (hc : SameClaims s t) (hd : t.door d = s.door d) : Settled t d where
  lock := by rw [hd]; exact h.lock
  phase := by rw [hd]; exact h.phase
  deferred := by rw [hd]; exact h.deferred
  ajar := by rw [hd]; exact h.ajar
  resolvedLock := by rw [hc.frozen (by rw [hd]), hc.resolvedLock (hc.stands (by rw [hd])) (by rw [hd])]; exact h.resolvedLock
  resolvedHold := by rw [hc.resolvedHold (hc.stands (by rw [hd])) (by rw [hd])]; exact h.resolvedHold
  hold := by rw [hc.frozen (by rw [hd]), hd]; exact h.hold

/-- A door that stands as its rules leave it is unchanged by its resolution. -/
theorem Settled.resolve {s : State} {d : Fin 4} (h : Settled s d) : (s.resolve d).door d = s.door d := by
  have hl : (s.driveLock d).door d = s.door d := by
    rw [State.driveLock_door]
    split
    next hd =>
      obtain ⟨-, hd⟩ := hd
      have hr : s.resolvedLock d = .locked := h.resolvedLock.resolve_left fun hz => by simp [State.drivable, hz] at hd
      have hlock : lockFor (s.resolvedLock d) (s.door d).position (s.door d).lock = (s.door d).lock := by
        rw [hr, h.lock]
        simp only [lockFor]
        split <;> rfl
      rw [hlock]
    · rfl
  have h' := h.congr (driveLock_claims s d) hl
  have hh : ((s.driveLock d).driveHold d).door d = s.door d := by
    rw [← hl]
    generalize s.driveLock d = u at h'
    have hnew : holdFor (u.resolvedHold d) (u.door d).desc.magnet (u.door d).deferred (u.door d).phase = (.dropped, false) := by
      rw [h'.resolvedHold]
      rfl
    unfold State.driveHold
    dsimp only
    rw [hnew]
    split
    · rfl
    · rw [if_pos (by rcases h'.hold with hz | hz <;> simp [hz])]
      rw [State.setDoor_door, if_pos rfl, ← h'.deferred]
  unfold State.resolve
  split
  · unfold State.ajarUpdate
    have hphase : (((s.driveLock d).driveHold d).door d).phase = some .forced := by rw [hh]; exact h.phase
    have hajar : (((s.driveLock d).driveHold d).door d).ajar = false := by rw [hh]; exact h.ajar
    have hdue : ((s.driveLock d).driveHold d).ajarDue d = false := by
      simp [State.ajarDue, hphase]
    simp only [hdue, hajar, Bool.false_and, Bool.and_false, Bool.false_eq_true, if_false]
    exact hh
  · rfl

theorem Settled.resolveAll {s : State} {d : Fin 4} (h : Settled s d) : s.resolveAll.door d = s.door d := by
  refine (deliver_induct (fun t => SameClaims s t ∧ t.door d = s.door d) (fun t n ht => ⟨ht.1.trans (afterDraw_claims t n), ht.2⟩) _
    (fun f hf t ht => ?_) s ⟨.refl s, rfl⟩).2
  obtain ⟨e, -, rfl⟩ := List.mem_map.mp hf
  obtain ⟨hc, hd⟩ := ht
  refine ⟨hc.trans (resolve_claims t e), ?_⟩
  by_cases he : e = d
  · subst he
    exact ((h.congr hc hd).resolve).trans hd
  · exact (State.resolve_other t e d he).trans hd

/-- R51: the latch that a FORCED door sets leaves that door as it is. -/
theorem respondAlert_settled {s : State} {d : Fin 4} (h : Settled s d) (hm : s.modes.mode ≠ .pub) :
    s.respondAlert.door d = s.door d := by
  cases hi : s.watch.intrusion with
  | true => rw [respondAlert_set hi]
  | false =>
    rw [respondAlert_clear hi]
    have hr : SameRules s (alerted s) := ⟨by simp, by simp, by simp, by simp⟩
    have hdoor : (alerted s).door d = s.door d := door_congr (by simp) d
    have hst : ∀ slot, slot ≠ .lockdown → (alerted s).slotStands d slot = s.slotStands d slot := fun slot hne => by
      cases slot with
      | lockdown => exact absurd rfl hne
      | _ => simp [State.slotStands]
    have hl : (alerted s).slotStands d .lockdown = true := by simp [State.slotStands]
    have h' : Settled (alerted s) d := by
      refine ⟨by rw [hdoor]; exact h.lock, by rw [hdoor]; exact h.phase, by rw [hdoor]; exact h.deferred, by rw [hdoor]; exact h.ajar, ?_,
        resolvedHold_dropped d (by rw [hr.mode]; exact hm), ?_⟩
      · rw [hr.frozen (by rw [hdoor])]
        exact h.resolvedLock.imp_right (resolvedLock_locked hr (by rw [hdoor]) hst hl)
      · rw [hr.frozen (by rw [hdoor]), hdoor]
        exact h.hold
    exact (h'.resolveAll).trans hdoor

/-! ### CLOSED and UNKNOWN (R69, R71) -/

theorem written_shut (s : State) (d : Fin 4) : Written s (doorShut s d) d where
  claims := doorShut_claims s d
  desc := by simp
  keep := by simp
  other e he := by rw [doorShut_door, if_neg (Ne.symm he)]

theorem written_unsensed (s : State) (d : Fin 4) : Written s (doorUnsensed s d) d where
  claims := doorUnsensed_claims s d
  desc := by simp
  keep := by simp
  other e he := by rw [doorUnsensed_door, if_neg (Ne.symm he)]

theorem written_away (s : State) (d : Fin 4) : Written s (doorAway s d) d where
  claims := doorAway_claims s d
  desc := by simp
  keep := by simp
  other e he := by rw [doorAway_door, if_neg (Ne.symm he)]

theorem stopped_channel {s t : State} {d : Fin 4} (h : t.timers = (s.stopTimer (.door d)).timers) :
    ((t.channel (.door d)).running = false ∧ (t.channel (.door d)).waiting = [])
    ∧ ∀ c, c ≠ .door d → t.channel c = s.channel c := by
  refine ⟨?_, fun c hc => ?_⟩
  · rw [channel_congr h, State.stopTimer_channel, if_pos rfl]
    exact ⟨rfl, rfl⟩
  · rw [channel_congr h, State.stopTimer_channel, if_neg (Ne.symm hc)]

theorem doorShut_timers (s : State) (d : Fin 4) : (doorShut s d).timers = (s.stopTimer (.door d)).timers := by
  simp [doorShut]
  rfl

theorem doorUnsensed_timers (s : State) (d : Fin 4) : (doorUnsensed s d).timers = (s.stopTimer (.door d)).timers := by
  simp [doorUnsensed]
  rfl

/-- A door driven where its phase does not follow the hold. -/
theorem driven_still {u : State} {d : Fin 4} (h : (u.door d).position ≠ some .opened) :
    (((u.driveLock d).driveHold d).door d).phase = (u.door d).phase
    ∧ (((u.driveLock d).driveHold d).door d).ajar = (u.door d).ajar ∧ ((u.driveLock d).driveHold d).timers = u.timers := by
  have hs := driveHold_still (s := u.driveLock d) (d := d) (.inl (by simpa using h))
  simpa using hs

@[simp] theorem driven_rest (u : State) (d : Fin 4) : ((u.driveLock d).driveHold d).clock = u.clock
    ∧ ((u.driveLock d).driveHold d).pins = u.pins ∧ ((u.driveLock d).driveHold d).troubles = u.troubles
    ∧ ((u.driveLock d).driveHold d).doors.passage = u.doors.passage := by
  simp

/-- R69: everything that a closing does to an owned door. -/
theorem doorCloses_spec {s : State} {d : Fin 4} (ho : (s.door d).desc.isOwned = true) :
    let t := s.doorCloses d
    ((t.door d).position = some .closed ∧ (t.door d).phase = some .shut ∧ (t.door d).deferred = false ∧ (t.door d).ajar = false
      ∧ (t.door d).desc = (s.door d).desc)
    ∧ (t.door d).lock = (if s.frozen d then (s.door d).lock else s.resolvedLock d)
    ∧ (t.door d).hold = (if s.frozen d then (s.door d).hold
        else if s.resolvedHold d = .holding ∧ (s.door d).desc.magnet = true then .holding else .dropped)
    ∧ ((t.channel (.door d)).running = false ∧ (t.channel (.door d)).waiting = [])
    ∧ (∀ c, c ≠ .door d → t.channel c = s.channel c)
    ∧ (Trouble.doorBlocked d ∉ t.troubles.record ∧ Trouble.doorPosition d ∉ t.troubles.record)
    ∧ t.link.status = true
    ∧ (∀ e, e ≠ d → t.door e = s.door e) := by
  have hw := written_shut s d
  have hdoor : (doorShut s d).door d = { s.door d with
      position := some .closed, filter := Filter.clear, phase := some .shut, deferred := false, ajar := false } := by
    rw [doorShut_door, if_pos rfl]
  have hchan := stopped_channel (doorShut_timers s d)
  have hrec : Trouble.doorBlocked d ∉ (doorShut s d).troubles.record ∧ Trouble.doorPosition d ∉ (doorShut s d).troubles.record := by
    simp [doorShut]
  have hmark : (doorShut s d).link.status = true := removeTroubles_tells _ _ rfl
  dsimp only
  rw [doorCloses_eq]
  obtain ⟨u, hu⟩ : ∃ u, u = doorShut s d := ⟨_, rfl⟩
  rw [← hu] at hw hdoor hchan hrec hmark ⊢
  obtain ⟨hlock, hhold, hdef⟩ := hw.driven ho (p := .closed) (by rw [hdoor]) (by simp [hdoor])
  obtain ⟨hphase, hajar, htimers⟩ := driven_still (u := u) (d := d) (by simp [hdoor])
  refine ⟨⟨by simp [hdoor], by rw [hphase, hdoor], by rw [hdef, hdoor]; rfl, by rw [hajar, hdoor], by simp [hdoor]⟩, ?_, ?_, ?_, fun c hc => ?_,
    by simpa using hrec, driven_tells d u hmark, fun e he => hw.driven_other he⟩
  · rw [hlock, hdoor, lockFor_resolved (by simp)]
  · rw [hhold, hdoor]
    simp
  · rw [channel_congr htimers]
    exact hchan.1
  · rw [channel_congr htimers]
    exact hchan.2 c hc

/-- R71: everything that the loss of its position does to an owned door. -/
theorem doorLost_spec {s : State} {d : Fin 4} (ho : (s.door d).desc.isOwned = true) :
    let t := s.doorLost d
    ((t.door d).position = some .unknown ∧ (t.door d).phase = some .unsensed ∧ (t.door d).ajar = false)
    ∧ (t.door d).lock = (if s.frozen d then (s.door d).lock else s.resolvedLock d)
    ∧ (t.door d).hold = (if s.frozen d then (s.door d).hold
        else if s.resolvedHold d = .holding ∧ (s.door d).desc.magnet = true ∧ (s.door d).deferred = false then .holding else .dropped)
    ∧ (t.door d).deferred = ((s.door d).deferred && s.resolvedHold d == .holding)
    ∧ ((t.channel (.door d)).running = false ∧ (t.channel (.door d)).waiting = [])
    ∧ (∀ c, c ≠ .door d → t.channel c = s.channel c)
    ∧ (Trouble.doorBlocked d ∉ t.troubles.record ∧ Trouble.doorPosition d ∈ t.troubles.record)
    ∧ t.link.status = true
    ∧ (∀ e, e ≠ d → t.door e = s.door e) := by
  have hw := written_unsensed s d
  have hdoor : (doorUnsensed s d).door d = { s.door d with
      position := some .unknown, filter := Filter.clear, phase := some .unsensed, ajar := false } := by
    rw [doorUnsensed_door, if_pos rfl]
  have hchan := stopped_channel (doorUnsensed_timers s d)
  have hrec : Trouble.doorBlocked d ∉ (doorUnsensed s d).troubles.record ∧ Trouble.doorPosition d ∈ (doorUnsensed s d).troubles.record := by
    unfold doorUnsensed
    simp only [State.mem_enterTrouble, State.mem_removeTrouble]
    simp
  have hmark : (doorUnsensed s d).link.status = true := enterTrouble_tells _ _ (removeTroubles_tells _ _ rfl)
  dsimp only
  rw [doorLost_eq]
  obtain ⟨u, hu⟩ : ∃ u, u = doorUnsensed s d := ⟨_, rfl⟩
  rw [← hu] at hw hdoor hchan hrec hmark ⊢
  obtain ⟨hlock, hhold, hdef⟩ := hw.driven ho (p := .unknown) (by rw [hdoor]) (by simp [hdoor])
  obtain ⟨hphase, hajar, htimers⟩ := driven_still (u := u) (d := d) (by simp [hdoor])
  refine ⟨⟨by simp [hdoor], by rw [hphase, hdoor], by rw [hajar, hdoor]⟩, ?_, by rw [hhold, hdoor], by rw [hdef, hdoor], ?_, fun c hc => ?_,
    by simpa using hrec, driven_tells d u hmark, fun e he => hw.driven_other he⟩
  · rw [hlock, hdoor, lockFor_resolved (by simp)]
  · rw [channel_congr htimers]
    exact hchan.1
  · rw [channel_congr htimers]
    exact hchan.2 c hc

/-! ### OPEN (R70) -/

/-- R70: everything that an opening does to an owned door, before FORCED is looked up. -/
theorem doorOpens_spec {s : State} {d : Fin 4} (ho : (s.door d).desc.isOwned = true)
    (hfrom : (s.door d).position = some .closed ∨ (s.door d).position = some .unknown)
    (hfit : phaseFits (s.door d).position (s.door d).phase = true) :
    let t := s.doorOpens d
    ((t.door d).position = some .opened
      ∧ (t.door d).lock = (if s.frozen d = false ∧ s.resolvedLock d = .free then .free else (s.door d).lock)
      ∧ (t.door d).hold = (if s.frozen d then (s.door d).hold
          else if s.resolvedHold d = .holding ∧ (s.door d).desc.magnet = true ∧ (s.door d).deferred = false then .holding else .dropped)
      ∧ (t.door d).deferred = ((s.door d).deferred && s.resolvedHold d == .holding))
    ∧ (t.door d).phase = (if (t.door d).lock = .locked then some .forced else if (t.door d).hold = .holding then some .held else some .opened)
    ∧ ((t.door d).ajar = t.ajarDue d
      ∧ (s.start.phase ≠ .configRead → (s.door d).ajar = false → t.ajarDue d = true →
        t.channel (.door d) = Channel.fresh s.cfg.ajar .s1 .oneShot (s.cfg.ajar / 2)))
    ∧ (Trouble.doorPosition d ∉ t.troubles.record ∧ t.link.status = true)
    ∧ (∀ e, e ≠ d → t.door e = s.door e)
    ∧ (∀ c, c ≠ .door d → t.channel c = s.channel c)
    ∧ SameClaims s t := by
  have hw := written_away s d
  have hdoor : (doorAway s d).door d = { s.door d with position := some .opened, filter := Filter.clear } := by
    rw [doorAway_door, if_pos rfl]
  have hrec : Trouble.doorPosition d ∉ (doorAway s d).troubles.record := by
    unfold doorAway
    rw [State.mem_removeTrouble]
    simp
  have hmark : (doorAway s d).link.status = true := removeTroubles_tells _ _ rfl
  have htim : (doorAway s d).timers = s.timers := by simp
  have hstart : (doorAway s d).start = s.start := by simp
  have hphase : (s.door d).phase = some .shut ∨ (s.door d).phase = some .unsensed := by
    revert hfit
    rcases hfrom with h | h <;> rw [h] <;> cases (s.door d).phase with
    | none => simp [phaseFits]
    | some q => cases q <;> simp [phaseFits]
  have hcalm : (s.door d).phase ≠ some .closing ∧ (s.door d).phase ≠ some .blocked := by
    rcases hphase with h | h <;> simp [h]
  have hstillphase : (s.door d).phase ≠ some .held ∧ (s.door d).phase ≠ some .opened := by
    rcases hphase with h | h <;> simp [h]
  dsimp only
  rw [doorOpens_eq, doorDriven]
  obtain ⟨u, hu⟩ : ∃ u, u = doorAway s d := ⟨_, rfl⟩
  rw [← hu] at hw hdoor hrec hmark htim hstart ⊢
  obtain ⟨hlock, hhold, hdef⟩ := hw.driven ho (p := .opened) (by rw [hdoor]) (by simpa [hdoor] using hcalm)
  obtain ⟨-, hajar, -⟩ := driveHold_still (s := u.driveLock d) (d := d) (.inr (by simpa [hdoor] using hstillphase))
  have hother := fun e => hw.driven_other (e := e)
  have htold : ((u.driveLock d).driveHold d).link.status = true := driven_tells d u hmark
  have hclaims := hw.claims.trans (driven_claims u d)
  have hpos : (((u.driveLock d).driveHold d).door d).position = some .opened := by simp [hdoor]
  have hchan : ∀ c, c ≠ .door d → ((u.driveLock d).driveHold d).channel c = s.channel c := fun c hc => by
    rw [driven_channel hc, channel_congr htim]
  have hrec' : Trouble.doorPosition d ∉ ((u.driveLock d).driveHold d).troubles.record := by simpa using hrec
  have hstart' : ((u.driveLock d).driveHold d).start = s.start := by simp [hstart]
  have hajar' : (((u.driveLock d).driveHold d).door d).ajar = (s.door d).ajar := by
    rw [hajar]
    simp [hdoor]
  obtain ⟨v, hv⟩ : ∃ v, v = (u.driveLock d).driveHold d := ⟨_, rfl⟩
  rw [← hv] at hlock hhold hdef hother htold hclaims hpos hchan hrec' hstart' hajar' ⊢
  obtain ⟨w, hw'⟩ : ∃ w, w = v.setDoor d { v.door d with phase := some (phaseByOutputs (v.door d)) } := ⟨_, rfl⟩
  rw [← hw']
  have hwdoor : w.door d = { v.door d with phase := some (phaseByOutputs (v.door d)) } := by simp [hw']
  have hsame := ajarUpdate_sameDoor w d d
  have hcfg : w.cfg = s.cfg := by simp [State.cfg, hw', hstart']
  refine ⟨⟨?_, ?_, ?_, ?_⟩, ?_, ⟨ajarUpdate_ajar w d, fun hph ha hdue => ?_⟩, ⟨by simpa [hw'] using hrec', by simpa [hw'] using htold⟩,
    fun e he => ?_, fun c hc => ?_, ?_⟩
  · rw [hsame.position, hwdoor, hpos]
  · rw [hsame.lock, hwdoor, hlock, hdoor]
    cases s.frozen d <;> cases s.resolvedLock d <;> simp [lockFor]
  · rw [hsame.hold, hwdoor, hhold, hdoor]
  · rw [hsame.deferred, hwdoor, hdef, hdoor]
  · rw [hsame.phase, hsame.lock, hsame.hold, hwdoor]
    unfold phaseByOutputs
    cases (v.door d).lock <;> cases (v.door d).hold <;> rfl
  · rw [ajarUpdate_ajarDue] at hdue
    rw [← hcfg]
    exact ajarUpdate_started (by simpa [hw', hstart'] using hph) (by rw [hwdoor]; exact hajar'.trans ha) hdue
  · rw [State.ajarUpdate_other _ _ _ (Ne.symm he), hw', State.setDoor_door, if_neg (Ne.symm he), hother e he]
  · rw [ajarUpdate_channel hc, ← hchan c hc, hw']
    rfl
  · have hset : SameClaims v w := by
      rw [hw']
      exact ⟨⟨rfl, rfl, rfl, rfl⟩, rfl, rfl, rfl⟩
    exact (hclaims.trans hset).trans (ajarUpdate_claims w d)

theorem doorOpens_rest (s : State) (d : Fin 4) : (s.doorOpens d).watch = s.watch ∧ (s.doorOpens d).doors.passage = s.doors.passage
    ∧ s.doorOpens d = { s with
      doors := (s.doorOpens d).doors, timers := (s.doorOpens d).timers, troubles := (s.doorOpens d).troubles
      buzzer := (s.doorOpens d).buzzer, link := (s.doorOpens d).link, egress := (s.doorOpens d).egress
      calls := (s.doorOpens d).calls, light := (s.doorOpens d).light, order := (s.doorOpens d).order } := by
  rw [doorOpens_eq, doorDriven]
  refine ⟨by simp, by simp, state_eq (by simp [doorAway])⟩

theorem respond_tells (r : Response) : Tells fun s => s.respond r := fun s hs => by
  by_cases h : (s.respond r).watch.intrusion = s.watch.intrusion
  · dsimp only
    rw [respond_quiet h]
    exact hs
  · cases hi : s.watch.intrusion with
    | false =>
      have hset : (s.respond r).watch.intrusion = true := by simpa [hi] using h
      exact (respond_marks hset hi).2
    | true =>
      rw [respond_watch, hi] at h
      exact absurd rfl h

/-- R12: FORCED is looked up where an opening leaves the door so. -/
def forcedAnswer (s : State) (d : Fin 4) : State :=
  if (s.door d).phase = some .forced then s.respond (responseTable .forced s.column) else s

theorem forced_not_pub {s : State} (h : responseTable .forced s.column = .alert) : s.modes.mode ≠ .pub := by
  intro hm
  rw [State.column, hm] at h
  cases h

/-- R12: what the answer to FORCED does, and that it leaves the door itself as it is. -/
theorem forcedAnswer_spec {s : State} {d : Fin 4}
    (hphase : (s.door d).phase = some .forced ↔ (s.door d).lock = .locked)
    (hs : (s.door d).phase = some .forced → s.modes.mode ≠ .pub → Settled s d) :
    let t := forcedAnswer s d
    t.door d = s.door d
    ∧ t.watch = { s.watch with
        localLatch := s.watch.localLatch || ((s.door d).lock == .locked && responseTable .forced s.column == .local)
        intrusion := s.watch.intrusion || ((s.door d).lock == .locked && responseTable .forced s.column == .alert) }
    ∧ (s.link.status = true → t.link.status = true)
    ∧ ((s.door d).lock = .free ∨ responseTable .forced s.column ≠ .alert → t.doors = s.doors ∧ t.timers = s.timers)
    ∧ ((s.door d).phase ≠ some .forced → t = s) := by
  dsimp only
  unfold forcedAnswer
  by_cases hf : (s.door d).phase = some .forced
  · have hlock := hphase.mp hf
    rw [if_pos hf, hlock]
    refine ⟨?_, by rw [respond_watch]; rfl, respond_tells _ s, fun h => ?_, fun h => absurd hf h⟩
    · cases hr : responseTable .forced s.column with
      | alert =>
        have hm := forced_not_pub hr
        exact respondAlert_settled (hs hf hm) hm
      | _ => rfl
    · have hr := h.resolve_left (by simp)
      cases hr' : responseTable .forced s.column with
      | alert => exact absurd hr' hr
      | _ => exact ⟨rfl, rfl⟩
  · have hlock : (s.door d).lock = .free := by
      cases hl : (s.door d).lock with
      | free => rfl
      | locked => exact absurd (hphase.mpr hl) hf
    rw [if_neg hf, hlock]
    refine ⟨rfl, ?_, id, fun _ => ⟨rfl, rfl⟩, fun _ => rfl⟩
    show s.watch = { s.watch with localLatch := s.watch.localLatch || false, intrusion := s.watch.intrusion || false }
    simp

theorem forcedAnswer_rest (s : State) (d : Fin 4) : (forcedAnswer s d).doors.passage = s.doors.passage
    ∧ (forcedAnswer s d).troubles = s.troubles ∧ (forcedAnswer s d).start = s.start ∧ SameRules s (forcedAnswer s d)
    ∧ forcedAnswer s d = { s with
      doors := (forcedAnswer s d).doors, timers := (forcedAnswer s d).timers, troubles := (forcedAnswer s d).troubles
      buzzer := (forcedAnswer s d).buzzer, link := (forcedAnswer s d).link, egress := (forcedAnswer s d).egress
      calls := (forcedAnswer s d).calls, light := (forcedAnswer s d).light, order := (forcedAnswer s d).order
      watch := (forcedAnswer s d).watch } := by
  have hp : ∀ r, (s.respond r).doors.passage = s.doors.passage := fun r => by
    cases r <;> simp [State.respond, State.respondLocal, State.respondAlert]
    split <;> simp
  unfold forcedAnswer
  split
  · exact ⟨hp _, by simp, by simp, ⟨by simp, by simp, by simp, by simp⟩, state_eq (by simp)⟩
  · exact ⟨rfl, rfl, rfl, ⟨rfl, rfl, rfl, rfl⟩, rfl⟩

theorem positionTaken_closed (s : State) (d : Fin 4) : s.positionTaken d .closed = s.doorCloses d := rfl

theorem positionTaken_unknown (s : State) (d : Fin 4) : s.positionTaken d .unknown = s.doorLost d := rfl

theorem positionTaken_opened (s : State) (d : Fin 4) : s.positionTaken d .opened = forcedAnswer (s.doorOpens d) d := rfl

/-- A door whose opening leaves it FORCED stands as its rules leave it, outside PUBLIC. -/
theorem doorOpens_settled {s : State} {d : Fin 4} (ho : (s.door d).desc.isOwned = true)
    (hfrom : (s.door d).position = some .closed ∨ (s.door d).position = some .unknown)
    (hfit : phaseFits (s.door d).position (s.door d).phase = true) (hf : ((s.doorOpens d).door d).phase = some .forced)
    (hm : (s.doorOpens d).modes.mode ≠ .pub) : Settled (s.doorOpens d) d := by
  obtain ⟨⟨-, hlock, hhold, hdef⟩, hphase, ⟨hajar, -⟩, -, -, -, hc⟩ := doorOpens_spec ho hfrom hfit
  have hdesc : ((s.doorOpens d).door d).desc = (s.door d).desc := by simp
  have hkeep : ((s.doorOpens d).door d).keep = (s.door d).keep := by simp
  have hlocked : ((s.doorOpens d).door d).lock = .locked := by
    rw [hf] at hphase
    by_contra hn
    rw [if_neg hn] at hphase
    split at hphase <;> cases hphase
  have hheld : s.resolvedHold d = .dropped := resolvedHold_dropped d (by rw [← hc.mode]; exact hm)
  refine ⟨hlocked, hf, by rw [hdef, hheld]; simp, by rw [hajar]; simp [State.ajarDue, hf], ?_, resolvedHold_dropped d hm, ?_⟩
  · rw [hc.frozen hkeep, hc.resolvedLock (hc.stands hdesc) hdesc]
    rw [hlocked] at hlock
    cases hz : s.frozen d with
    | true => exact .inl rfl
    | false =>
      cases hr : s.resolvedLock d with
      | free => simp [hz, hr] at hlock
      | locked => exact .inr rfl
  · rw [hc.frozen hkeep]
    cases hz : s.frozen d with
    | true => exact .inl rfl
    | false =>
      rw [hhold, hz, hheld]
      exact .inr (by simp)

/-- The line of a door as its contact reads. -/
def contactRead (s : State) (d : Fin 4) (r : ContactReading) : State := { s with pins := { s.pins with doors := s.pins.doors.set d r } }

theorem contactRead_written (s : State) (d e : Fin 4) (r : ContactReading) : Written s (contactRead s d r) e :=
  ⟨⟨⟨rfl, rfl, rfl, rfl⟩, rfl, rfl, rfl⟩, rfl, rfl, fun _ _ => rfl⟩

@[simp] theorem contactRead_door (s : State) (d e : Fin 4) (r : ContactReading) : (contactRead s d r).door e = s.door e := rfl

@[simp] theorem contactRead_channel (s : State) (d : Fin 4) (r : ContactReading) (c : Chan) :
    (contactRead s d r).channel c = s.channel c := rfl

@[simp] theorem contactRead_keeps (s : State) (d : Fin 4) (r : ContactReading) : (contactRead s d r).clock = s.clock
    ∧ (contactRead s d r).timers = s.timers ∧ (contactRead s d r).modes = s.modes ∧ (contactRead s d r).fire = s.fire
    ∧ (contactRead s d r).watch = s.watch ∧ (contactRead s d r).doors = s.doors ∧ (contactRead s d r).calls = s.calls
    ∧ (contactRead s d r).table = s.table ∧ (contactRead s d r).egress = s.egress ∧ (contactRead s d r).light = s.light
    ∧ (contactRead s d r).link = s.link ∧ (contactRead s d r).start = s.start ∧ (contactRead s d r).troubles = s.troubles
    ∧ (contactRead s d r).buzzer = s.buzzer ∧ (contactRead s d r).keys = s.keys ∧ (contactRead s d r).raised = s.raised
    ∧ (contactRead s d r).order = s.order ∧ (contactRead s d r).pending = s.pending :=
  ⟨rfl, rfl, rfl, rfl, rfl, rfl, rfl, rfl, rfl, rfl, rfl, rfl, rfl, rfl, rfl, rfl, rfl, rfl⟩

theorem positionChange_moves {s : State} {d : Fin 4} {r : ContactReading} {p q : Position} (hh : s.hearing = true)
    (ho : (s.door d).desc.isOwned = true) (hp : (s.door d).position = some p) (hr : positionOf r = q) (hne : p ≠ q) :
    exec (.positionChange d r) s = .next ((contactRead s d r).positionTaken d q) := by
  subst hr
  have hread : (s.hearing && (s.door d).desc.isOwned && (s.door d).position.isSome) = true := by simp [hh, ho, hp]
  have hnew : ¬ (s.door d).position = some (positionOf r) := by
    rw [hp]
    exact fun h => hne (Option.some.inj h)
  exact congrArg Host.Outcome.next ((if_pos hread).trans (if_neg hnew))

/-- Settles O26, by the new position. -/
theorem positionChangeMovesTheDoor : Obligations.PositionChangeMovesTheDoor := by
  refine ⟨fun s d r hh ho hp hr => ?_, fun s d r hh ho hp hfit hr => ?_, fun s d r hh ho hp hr => ?_, fun s d r hh ho hp => ?_, fun s d r h => ?_⟩
  · have hact : exec (.positionChange d r) s = .next ((contactRead s d r).doorCloses d) := by
      rw [← positionTaken_closed]
      rcases hp with hp | hp <;> exact positionChange_moves hh ho hp hr (by decide)
    obtain ⟨hdoor, hlock, hhold, hchan, hothers, hrec, hmark, hother⟩ := doorCloses_spec (s := contactRead s d r) (d := d) ho
    have hw := contactRead_written s d d r
    rw [hw.frozen, hw.resolvedLock, contactRead_door] at hlock
    rw [hw.frozen, hw.resolvedHold, contactRead_door] at hhold
    refine ⟨_, hact, hdoor, hlock, hhold, hchan, fun c _ => hothers c, hrec, hmark, hother, ?_, ?_⟩
    · simp [doorCloses_eq]
    · rw [doorCloses_eq]
      exact state_eq (by simp [doorShut])
  · have hact : exec (.positionChange d r) s = .next (forcedAnswer ((contactRead s d r).doorOpens d) d) := by
      rw [← positionTaken_opened]
      rcases hp with hp | hp <;> exact positionChange_moves hh ho hp hr (by decide)
    obtain ⟨⟨hpos, hlock, hhold, hdef⟩, hphase, ⟨hajar, hstarted⟩, ⟨hrec, hmark⟩, hother, hothers, hclaims⟩ :=
      doorOpens_spec (s := contactRead s d r) (d := d) ho hp hfit
    have hw := contactRead_written s d d r
    rw [hw.frozen, hw.resolvedLock, contactRead_door] at hlock
    rw [hw.frozen, hw.resolvedHold, contactRead_door] at hhold
    rw [hw.resolvedHold, contactRead_door] at hdef
    rw [hw.cfg] at hstarted
    have hset := doorOpens_settled (s := contactRead s d r) (d := d) ho hp hfit
    obtain ⟨hwatch, hpassage, hrest⟩ := doorOpens_rest (contactRead s d r) d
    obtain ⟨v, hv⟩ : ∃ v, v = (contactRead s d r).doorOpens d := ⟨_, rfl⟩
    rw [← hv] at hact hpos hlock hhold hdef hphase hajar hstarted hrec hmark hother hothers hclaims hset hwatch hpassage hrest
    have hforced : (v.door d).phase = some .forced ↔ (v.door d).lock = .locked := by
      rw [hphase]
      split
      next h => simp [h]
      next h => split <;> simp [h]
    have hcolumn : v.column = s.column := by simp only [State.column, hclaims.mode, hwatch, contactRead_keeps]
    obtain ⟨hdoor, hw', htold, hquiet, hsame⟩ := forcedAnswer_spec hforced hset
    obtain ⟨hpass, htroubles, hstart, hrules, hrest'⟩ := forcedAnswer_rest v d
    rw [hcolumn, hwatch] at hw'
    rw [hcolumn] at hquiet
    have hdue : (forcedAnswer v d).ajarDue d = true → (forcedAnswer v d) = v := fun h => by
      refine hsame fun hf => ?_
      simp [State.ajarDue, hdoor, hf] at h
    refine ⟨_, hact, ?_, ?_, ?_, ?_, ?_, ?_, fun ha hd => ?_, ?_, htold hmark, ?_, fun h => ?_, ?_, ?_⟩
    · rw [hdoor, hpos]
    · rw [hdoor, hlock]
    · rw [hdoor, hhold]
    · rw [hdoor, hdef]
    · rw [hdoor, hphase]
    · by_cases hf : (v.door d).phase = some .forced
      · have hv0 : v.ajarDue d = false := by simp [State.ajarDue, hf]
        have ht0 : (forcedAnswer v d).ajarDue d = false := by simp [State.ajarDue, hdoor, hf]
        rw [hdoor, hajar, hv0, ht0]
      · rw [hsame hf, hajar]
    · have heq := hdue hd
      rw [heq] at hd ⊢
      exact hstarted (phase_of_hearing hh) ha hd
    · rw [htroubles]
      exact hrec
    · rw [hw', hdoor]
      rfl
    · rw [hdoor] at h
      obtain ⟨hd, ht⟩ := hquiet h
      refine ⟨fun e he => ?_, fun c _ hc => ?_⟩
      · rw [door_congr hd e, hother e he, contactRead_door]
      · rw [channel_congr ht c, hothers c hc, contactRead_channel]
    · rw [hpass, hpassage]
      rfl
    · rw [hrest', hrest]
      exact state_eq (by simp)
  · have hact : exec (.positionChange d r) s = .next ((contactRead s d r).doorLost d) := by
      rw [← positionTaken_unknown]
      rcases hp with hp | hp <;> exact positionChange_moves hh ho hp hr (by decide)
    obtain ⟨hdoor, hlock, hhold, hdef, hchan, hothers, hrec, hmark, hother⟩ := doorLost_spec (s := contactRead s d r) (d := d) ho
    have hw := contactRead_written s d d r
    rw [hw.frozen, hw.resolvedLock, contactRead_door] at hlock
    rw [hw.frozen, hw.resolvedHold, contactRead_door] at hhold
    rw [hw.resolvedHold, contactRead_door] at hdef
    refine ⟨_, hact, hdoor, hlock, hhold, hdef, hchan, fun c _ => hothers c, hrec, hmark, hother, ?_⟩
    rw [doorLost_eq]
    exact state_eq (by simp [doorUnsensed])
  · have hread : (s.hearing && (s.door d).desc.isOwned && (s.door d).position.isSome) = true := by simp [hh, ho, hp]
    exact ⟨_, congrArg Host.Outcome.next ((if_pos hread).trans (if_pos hp)), rfl, rfl⟩
  · have hread : ¬ (s.hearing && (s.door d).desc.isOwned && (s.door d).position.isSome) = true := by
      rcases h with h | h | h <;> simp [h]
    exact ⟨_, congrArg Host.Outcome.next (if_neg hread), rfl⟩

end Sys2Proof.Proofs.DoorPositions
end

section
/-! Watch inputs (R42, R43, R50, R51) and the sweep (R100, R119). -/

namespace Sys2Proof.Proofs.WatchInputs

open Sys2Proof Sys2Proof.Machine Sys2Proof.Proofs.PartFrames Sys2Proof.Proofs.Steps Sys2Proof.Proofs.ResetUnit
open Sys2Proof.Proofs.DoorTimers Sys2Proof.Proofs.StatusMark Sys2Proof.Proofs.CallEvents

/-! ### Watch inputs -/

/-- R43: the record of the input and its WATCH-LINE trouble, before the response. -/
def lineRead (s : State) (i : Fin 8) (new : WatchBand) : State :=
  let s1 := s.setInput i { s.watch.inputs[i] with band := new, filter := Filter.clear }
  match new with
  | .normal => s1.removeTrouble (.watchLine i)
  | .fault => s1.enterTrouble (.watchLine i)
  | .active => if responseTable (.active s.watch.inputs[i].kind) s.column = .trouble then s1.enterTrouble (.watchLine i) else s1

theorem watchBandTaken_eq (s : State) (i : Fin 8) (new : WatchBand) :
    s.watchBandTaken i new = (lineRead s i new).respond (watchAnswer s.watch.inputs[i].kind new s.column) := by
  cases new <;> rfl

@[simp] theorem lineRead_keeps (s : State) (i : Fin 8) (new : WatchBand) : (lineRead s i new).clock = s.clock
    ∧ (lineRead s i new).pins = s.pins ∧ (lineRead s i new).timers = s.timers ∧ (lineRead s i new).modes = s.modes
    ∧ (lineRead s i new).fire = s.fire ∧ (lineRead s i new).doors = s.doors ∧ (lineRead s i new).calls = s.calls
    ∧ (lineRead s i new).table = s.table ∧ (lineRead s i new).egress = s.egress ∧ (lineRead s i new).light = s.light
    ∧ (lineRead s i new).start = s.start ∧ (lineRead s i new).keys = s.keys ∧ (lineRead s i new).raised = s.raised
    ∧ (lineRead s i new).order = s.order ∧ (lineRead s i new).pending = s.pending := by
  unfold lineRead
  cases new with
  | active => dsimp only; split <;> simp
  | _ => simp

theorem lineRead_watch (s : State) (i : Fin 8) (new : WatchBand) : (lineRead s i new).watch
    = { s.watch with inputs := s.watch.inputs.set i { s.watch.inputs[i] with band := new, filter := Filter.clear } } := by
  unfold lineRead
  cases new with
  | active => dsimp only; split <;> simp [State.setInput]
  | _ => simp [State.setInput]

/-- R42, R43: when the WATCH-LINE trouble of the input stands. -/
theorem lineRead_trouble (s : State) (i : Fin 8) (new : WatchBand) :
    (new = .fault ∨ watchAnswer s.watch.inputs[i].kind new s.column = .trouble →
      Trouble.watchLine i ∈ (lineRead s i new).troubles.record)
    ∧ (new = .normal → Trouble.watchLine i ∉ (lineRead s i new).troubles.record) := by
  unfold lineRead
  cases new with
  | normal =>
    refine ⟨fun h => ?_, fun _ => ?_⟩
    · rcases h with h | h <;> cases h
    · rw [State.mem_removeTrouble]
      exact fun h => h.1 rfl
  | fault => exact ⟨fun _ => (State.mem_enterTrouble _ _ _).mpr (.inl rfl), fun h => by cases h⟩
  | active =>
    refine ⟨fun h => ?_, fun h => by cases h⟩
    have ht : responseTable (.active s.watch.inputs[i].kind) s.column = .trouble := h.resolve_left (by decide)
    dsimp only
    rw [if_pos ht, State.mem_enterTrouble]
    exact .inl rfl

theorem lineRead_chirp (s : State) (i : Fin 8) (new : WatchBand) : (lineRead s i new).buzzer.callChirp = s.buzzer.callChirp := by
  unfold lineRead
  cases new with
  | normal =>
    dsimp only
    unfold State.removeTrouble State.removeTroubles
    dsimp only
    split <;> rfl
  | fault => exact State.enterTrouble_buzzer _ _ .callChirp
  | active =>
    dsimp only
    split
    · exact State.enterTrouble_buzzer _ _ .callChirp
    · rfl

/-- Settles O23, by the response of the table in the column in effect. -/
theorem watchInputIsAnswered : Obligations.WatchInputIsAnswered := by
  refine ⟨fun s i r hh hk hb => ?_, fun s i r hh hk hb => ?_, fun s i r h => ?_⟩
  · obtain ⟨u, hu⟩ : ∃ u : State, u = { s with pins := { s.pins with watch := s.pins.watch.set i r } } := ⟨_, rfl⟩
    have hwatch : u.watch = s.watch := by rw [hu]
    have hcol : u.column = s.column := by rw [hu]; rfl
    have hact : exec (.watchBandChange i r) s = .next ((lineRead u i (watchBandOf r)).respond
        (watchAnswer s.watch.inputs[i].kind (watchBandOf r) s.column)) := by
      have hreads : u.inputReads i r = u.watchBandTaken i (watchBandOf r) := by
        unfold State.inputReads
        simp only [hwatch, hk, hb, if_false]
      rw [← hcol, ← hwatch, ← watchBandTaken_eq, ← hreads, hu]
      exact congrArg Host.Outcome.next (if_pos hh)
    have hw := lineRead_watch u i (watchBandOf r)
    obtain ⟨hin, hout⟩ := lineRead_trouble u i (watchBandOf r)
    have hchirp := lineRead_chirp u i (watchBandOf r)
    rw [hwatch] at hw hin
    rw [hcol] at hin
    have hrw := respond_watch (lineRead u i (watchBandOf r)) (watchAnswer s.watch.inputs[i].kind (watchBandOf r) s.column)
    rw [hw] at hrw
    refine ⟨_, hact, ?_, fun j hj => ?_, fun hf => ?_, fun hn => ?_, fun ht => ?_, by rw [hrw], fun h0 h1 => ?_, fun hq => ?_, by rw [hrw], ?_,
      by rw [hrw], by rw [hrw], ?_, ?_, ?_, ?_, ?_, ?_, ?_⟩
    · rw [hrw]
      simp
    · rw [hrw]
      simp [Fin.val_ne_of_ne (Ne.symm hj)]
    · simpa using hin (.inl hf)
    · simpa using hout hn
    · simpa using hin (.inr ht)
    · exact respond_marks h1 (by rw [hw]; exact h0)
    · have hq' := respond_quiet (hq.trans (by rw [hw]))
      rw [hq']
      exact ⟨by simp [hu], by simp [hu]⟩
    · rw [respond_buzzer]
      split
      · exact congrArg OneShotRec.presented (hchirp.trans (by rw [hu]))
      · exact hchirp.trans (by rw [hu])
    all_goals simp [hu]
  · have hact : ({ s with pins := { s.pins with watch := s.pins.watch.set i r } } : State).inputReads i r
        = ({ s with pins := { s.pins with watch := s.pins.watch.set i r } } : State).setInput i { s.watch.inputs[i] with filter := Filter.clear } := by
      unfold State.inputReads
      dsimp only
      rw [if_neg hk, if_pos hb]
    exact ⟨_, congrArg Host.Outcome.next ((if_pos hh).trans hact), rfl⟩
  · rcases h with h | h
    · exact ⟨_, congrArg Host.Outcome.next (if_neg (by simp [h])), rfl⟩
    · refine ⟨_, congrArg Host.Outcome.next (a₂ := { s with pins := { s.pins with watch := s.pins.watch.set i r } }) ?_, rfl⟩
      split
      · unfold State.inputReads
        dsimp only
        rw [if_pos h]
      · rfl

end Sys2Proof.Proofs.WatchInputs
end

section
/-! The sweep (R100, R119): what has not been confirmed since the last one is forgotten. -/

namespace Sys2Proof.Proofs.Sweep

open Sys2Proof Sys2Proof.Machine Sys2Proof.Proofs.PartFrames Sys2Proof.Proofs.Steps Sys2Proof.Proofs.ResetUnit
open Sys2Proof.Proofs.CallReach Sys2Proof.Proofs.CallList Sys2Proof.Proofs.StartFrame Sys2Proof.Proofs.StartOfRun

/-- R87, R96: a recomputation of levels moves local entries alone. -/
structure LocalsMoved (s t : State) : Prop where
  sound : t.CallsSound
  remote : ∀ x : CallEntry, x.isLocal = false → (x ∈ t.calls.list ↔ x ∈ s.calls.list)
  locals : ∀ e ∈ s.calls.list, e.isLocal = true → ∃ x ∈ t.calls.list, x.id = e.id ∧ x.isLocal = true

theorem LocalsMoved.refl {s : State} (h : s.CallsSound) : LocalsMoved s s := ⟨h, fun _ _ => Iff.rfl, fun e he hl => ⟨e, he, rfl, hl⟩⟩

/-- The one entry of an identity. -/
theorem eq_of_id {l : List CallEntry} (hd : (l.map CallEntry.id).Nodup) {a b : CallEntry} (ha : a ∈ l) (hb : b ∈ l)
    (h : a.id = b.id) : a = b := List.inj_on_of_nodup_map hd ha hb h

/-- R96: a local entry given a new level leaves every remote entry and every identity. -/
theorem relevelEntry_locals {l : List CallEntry} (hd : (l.map CallEntry.id).Nodup) {e : CallEntry} (he : e ∈ l) (hl : e.isLocal = true) (n : Nat) :
    (∀ x : CallEntry, x.isLocal = false → (x ∈ relevelEntry e.id n l ↔ x ∈ l))
    ∧ ∀ x ∈ l, x.isLocal = true → ∃ y ∈ relevelEntry e.id n l, y.id = x.id ∧ y.isLocal = true := by
  have hmem : ∀ x, x ∈ relevelEntry e.id n l ↔ x = { e with level := n } ∨ (x ∈ l ∧ x.id ≠ e.id) := fun x => by
    rw [(relevelEntry_perm hd he n).mem_iff]
    simp
  refine ⟨fun x hx => ?_, fun x hx hxl => ?_⟩
  · rw [hmem]
    constructor
    · rintro (rfl | ⟨h, -⟩)
      · rw [hl] at hx; cases hx
      · exact h
    · intro h
      refine .inr ⟨h, fun hid => ?_⟩
      rw [eq_of_id hd h he hid, hl] at hx
      cases hx
  · by_cases hid : x.id = e.id
    · exact ⟨_, (hmem _).mpr (.inl rfl), hid.symm, hl⟩
    · exact ⟨x, (hmem x).mpr (.inr ⟨hx, hid⟩), rfl, hxl⟩

theorem relevel_locals {s : State} (p : Fin 4) (h : s.CallsSound) : LocalsMoved s (s.relevel p) := by
  have hf := (callsSound_iff s).mp h
  have hsound := relevel_sound s p h
  revert hsound
  unfold State.relevel
  dsimp only
  split
  · exact fun hsound => .refl hsound
  next hc =>
    intro hsound
    have hopen : (s.point p).isOpen = true := by
      simp only [Bool.or_eq_true, Bool.not_eq_true', not_or] at hc
      simpa using hc.1
    obtain ⟨e, he, hid, hloc, -⟩ := hf.local_entry hopen
    have hown : s.ownCall p = e.id := hid.symm
    rw [hown] at hsound ⊢
    obtain ⟨hremote, hlocals⟩ := relevelEntry_locals hf.distinct he hloc (max (s.point p).level (s.candidateLevel (s.point p).late))
    exact ⟨hsound, by simpa using hremote, by simpa using hlocals⟩

theorem localsMoved_kept (s : State) : CallsKept (LocalsMoved s) where
  same h hc hi := ⟨same h.sound hc hi, by rw [hc]; exact h.remote, by rw [hc]; exact h.locals⟩
  relevel t p h := by
    have k := relevel_locals p h.sound
    refine ⟨k.sound, fun x hx => (k.remote x hx).trans (h.remote x hx), fun e he hl => ?_⟩
    obtain ⟨x, hx, hid, hxl⟩ := h.locals e he hl
    obtain ⟨y, hy, hid', hyl⟩ := k.locals x hx hxl
    exact ⟨y, hy, hid'.trans hid, hyl⟩

/-! ### The call list -/

theorem sweepCalls_list (s : State) : s.sweepCalls.calls.list
    = (s.calls.list.filter fun e => !(!e.isLocal && !e.heard)).map fun e => if e.isLocal then e else { e with heard := false } := rfl

theorem sweepCalls_remote (s : State) {x : CallEntry} (hx : x.isLocal = false) : x ∈ s.sweepCalls.calls.list
    ↔ ∃ e ∈ s.calls.list, e.isLocal = false ∧ e.heard = true ∧ x = { e with heard := false } := by
  rw [sweepCalls_list, List.mem_map]
  constructor
  · rintro ⟨e, he, rfl⟩
    rw [List.mem_filter] at he
    obtain ⟨hmem, hkeep⟩ := he
    cases hl : e.isLocal with
    | true => simp [hl] at hx
    | false =>
      refine ⟨e, hmem, hl, ?_, by simp [hl]⟩
      simpa [hl] using hkeep
  · rintro ⟨e, hmem, hl, hh, rfl⟩
    exact ⟨e, List.mem_filter.mpr ⟨hmem, by simp [hh]⟩, by simp [hl]⟩

theorem sweepCalls_local (s : State) {e : CallEntry} (he : e ∈ s.calls.list) (hl : e.isLocal = true) : e ∈ s.sweepCalls.calls.list := by
  rw [sweepCalls_list, List.mem_map]
  exact ⟨e, List.mem_filter.mpr ⟨he, by simp [hl]⟩, by simp [hl]⟩

/-! ### The roster -/

theorem sweepRoster_roster (s : State) :
    s.sweepRoster.table = { s.table with roster := (s.table.roster.filter Member.mark).map fun m => { m with mark := false } } := by
  unfold State.sweepRoster
  dsimp only
  split <;> simp [State.setRoster]

theorem any_mark (l : List Member) : (!((l.filter Member.mark).map fun m : Member => { m with mark := false }).isEmpty) = l.any Member.mark := by
  rw [Bool.eq_iff_iff]
  simp [List.filter_eq_nil_iff]

/-- Settles O35: the roster is swept first, then the call list; the flag follows the roster. -/
theorem sweepForgetsTheUnconfirmed : Obligations.SweepForgetsTheUnconfirmed := by
  refine ⟨fun s hl hm he hc => ?_, fun s hm => ⟨s, congrArg Host.Outcome.next (State.onExpiry_idle s .t17 true _ (.inr hm)), rfl⟩⟩
  obtain ⟨ch, -, hact⟩ := State.onExpiry_acts s .t17 true (fun t => t.sweepRoster.sweepCalls) hl rfl hm
  obtain ⟨u, hu⟩ : ∃ u, u = s.setChannel .t17 ch := ⟨_, rfl⟩
  rw [← hu] at hact
  have hcalls : u.calls = s.calls := by rw [hu]; rfl
  have hL : LocalsMoved s u.sweepRoster := (localsMoved_kept s).sweepRoster u ((localsMoved_kept s).same (.refl hc) hcalls (by rw [hu]; rfl))
  have hS : ∀ p, (u.sweepRoster.point p).state = (s.point p).state := (states_kept fun p => (s.point p).state).sweepRoster u fun p => by rw [hu]; rfl
  have hE : u.sweepRoster.EvacuationSound := Evacuation.sweepRoster_sound u (by rw [hu]; exact he)
  have hR := sweepRoster_roster u
  refine ⟨_, congrArg Host.Outcome.next hact, ?_, fun x hx => ?_, fun e hm' hloc => ?_, ?_, by simp [hu], fun p => ?_, by simp [hu],
    by simp [hu], by simp [hu], by simp [hu], start_eq (by simp [hu]), by simp [hu], by simp [hu], by simp [hu]⟩
  · have htable : u.table = s.table := by simp [hu]
    simp only [State.sweepCalls_keeps, hR, htable]
  · rw [sweepCalls_remote _ hx]
    constructor
    · rintro ⟨e, hmem, hloc, hheard⟩
      exact ⟨e, (hL.remote e hloc).mp hmem, hloc, hheard⟩
    · rintro ⟨e, hmem, hloc, hheard⟩
      exact ⟨e, (hL.remote e hloc).mpr hmem, hloc, hheard⟩
  · obtain ⟨x, hx, hid, hxl⟩ := hL.locals e hm' hloc
    exact ⟨x, sweepCalls_local _ hx hxl, hid, hxl⟩
  · have hevac : u.sweepRoster.fire.evac = u.sweepRoster.evacDue := hE
    have hroster : u.table.roster = s.table.roster := by simp [hu]
    simp only [State.sweepCalls_keeps, hevac, State.evacDue, hR, any_mark, hroster]
    simp [hu]
  · exact hS p

end Sys2Proof.Proofs.Sweep
end

section
/-! The loops and the fire state (R17 to R28, R33 to R35). -/

namespace Sys2Proof.Proofs.FireEvents

open Sys2Proof Sys2Proof.Machine Sys2Proof.Proofs.PartFrames Sys2Proof.Proofs.Steps Sys2Proof.Proofs.ResetUnit
open Sys2Proof.Proofs.SceneStack Sys2Proof.Proofs.DoorDrive Sys2Proof.Proofs.DoorRules Sys2Proof.Proofs.StatusMark
open Sys2Proof.Proofs.CallEvents Sys2Proof.Proofs.StartFrame Sys2Proof.Proofs.DoorTimers Sys2Proof.Proofs.BuzzerPatterns

/-! ### The evacuation flag and the channels -/

theorem release_channel {s : State} {c : Chan} (h : ∀ d : Fin 4, c ≠ .door d) : s.release.channel c = s.channel c := by
  unfold State.release
  split
  · rfl
  · rw [channel_congr (State.refreshLights_keeps _).2.2.1 c]
    exact resolves_channel h _ _

theorem flagDelivered_channel {s : State} {c : Chan} (h : ∀ d : Fin 4, c ≠ .door d) : (flagDelivered s).channel c = s.channel c := by
  refine deliver_keeps (·.channel c) (fun _ _ => rfl) _ (fun f hf t => ?_) (flagSet s)
  simp only [List.mem_cons, List.not_mem_nil, or_false] at hf
  rcases hf with rfl | rfl | rfl
  · exact resolveAll_channel h
  · exact channel_congr (by simp) c
  · unfold releaseInEvac
    split
    · exact release_channel h
    · rfl

/-- R34, R166: the flag reaches the doors' channels and the refresh channel. -/
theorem recomputeEvac_channel {s : State} {c : Chan} (h : ∀ d : Fin 4, c ≠ .door d) (hr : c ≠ .t15) :
    s.recomputeEvac.channel c = s.channel c := by
  by_cases hd : s.evacDue = s.fire.evac
  · rw [recomputeEvac_same hd]
  · have hscene : (evacScene (flagDelivered s) s.evacDue).markStatus.channel c = s.channel c :=
      (channel_congr (s := flagDelivered s) (by simp) c).trans (flagDelivered_channel h)
    rw [recomputeEvac_changed hd]
    unfold statusTold
    split
    · exact (State.startTimer_other _ _ _ _ _ _ _ (Ne.symm hr)).trans hscene
    · exact hscene

theorem mem_pushed_self (depth : Nat) (sc : Scene) (above : List Scene) : sc ∈ pushed depth sc above := by
  unfold pushed
  (repeat' split) <;> (rw [mem_placeScene]; exact .inl rfl)

/-- R34: a flag that rises ends any freeze and pushes EVACUATE. -/
theorem recomputeEvac_rising {s : State} (hd : s.evacDue = true) (he : s.fire.evac = false) :
    s.recomputeEvac.start.freeze = false ∧ Scene.evacuate ∈ s.recomputeEvac.light.above := by
  have hne : s.evacDue ≠ s.fire.evac := by simp [hd, he]
  rw [recomputeEvac_changed hne, hd]
  refine ⟨?_, ?_⟩
  · simpa using flagDelivered_calm s (by simp [hd])
  · simp [mem_pushed_self]

theorem recomputeEvac_silenced {s : State} (h : s.fire.silenced = false) : s.recomputeEvac.fire.silenced = false := by
  by_cases hd : s.evacDue = s.fire.evac
  · rwa [recomputeEvac_same hd]
  · rw [recomputeEvac_changed hd]
    simp [flagSet, h]

/-! ### FIRE is entered (R24) -/

/-- The verification ended and the sounder heard again, before FIRE is entered. -/
def verificationEnded (s : State) : State := s.endVerification.setSounderSilenced false

theorem enterFire_eq {s : State} (h : s.fire.state ≠ .fire) : s.enterFire = (fireStateSet (verificationEnded s) .fire).recomputeEvac := by
  have hs : (verificationEnded s).fire.state ≠ .fire := by simpa [verificationEnded] using h
  rcases setFireState_cases (verificationEnded s) .fire with ⟨hf, -⟩ | ⟨-, hf, -⟩ | ⟨-, -, he⟩
  · exact absurd hf hs
  · exact absurd rfl hf
  · exact (if_neg h).trans he

theorem verificationEnded_channel (s : State) (c : Chan) : (verificationEnded s).channel c
    = if c = .t0 ∨ c = .pair then (s.channel c).stop else s.channel c := by
  have heq : (verificationEnded s).channel c = ((s.stopTimer .t0).stopTimer .pair).channel c :=
    channel_congr (by simp [verificationEnded, State.endVerification]) c
  rw [heq]
  simp only [State.stopTimer_channel]
  by_cases h1 : c = .pair
  · subst h1; simp
  · by_cases h2 : c = .t0
    · subst h2; simp
    · simp [h1, h2, Ne.symm h1, Ne.symm h2]

@[simp] theorem fireStateSet_rest (s : State) (f : FireState) : (fireStateSet s f).clock = s.clock ∧ (fireStateSet s f).pins = s.pins
    ∧ (fireStateSet s f).keys = s.keys ∧ (fireStateSet s f).raised = s.raised ∧ (fireStateSet s f).order = s.order
    ∧ (fireStateSet s f).pending = s.pending := ⟨rfl, rfl, rfl, rfl, rfl, rfl⟩

theorem fireStateSet_channel (s : State) (f : FireState) (c : Chan) : (fireStateSet s f).channel c = s.channel c := rfl

/-- R24: everything that the entry into FIRE leaves. -/
theorem enterFire_enters {s : State} (h : s.fire.state ≠ .fire) : EntersFire s s.enterFire := by
  have hstop : ∀ c, c = .t0 ∨ c = .pair → (s.enterFire.channel c).running = false ∧ (s.enterFire.channel c).waiting = [] := fun c hc => by
    rw [enterFire_eq h, recomputeEvac_channel (by rcases hc with rfl | rfl <;> simp) (by rcases hc with rfl | rfl <;> simp),
      fireStateSet_channel, verificationEnded_channel, if_pos hc]
    exact ⟨rfl, rfl⟩
  have hmark := enterFire_marks h
  have hverify : s.enterFire.buzzer.verify = none := by
    rw [enterFire_eq h]
    simp [verificationEnded, State.endVerification, State.syncBuzzer]
  obtain ⟨hr0, hw0⟩ := hstop .t0 (.inl rfl)
  obtain ⟨hr1, hw1⟩ := hstop .pair (.inr rfl)
  have hdue : (fireStateSet (verificationEnded s) .fire).evacDue = true := by simp [State.evacDue]
  refine ⟨?_, ?_, ?_, ?_, ?_, hr0, hw0, hr1, hw1, hverify, hmark, fun he => ?_⟩
  all_goals rw [enterFire_eq h]
  · simp
  · simp [verificationEnded]
  · simp [verificationEnded]
  · simp [hdue]
  · exact recomputeEvac_silenced (by simp [verificationEnded])
  · exact recomputeEvac_rising hdue (by simpa [verificationEnded] using he)

end Sys2Proof.Proofs.FireEvents
end

section
/-! The changes of a loop's band (R18 to R28). -/

namespace Sys2Proof.Proofs.LoopEvents

open Sys2Proof Sys2Proof.Machine Sys2Proof.Proofs.PartFrames Sys2Proof.Proofs.Steps Sys2Proof.Proofs.ResetUnit
open Sys2Proof.Proofs.FireEvents Sys2Proof.Proofs.StatusMark Sys2Proof.Proofs.CallEvents Sys2Proof.Proofs.StartFrame
open Sys2Proof.Proofs.DoorTimers Sys2Proof.Proofs.BuzzerPatterns

/-! ### A band taken -/

/-- A loop's line as its current reads. -/
def loopLine (s : State) (l : Fin 6) (a : Nat) : State := { s with pins := { s.pins with loops := s.pins.loops.set l a } }

@[simp] theorem loopLine_keeps (s : State) (l : Fin 6) (a : Nat) : (loopLine s l a).clock = s.clock
    ∧ (loopLine s l a).pins = { s.pins with loops := s.pins.loops.set l a } ∧ (loopLine s l a).timers = s.timers
    ∧ (loopLine s l a).modes = s.modes ∧ (loopLine s l a).fire = s.fire ∧ (loopLine s l a).watch = s.watch
    ∧ (loopLine s l a).doors = s.doors ∧ (loopLine s l a).calls = s.calls ∧ (loopLine s l a).table = s.table
    ∧ (loopLine s l a).egress = s.egress ∧ (loopLine s l a).light = s.light ∧ (loopLine s l a).link = s.link
    ∧ (loopLine s l a).start = s.start ∧ (loopLine s l a).troubles = s.troubles ∧ (loopLine s l a).buzzer = s.buzzer
    ∧ (loopLine s l a).keys = s.keys ∧ (loopLine s l a).raised = s.raised ∧ (loopLine s l a).order = s.order
    ∧ (loopLine s l a).pending = s.pending :=
  ⟨rfl, rfl, rfl, rfl, rfl, rfl, rfl, rfl, rfl, rfl, rfl, rfl, rfl, rfl, rfl, rfl, rfl, rfl, rfl⟩

/-- R18, R19: the record of a loop with its new band, and its trouble. -/
def loopTaken (s : State) (l : Fin 6) (new : LoopBand) : State :=
  (s.setLoop l { s.fire.loops[l] with band := new, filter := Filter.clear }).loopTrouble l s.fire.loops[l].band new

@[simp] theorem loopTaken_keeps (s : State) (l : Fin 6) (new : LoopBand) : (loopTaken s l new).clock = s.clock
    ∧ (loopTaken s l new).pins = s.pins ∧ (loopTaken s l new).timers = s.timers ∧ (loopTaken s l new).modes = s.modes
    ∧ (loopTaken s l new).fire
        = { s.fire with loops := s.fire.loops.set l { s.fire.loops[l] with band := new, filter := Filter.clear } }
    ∧ (loopTaken s l new).watch = s.watch ∧ (loopTaken s l new).doors = s.doors ∧ (loopTaken s l new).calls = s.calls
    ∧ (loopTaken s l new).table = s.table ∧ (loopTaken s l new).egress = s.egress ∧ (loopTaken s l new).light = s.light
    ∧ (loopTaken s l new).start = s.start ∧ (loopTaken s l new).keys = s.keys ∧ (loopTaken s l new).raised = s.raised
    ∧ (loopTaken s l new).order = s.order ∧ (loopTaken s l new).pending = s.pending := by
  simp [loopTaken, State.setLoop]

theorem loopTaken_link (s : State) (l : Fin 6) (new : LoopBand) :
    (loopTaken s l new).link = { s.link with status := (loopTaken s l new).link.status } := by
  unfold loopTaken State.loopTrouble
  split
  · split
    · rfl
    · rw [(State.enterTrouble_link _ _).1]
      rfl
  · split
    · exact (State.removeTroubles_link _ _).1
    · rfl

theorem outOfService_iff (b : LoopBand) : b.outOfService = true ↔ b = .openLoop ∨ b = .short := by
  cases b <;> simp [LoopBand.outOfService]

/-- R19: LOOP stands for a band out of service, and no other trouble changes. -/
theorem loopTaken_troubles (s : State) (l : Fin 6) (new : LoopBand) :
    ((Trouble.loop l ∈ s.troubles.record ↔ s.fire.loops[l].band.outOfService = true) →
      (Trouble.loop l ∈ (loopTaken s l new).troubles.record ↔ new.outOfService = true))
    ∧ ∀ k : Fin 6, k ≠ l → (Trouble.loop k ∈ (loopTaken s l new).troubles.record ↔ Trouble.loop k ∈ s.troubles.record) := by
  have hset : ∀ r, (s.setLoop l r).troubles = s.troubles := fun _ => rfl
  unfold loopTaken State.loopTrouble
  cases hn : new.outOfService <;> cases ho : s.fire.loops[l].band.outOfService
  all_goals simp only [Bool.false_eq_true, if_true, if_false, hset, State.mem_enterTrouble, State.mem_removeTrouble]
  · simp
  · simp +contextual
  · simp +contextual
  · simp

theorem bandTaken_alarm (s : State) (l : Fin 6) : s.bandTaken l .alarm = (loopTaken s l .alarm).loopAlarm l := rfl

theorem bandTaken_other {s : State} {l : Fin 6} {new : LoopBand} (h : new ≠ .alarm) : s.bandTaken l new
    = if s.fire.loops[l].kind = .smoke ∧ (s.fire.state = .clear ∨ s.fire.state = .prealarm)
      then (loopTaken s l new).setFireState (loopTaken s l new).unlatchedFire else loopTaken s l new :=
  if_neg h

theorem bandChange_takes {s : State} {l : Fin 6} {a : Nat} (hh : s.hearing = true) (hk : s.fire.loops[l].kind ≠ .unused)
    (hb : readByKind s.fire.loops[l].kind (loopBandOf a) ≠ s.fire.loops[l].band) :
    exec (.bandChange l a) s = .next ((loopLine s l a).bandTaken l (readByKind s.fire.loops[l].kind (loopBandOf a))) :=
  congrArg Host.Outcome.next ((if_pos hh).trans ((if_neg hk).trans (if_neg (Ne.symm hb))))

theorem loopBandOf_alarm {a : Nat} (h1 : 20000 ≤ a) (h2 : a < 40000) : loopBandOf a = .alarm := by
  unfold loopBandOf
  rw [if_neg (by omega), if_neg (by omega), if_neg (by omega), if_pos h2]

theorem bandChange_alarm {s : State} {l : Fin 6} {a : Nat} (hh : s.hearing = true) (hk : s.fire.loops[l].kind ≠ .unused)
    (h1 : 20000 ≤ a) (h2 : a < 40000) (hb : s.fire.loops[l].band ≠ .alarm) :
    exec (.bandChange l a) s = .next ((loopTaken (loopLine s l a) l .alarm).loopAlarm l) := by
  have hread : readByKind s.fire.loops[l].kind (loopBandOf a) = .alarm := by
    rw [loopBandOf_alarm h1 h2]
    cases s.fire.loops[l].kind <;> rfl
  have h := bandChange_takes (a := a) hh hk (by rw [hread]; exact Ne.symm hb)
  rw [hread] at h
  exact h

/-! ### VERIFY and the unlatched states -/

theorem loopAlarm_verifies {s : State} {l : Fin 6} (hs : s.fire.state = .clear ∨ s.fire.state = .prealarm)
    (hk : s.fire.loops[l].kind = .smoke) (ht : s.smokeTrusted l = false) : s.loopAlarm l = s.enterVerify l := by
  unfold State.loopAlarm
  rcases hs with h | h <;> rw [h] <;> exact if_pos ⟨hk, ht⟩

theorem loopAlarm_enters {s : State} {l : Fin 6} (hs : s.fire.state = .clear ∨ s.fire.state = .prealarm)
    (h : s.fire.loops[l].kind ≠ .smoke ∨ s.smokeTrusted l = true) : s.loopAlarm l = s.enterFire := by
  have hn : ¬ (s.fire.loops[l].kind = .smoke ∧ s.smokeTrusted l = false) := by
    rintro ⟨hk, ht⟩
    rcases h with h | h
    · exact h hk
    · rw [ht] at h; cases h
  unfold State.loopAlarm
  rcases hs with h | h <;> rw [h] <;> exact if_neg hn

theorem loopAlarm_second {s : State} {l : Fin 6} (hs : s.fire.state = .verify) (h : s.fire.firstLoop ≠ some l) :
    s.loopAlarm l = s.enterFire := by
  unfold State.loopAlarm
  rw [hs]
  exact if_neg h

theorem loopAlarm_stays {s : State} {l : Fin 6} (h : (s.fire.state = .verify ∧ s.fire.firstLoop = some l) ∨ s.fire.state = .fire) :
    s.loopAlarm l = s := by
  unfold State.loopAlarm
  rcases h with ⟨hs, hf⟩ | hs
  · rw [hs]
    exact if_pos hf
  · rw [hs]

/-- R23: everything that the entry into VERIFY changes. -/
theorem enterVerify_spec {s : State} (l : Fin 6) (hs : s.fire.state = .clear ∨ s.fire.state = .prealarm)
    (hp : s.start.phase ≠ .configRead) :
    (s.enterVerify l).fire = { s.fire with state := .verify, phase := .ackWindow, firstLoop := some l }
    ∧ (∀ c, (s.enterVerify l).channel c = if .t0 = c then Channel.fresh s.cfg.ackWindow .s1 .oneShot 0 else s.channel c)
    ∧ (s.enterVerify l).buzzer.verify.isSome = true
    ∧ (s.enterVerify l).link = { s.link with status := true }
    ∧ s.enterVerify l = { s with
        fire := (s.enterVerify l).fire, timers := (s.enterVerify l).timers, buzzer := (s.enterVerify l).buzzer
        link := (s.enterVerify l).link } := by
  obtain ⟨u, hu⟩ : ∃ u : State, u = { s with fire := { s.fire with phase := .ackWindow, firstLoop := some l } } := ⟨_, rfl⟩
  obtain ⟨w, hw⟩ : ∃ w : State, w = (u.startTimer .t0 s.cfg.ackWindow .s1 .oneShot 0).syncBuzzer := ⟨_, rfl⟩
  have hwstate : w.fire.state ≠ .fire ∧ w.fire.state ≠ .verify := by
    have : w.fire.state = s.fire.state := by simp [hw, hu]
    rw [this]
    rcases hs with h | h <;> rw [h] <;> exact ⟨by decide, by decide⟩
  have heq : s.enterVerify l = fireStateSet w .verify := by
    have hdef : s.enterVerify l = w.setFireState .verify := by rw [hw, hu]; rfl
    rw [hdef]
    rcases setFireState_cases w .verify with ⟨h, -⟩ | ⟨-, -, -, he⟩ | ⟨-, h, -⟩
    · exact absurd h hwstate.2
    · exact he
    · exact absurd (h.resolve_left (by decide)) hwstate.1
  have hsound : w.BuzzerSound := by rw [hw]; exact syncBuzzer_sound _
  rw [heq]
  refine ⟨by simp [hw, hu], fun c => ?_, ?_, by simp [hw, hu], state_eq (by simp [hw, hu])⟩
  · have hchan := State.startTimer_channel u .t0 c s.cfg.ackWindow .s1 .oneShot 0 (by simpa [hu] using hp)
    rw [fireStateSet_channel, hw]
    exact hchan.trans (by rw [hu]; rfl)
  · have : w.fire.phase = .ackWindow := by simp [hw, hu]
    simpa using hsound.1.mpr this

theorem smokePrealarm_iff (s : State) : s.smokePrealarm = true ↔ ∃ k : Fin 6, s.fire.loops[k].kind = .smoke ∧ s.fire.loops[k].band = .prealarm := by
  unfold State.smokePrealarm
  rw [List.any_eq_true]
  constructor
  · rintro ⟨r, hr, hc⟩
    obtain ⟨i, hi, rfl⟩ := Vector.mem_iff_getElem.mp (Vector.mem_toList_iff.mp hr)
    exact ⟨⟨i, hi⟩, by simpa using hc⟩
  · rintro ⟨k, hk, hb⟩
    exact ⟨s.fire.loops[k], Vector.mem_toList_iff.mpr (Vector.getElem_mem k.2), by simpa using ⟨hk, hb⟩⟩

theorem unlatchedFire_eq (s : State) : s.unlatchedFire = if ∃ k : Fin 6, s.fire.loops[k].kind = .smoke ∧ s.fire.loops[k].band = .prealarm
    then .prealarm else .clear := by
  unfold State.unlatchedFire
  split
  next h => rw [if_pos ((smokePrealarm_iff s).mp h)]
  next h => rw [if_neg fun hk => h ((smokePrealarm_iff s).mpr hk)]

theorem unlatchedFire_ne_fire (s : State) : s.unlatchedFire ≠ .fire := by
  unfold State.unlatchedFire
  split <;> decide

/-- R21: everything that a change between CLEAR and PREALARM changes. -/
theorem setFireState_unlatched {s : State} (hs : s.fire.state ≠ .fire) :
    (s.setFireState s.unlatchedFire).fire = { s.fire with state := s.unlatchedFire }
    ∧ s.setFireState s.unlatchedFire = { s with
        fire := (s.setFireState s.unlatchedFire).fire, link := { s.link with status := (s.setFireState s.unlatchedFire).link.status } } := by
  rcases setFireState_cases s s.unlatchedFire with ⟨h, he⟩ | ⟨-, -, -, he⟩ | ⟨-, h, -⟩
  · rw [he]
    exact ⟨by rw [← h], rfl⟩
  · rw [he]
    exact ⟨by simp, rfl⟩
  · exact absurd (h.resolve_left (unlatchedFire_ne_fire s)) hs

/-- Settles O18, by the band and the fire state that it finds. -/
theorem loopBandsSetTheFireStateAndVerify : Obligations.LoopBandsSetTheFireStateAndVerify := by
  refine ⟨fun s l a hh hk h1 h2 hb hs hm hothers hcorr => ?_, fun s l a hh hk hne hb => ?_, fun s l a hh hk hb => ?_, fun s l a h => ?_⟩
  · have hact := bandChange_alarm (s := s) hh (by rw [hk]; decide) h1 h2 hb
    obtain ⟨u, hu⟩ : ∃ u, u = loopTaken (loopLine s l a) l .alarm := ⟨_, rfl⟩
    rw [← hu] at hact
    have hloops : u.fire = { s.fire with loops := s.fire.loops.set l { s.fire.loops[l] with band := .alarm, filter := Filter.clear } } := by
      simp [hu]
    have hlink : u.link = { s.link with status := u.link.status } := by rw [hu]; exact loopTaken_link (loopLine s l a) l .alarm
    have htrusted : u.smokeTrusted l = false := by
      have hother : u.otherLoopInAlarm l = false := by
        unfold State.otherLoopInAlarm
        rw [List.any_eq_false]
        intro k _
        by_cases hkl : k = l
        · simp [hkl]
        · simpa [hloops, hkl, Fin.val_ne_of_ne (Ne.symm hkl)] using hothers k hkl
      have hc : u.corroborated = s.corroborated := by simp [State.corroborated, hu]
      have hmode : u.modes = s.modes := by simp [hu]
      simp [State.smokeTrusted, hother, hc, hcorr, hmode, hm]
    have halarm := loopAlarm_verifies (s := u) (l := l) (by simpa [hloops] using hs) (by simpa [hloops] using hk) htrusted
    rw [halarm] at hact
    obtain ⟨hfire, hchan, hverify, hmark, hrest⟩ := enterVerify_spec (s := u) l (by simpa [hloops] using hs)
      (by simpa [hu] using phase_of_hearing hh)
    have hcfg : u.cfg = s.cfg := by simp [State.cfg, hu]
    have htim : ∀ c, u.channel c = s.channel c := channel_congr (by simp [hu])
    refine ⟨_, hact, ?_, ?_, fun k hkl => ?_, ?_, fun c _ hc => ?_, hverify, ?_, ?_⟩
    · rw [hfire, hloops]
    · rw [hfire, hloops]
      simp
    · rw [hfire, hloops]
      simp [Fin.val_ne_of_ne (Ne.symm hkl)]
    · rw [hchan, if_pos rfl, hcfg]
    · rw [hchan, if_neg (Ne.symm hc), htim]
    · rw [hmark, hlink]
    · rw [hrest]
      exact state_eq (by simp [hu])
  · have hact := bandChange_takes (a := a) hh hk hb
    obtain ⟨b, hbdef⟩ : ∃ b, b = readByKind s.fire.loops[l].kind (loopBandOf a) := ⟨_, rfl⟩
    have hbne : b ≠ .alarm := by
      rw [hbdef]
      revert hne
      cases s.fire.loops[l].kind <;> cases loopBandOf a <;> simp [readByKind]
    rw [← hbdef] at hact ⊢
    rw [bandTaken_other hbne] at hact
    obtain ⟨htr, hothers⟩ := loopTaken_troubles (loopLine s l a) l b
    have hlink := loopTaken_link (loopLine s l a) l b
    obtain ⟨u, hu⟩ : ∃ u, u = loopTaken (loopLine s l a) l b := ⟨_, rfl⟩
    rw [← hu] at hact htr hothers hlink
    have hloops : u.fire = { s.fire with loops := s.fire.loops.set l { s.fire.loops[l] with band := b, filter := Filter.clear } } := by
      simp [hu]
    have hun : u.unlatchedFire = if ∃ k : Fin 6, u.fire.loops[k].kind = .smoke ∧ u.fire.loops[k].band = .prealarm then .prealarm else .clear :=
      unlatchedFire_eq u
    have hiff : ∀ t : State, t.fire.loops = u.fire.loops → t.troubles = u.troubles →
        ((Trouble.loop l ∈ s.troubles.record ↔ s.fire.loops[l].band = .openLoop ∨ s.fire.loops[l].band = .short) →
          (Trouble.loop l ∈ t.troubles.record ↔ t.fire.loops[l].band = .openLoop ∨ t.fire.loops[l].band = .short))
        ∧ ∀ k : Fin 6, k ≠ l → (Trouble.loop k ∈ t.troubles.record ↔ Trouble.loop k ∈ s.troubles.record) := fun t hl ht => by
      rw [hl, ht, hloops]
      refine ⟨fun h => ?_, hothers⟩
      rw [htr (h.trans (outOfService_iff _).symm), outOfService_iff]
      simp
    by_cases hc : s.fire.loops[l].kind = .smoke ∧ (s.fire.state = .clear ∨ s.fire.state = .prealarm)
    · have hnf : u.fire.state ≠ .fire := by
        rw [hloops]
        rcases hc.2 with h | h <;> simp [h]
      obtain ⟨hfire, hrest⟩ := setFireState_unlatched hnf
      obtain ⟨hin, hout⟩ := hiff (u.setFireState u.unlatchedFire) (by simp) (by simp)
      refine ⟨u.setFireState u.unlatchedFire, hact.trans (congrArg Host.Outcome.next (if_pos hc)), ?_, ?_, fun hch => ?_, hin, hout, ?_⟩
      · rw [hfire, hloops]
      · rw [if_pos hc, hfire]
        exact hun
      · refine setFireState_marks fun he => hch ?_
        rw [hfire]
        exact he.symm.trans (by rw [hloops])
      · rw [hrest]
        exact state_eq (by simp [hu])
    · obtain ⟨hin, hout⟩ := hiff u rfl rfl
      refine ⟨u, hact.trans (congrArg Host.Outcome.next (if_neg hc)), hloops.trans (by simp [hloops]), ?_, fun hch => ?_, hin, hout, ?_⟩
      · rw [if_neg hc, hloops]
      · exact absurd (by rw [hloops]) hch
      · exact state_eq (by simp [hu])
  · exact ⟨_, congrArg Host.Outcome.next ((if_pos hh).trans ((if_neg hk).trans (if_pos hb.symm))), rfl, rfl⟩
  · rcases h with h | h
    · exact ⟨_, congrArg Host.Outcome.next (if_neg (by simp [h])), rfl⟩
    · refine ⟨_, congrArg Host.Outcome.next (a₂ := loopLine s l a) ?_, rfl⟩
      split
      · exact if_pos h
      · rfl

end Sys2Proof.Proofs.LoopEvents
end

section
/-! The ways into FIRE (R22, R24, R25, R28). -/

namespace Sys2Proof.Proofs.FireDeclared

open Sys2Proof Sys2Proof.Machine Sys2Proof.Proofs.PartFrames Sys2Proof.Proofs.Steps Sys2Proof.Proofs.ResetUnit
open Sys2Proof.Proofs.FireEvents Sys2Proof.Proofs.LoopEvents Sys2Proof.Proofs.StartFrame Sys2Proof.Proofs.BuzzerPatterns

/-- What every way into FIRE leaves, from a state that differs in the loop's line and record alone. -/
theorem enterFire_declares {s u : State} (h : u.fire.state ≠ .fire) (he : u.fire.evac = s.fire.evac)
    (hu : u = { s with pins := u.pins, fire := u.fire, timers := u.timers, troubles := u.troubles, buzzer := u.buzzer, link := u.link }) :
    EntersFire s u.enterFire
    ∧ u.enterFire = { s with
        pins := u.enterFire.pins, fire := u.enterFire.fire, timers := u.enterFire.timers, doors := u.enterFire.doors
        calls := u.enterFire.calls, egress := u.enterFire.egress, light := u.enterFire.light, link := u.enterFire.link
        start := { s.start with freeze := u.enterFire.start.freeze }, troubles := u.enterFire.troubles
        buzzer := u.enterFire.buzzer, order := u.enterFire.order } := by
  refine ⟨?_, ?_⟩
  · have hf := enterFire_enters h
    unfold EntersFire at hf ⊢
    rw [← he]
    exact hf
  · have hstart := start_eq (s := u) (t := u.enterFire) (by simp)
    have hs : u.start = s.start := by rw [hu]
    rw [hs] at hstart
    refine state_eq ?_
    rw [← hstart]
    simp [congrArg State.clock hu, congrArg State.modes hu, congrArg State.watch hu, congrArg State.table hu, congrArg State.keys hu,
      congrArg State.raised hu, congrArg State.pending hu]

theorem loopTaken_differs (s : State) (l : Fin 6) (a : Nat) (b : LoopBand) : loopTaken (loopLine s l a) l b
    = { s with
        pins := (loopTaken (loopLine s l a) l b).pins, fire := (loopTaken (loopLine s l a) l b).fire
        timers := (loopTaken (loopLine s l a) l b).timers, troubles := (loopTaken (loopLine s l a) l b).troubles
        buzzer := (loopTaken (loopLine s l a) l b).buzzer, link := (loopTaken (loopLine s l a) l b).link } :=
  state_eq (by simp)

/-- R184 to R186: everything that the removal of a trouble changes. -/
theorem removeTrouble_spec (s : State) (x : Trouble) :
    (s.removeTrouble x).troubles = { s.troubles with record := s.troubles.record.filter (fun y => y ≠ x) }
    ∧ (s.removeTrouble x).link = { s.link with
        status := s.link.status || (!s.troubles.record.isEmpty && (s.removeTrouble x).troubles.record.isEmpty) }
    ∧ (s.removeTrouble x).buzzer = { s.buzzer with
        verify := (s.removeTrouble x).buzzer.verify, trouble := (s.removeTrouble x).buzzer.trouble } := by
  have hfilter : (fun y : Trouble => !(y == x)) = fun y => decide (y ≠ x) := by
    funext y
    by_cases h : y = x <;> simp [h]
  have hleft := hfilter ▸ State.removeTroubles_record s fun y => y == x
  have hrec : (s.removeTrouble x).troubles = { s.troubles with record := s.troubles.record.filter fun y => decide (y ≠ x) } := by
    rw [← hleft]
    unfold State.removeTrouble State.removeTroubles
    dsimp only
    split <;> rfl
  rw [hrec]
  refine ⟨rfl, ?_, ?_⟩
  · unfold State.removeTrouble State.removeTroubles
    dsimp only
    rw [hfilter]
    split
    next h =>
      obtain ⟨hrecord, hgone⟩ := h
      rw [hgone]
      simp [hrecord, State.syncBuzzer]
    next h =>
      have hb : (!s.troubles.record.isEmpty && (s.troubles.record.filter fun y => decide (y ≠ x)).isEmpty) = false := by
        rw [Bool.eq_false_iff]
        intro hh
        simp only [Bool.and_eq_true, Bool.not_eq_true', List.isEmpty_iff, List.isEmpty_eq_false_iff] at hh
        exact h hh
      rw [hb]
      simp
  · unfold State.removeTrouble State.removeTroubles
    dsimp only
    split <;> rfl

/-- R19: what the ALARM of a loop does to its trouble. -/
theorem loopTaken_alarm (s : State) (l : Fin 6) :
    (s.fire.loops[l].band ≠ .openLoop → s.fire.loops[l].band ≠ .short → loopTaken s l .alarm = { s with fire := (loopTaken s l .alarm).fire })
    ∧ (loopTaken s l .alarm).troubles = { s.troubles with
        record := if s.fire.loops[l].band = .openLoop ∨ s.fire.loops[l].band = .short
          then s.troubles.record.filter (fun x => x ≠ .loop l) else s.troubles.record }
    ∧ (loopTaken s l .alarm).link = { s.link with
        status := s.link.status || (!s.troubles.record.isEmpty && (loopTaken s l .alarm).troubles.record.isEmpty) }
    ∧ (loopTaken s l .alarm).buzzer = { s.buzzer with
        verify := (loopTaken s l .alarm).buzzer.verify, trouble := (loopTaken s l .alarm).buzzer.trouble }
    ∧ (s.BuzzerSound → (loopTaken s l .alarm).BuzzerSound) := by
  by_cases hb : s.fire.loops[l].band = .openLoop ∨ s.fire.loops[l].band = .short
  · have heq : loopTaken s l .alarm = (s.setLoop l { s.fire.loops[l] with band := .alarm, filter := Filter.clear }).removeTrouble (.loop l) := by
      unfold loopTaken State.loopTrouble
      rw [if_neg (by decide), if_pos ((outOfService_iff _).mpr hb)]
    rw [heq, if_pos hb]
    obtain ⟨htroubles, hlink, hbuzzer⟩ := removeTrouble_spec (s.setLoop l { s.fire.loops[l] with band := .alarm, filter := Filter.clear }) (.loop l)
    exact ⟨fun h1 h2 => absurd hb (not_or.mpr ⟨h1, h2⟩), htroubles, hlink, hbuzzer, fun _ => removeTrouble_sound _ _⟩
  · have heq : loopTaken s l .alarm = s.setLoop l { s.fire.loops[l] with band := .alarm, filter := Filter.clear } := by
      unfold loopTaken State.loopTrouble
      rw [if_neg (by decide), if_neg (fun h => hb ((outOfService_iff _).mp h))]
    rw [heq, if_neg hb]
    refine ⟨fun _ _ => rfl, rfl, ?_, rfl, fun h => same' h rfl rfl rfl⟩
    show s.link = { s.link with status := s.link.status || (!s.troubles.record.isEmpty && s.troubles.record.isEmpty) }
    simp

/-- Settles O19, by the way into FIRE. -/
theorem fireIsDeclared : Obligations.FireIsDeclared := by
  have hdecl : ∀ (s : State) (l : Fin 6) (a : Nat), s.fire.state ≠ .fire →
      (loopTaken (loopLine s l a) l .alarm).fire.state ≠ .fire ∧ (loopTaken (loopLine s l a) l .alarm).fire.evac = s.fire.evac :=
    fun s l a h => ⟨by simpa using h, by simp⟩
  have hexp : ∀ (s : State) (c : Chan) (ch : Channel), s.setChannel c ch = { s with
      pins := (s.setChannel c ch).pins, fire := (s.setChannel c ch).fire, timers := (s.setChannel c ch).timers
      troubles := (s.setChannel c ch).troubles, buzzer := (s.setChannel c ch).buzzer, link := (s.setChannel c ch).link } :=
    fun s c ch => rfl
  refine ⟨fun s l a hh hk h1 h2 hb hs ht => ?_, fun s l a hh hk h1 h2 hb hs hf => ?_, fun s l a hh hk h1 h2 hb hs => ?_,
    fun s hl hs hp hm => ?_, fun s hl hs hp hm => ?_⟩
  · have hact := bandChange_alarm (s := s) hh hk h1 h2 hb
    have hnf : s.fire.state ≠ .fire := by rcases hs with h | h <;> simp [h]
    rw [loopAlarm_enters (by simpa using hs) ?_] at hact
    · obtain ⟨hne, hev⟩ := hdecl s l a hnf
      obtain ⟨hent, hrest⟩ := enterFire_declares hne hev (loopTaken_differs s l a .alarm)
      exact ⟨_, hact, hent, hrest, by simp⟩
    · rcases ht with h | ⟨k, hkl, hka⟩ | h | h
      · exact .inl (by simpa using h)
      all_goals refine .inr ?_
      all_goals simp only [State.smokeTrusted, Bool.or_eq_true]
      · refine .inl (.inl ?_)
        unfold State.otherLoopInAlarm
        rw [List.any_eq_true]
        exact ⟨k, List.mem_finRange k, by simpa [hkl, Fin.val_ne_of_ne (Ne.symm hkl)] using hka⟩
      · exact .inl (.inr (by simpa [State.corroborated] using h))
      · exact .inr (by simpa using h)
  · have hact := bandChange_alarm (s := s) hh hk h1 h2 hb
    rw [loopAlarm_second (by simpa using hs) (by simpa using hf)] at hact
    obtain ⟨hne, hev⟩ := hdecl s l a (by simp [hs])
    obtain ⟨hent, hrest⟩ := enterFire_declares hne hev (loopTaken_differs s l a .alarm)
    exact ⟨_, hact, hent, hrest⟩
  · have hact := bandChange_alarm (s := s) hh hk h1 h2 hb
    rw [loopAlarm_stays (by simpa using hs)] at hact
    obtain ⟨hsame, htroubles, hlink, hbuzzer, hsound⟩ := loopTaken_alarm (loopLine s l a) l
    refine ⟨_, hact, by simp, fun hb1 hb2 => ?_, htroubles, hlink, hbuzzer, hsound, by simp, state_eq (by simp)⟩
    rw [hsame hb1 hb2]
    rfl
  · obtain ⟨ch, -, hact⟩ := State.onExpiry_acts s .t0 s.ackWindowRuns State.enterFire hl (by simp [State.ackWindowRuns, hs, hp]) hm
    obtain ⟨hent, hrest⟩ := enterFire_declares (s := s) (u := s.setChannel .t0 ch) (by simp [hs]) rfl (hexp s _ ch)
    exact ⟨_, congrArg Host.Outcome.next hact, hent, hrest⟩
  · obtain ⟨ch, -, hact⟩ := State.onExpiry_acts s .pair s.investigationRuns State.enterFire hl (by simp [State.investigationRuns, hs, hp]) hm
    obtain ⟨hent, hrest⟩ := enterFire_declares (s := s) (u := s.setChannel .pair ch) (by simp [hs]) rfl (hexp s _ ch)
    exact ⟨_, congrArg Host.Outcome.next hact, hent, hrest⟩

end Sys2Proof.Proofs.FireDeclared
end

section
/-! The RESTORE key (R31, R52, R184, R188): its three parts in any order. -/

namespace Sys2Proof.Proofs.RestoreKey

open Sys2Proof Sys2Proof.Machine Sys2Proof.Proofs.PartFrames Sys2Proof.Proofs.Steps Sys2Proof.Proofs.ResetUnit
open Sys2Proof.Proofs.DoorRules Sys2Proof.Proofs.FireEvents Sys2Proof.Proofs.LoopEvents Sys2Proof.Proofs.PanelKeys
open Sys2Proof.Proofs.CallEvents Sys2Proof.Proofs.StartFrame

/-- The parts of RESTORE. -/
def restoreParts : List (State → State) := [State.restoreFire, State.restoreWatch, State.restoreTroubles]

theorem forall_restoreParts {P : (State → State) → Prop} (h1 : P State.restoreFire) (h2 : P State.restoreWatch)
    (h3 : P State.restoreTroubles) : ∀ f ∈ restoreParts, P f := by
  intro f hf
  simp only [restoreParts, List.mem_cons, List.not_mem_nil, or_false] at hf
  rcases hf with rfl | rfl | rfl
  · exact h1
  · exact h2
  · exact h3

/-- A property that no delivery order upsets, once the part that brings it about has been taken. -/
theorem deliver_brings {Q R : State → Prop} {fs : List (State → State)} (f : State → State) (hf : f ∈ fs)
    (hQd : ∀ s n, Q s → Q (s.afterDraw n)) (hRd : ∀ s n, R s → R (s.afterDraw n)) (hQ : ∀ g ∈ fs, g ≠ f → ∀ s, Q s → Q (g s))
    (hR : ∀ g ∈ fs, ∀ s, R s → R (g s)) (hfR : ∀ s, Q s → R (f s)) (s : State) (hs : Q s) : R (deliver fs s) := by
  classical
  refine (deliver_establishes (Q := fun t => Q t ∨ R t) (R := R) fs f hf (fun t n h => h.imp (hQd t n) (hRd t n)) hRd ?_ hR ?_ s (.inl hs))
  · intro g hg t h
    rcases h with h | h
    · by_cases hgf : g = f
      · rw [hgf]; exact .inr (hfR t h)
      · exact .inl (hQ g hg hgf t h)
    · exact .inr (hR g hg t h)
  · intro t h
    rcases h with h | h
    · exact hfR t h
    · exact hR f hf t h

theorem restoreTroubles_keeps' (s : State) : s.restoreTroubles.fire = s.fire ∧ s.restoreTroubles.watch = s.watch
    ∧ s.restoreTroubles.timers = s.timers := by
  simp [State.restoreTroubles]

/-! ### The fire part (R31) -/

theorem restoreFire_clear {s : State} (h : s.fire.state = .clear) : s.restoreFire = s := by
  unfold State.restoreFire
  rw [h]

theorem restoreFire_prealarm {s : State} (h : s.fire.state = .prealarm) : s.restoreFire = s.setFireState s.unlatchedFire := by
  unfold State.restoreFire
  rw [h]

theorem restoreFire_refused {s : State} (h : s.fire.state = .verify ∨ s.fire.state = .fire) (ha : s.loopInAlarm = true) :
    s.restoreFire = s := by
  unfold State.restoreFire
  rcases h with h | h <;> rw [h] <;> exact if_pos ha

theorem restoreFire_ends {s : State} (h : s.fire.state = .verify ∨ s.fire.state = .fire) (ha : s.loopInAlarm = false) :
    s.restoreFire = s.endVerification.setFireState s.unlatchedFire := by
  have hn : ¬ s.loopInAlarm = true := by simp [ha]
  unfold State.restoreFire
  rcases h with h | h <;> rw [h] <;> exact if_neg hn

theorem loopInAlarm_congr {s t : State} (h : t.fire.loops = s.fire.loops) : t.loopInAlarm = s.loopInAlarm := by
  simp only [State.loopInAlarm, h]

theorem unlatchedFire_congr {s t : State} (h : t.fire.loops = s.fire.loops) : t.unlatchedFire = s.unlatchedFire := by
  have hs : t.smokePrealarm = s.smokePrealarm := by simp only [State.smokePrealarm, h]
  unfold State.unlatchedFire
  rw [hs]

theorem setFireState_own {s : State} {f : FireState} (h : s.fire.state = f) : s.setFireState f = s := if_pos h

/-- An unlatched fire state that follows the loops is unchanged by RESTORE. -/
theorem restoreFire_settled {s : State} (h : s.fire.state = s.unlatchedFire) : s.restoreFire = s := by
  cases hs : s.fire.state with
  | clear => exact restoreFire_clear hs
  | prealarm => rw [restoreFire_prealarm hs, setFireState_own h]
  | _ =>
    rw [hs] at h
    unfold State.unlatchedFire at h
    split at h <;> cases h

theorem setFireState_channel {s : State} {f : FireState} {c : Chan} (h : ∀ d : Fin 4, c ≠ .door d) (hr : c ≠ .t15) :
    (s.setFireState f).channel c = s.channel c := by
  rcases setFireState_cases s f with ⟨-, he⟩ | ⟨-, -, -, he⟩ | ⟨-, -, he⟩ <;> rw [he]
  · rfl
  · exact recomputeEvac_channel h hr

theorem endVerification_channel (s : State) (c : Chan) : s.endVerification.channel c
    = if c = .t0 ∨ c = .pair then (s.channel c).stop else s.channel c := by
  have h : (verificationEnded s).channel c = s.endVerification.channel c := channel_congr (by simp [verificationEnded]) c
  rw [← h, verificationEnded_channel]

theorem restoreWatch_channel {s : State} {c : Chan} (h : ∀ d : Fin 4, c ≠ .door d) : s.restoreWatch.channel c = s.channel c := by
  by_cases hc : s.watch.intrusion = true ∧ s.inputActive = false
  · rw [restoreWatch_cleared hc]
    exact (resolveAll_channel h).trans (channel_congr (by simp) c)
  · rw [restoreWatch_kept hc]
    rfl

/-- The fire unit as the fire part of RESTORE finds it. -/
structure FireAsBefore (s t : State) : Prop where
  loops : t.fire.loops = s.fire.loops
  state : t.fire.state = s.fire.state
  phase : t.fire.phase = s.fire.phase
  firstLoop : t.fire.firstLoop = s.fire.firstLoop

theorem FireAsBefore.congr {s t u : State} (h : FireAsBefore s t) (hf : u.fire = t.fire) : FireAsBefore s u :=
  ⟨by rw [hf]; exact h.loops, by rw [hf]; exact h.state, by rw [hf]; exact h.phase, by rw [hf]; exact h.firstLoop⟩

/-- The fire unit with its state following the loops, and the verification left alone. -/
structure FireFollows (s t : State) : Prop where
  loops : t.fire.loops = s.fire.loops
  state : t.fire.state = s.unlatchedFire
  phase : t.fire.phase = s.fire.phase
  firstLoop : t.fire.firstLoop = s.fire.firstLoop

theorem FireFollows.congr {s t u : State} (h : FireFollows s t) (hf : u.fire = t.fire) : FireFollows s u :=
  ⟨by rw [hf]; exact h.loops, by rw [hf]; exact h.state, by rw [hf]; exact h.phase, by rw [hf]; exact h.firstLoop⟩

/-- The fire unit with its state following the loops, and the verification ended. -/
structure FireEnded (s t : State) : Prop where
  loops : t.fire.loops = s.fire.loops
  state : t.fire.state = s.unlatchedFire
  phase : t.fire.phase = .none
  firstLoop : t.fire.firstLoop = none
  t0 : (t.channel .t0).running = false
  pair : (t.channel .pair).running = false

theorem FireEnded.congr {s t u : State} (h : FireEnded s t) (hf : u.fire = t.fire) (h0 : u.channel .t0 = t.channel .t0)
    (h1 : u.channel .pair = t.channel .pair) : FireEnded s u :=
  ⟨by rw [hf]; exact h.loops, by rw [hf]; exact h.state, by rw [hf]; exact h.phase, by rw [hf]; exact h.firstLoop,
   by rw [h0]; exact h.t0, by rw [h1]; exact h.pair⟩

/-- R31: with a loop in ALARM a latched fire state stays, in every order of the parts. -/
theorem restored_refused {s t : State} (h : s.fire.state = .verify ∨ s.fire.state = .fire) (ha : s.loopInAlarm = true)
    (ht : FireAsBefore s t) : FireAsBefore s (deliver restoreParts t) := by
  refine deliver_induct (FireAsBefore s) (fun _ _ h => h.congr rfl) _ (forall_restoreParts ?_ ?_ ?_) t ht
  · intro u hu
    rw [restoreFire_refused (by rw [hu.state]; exact h) (by rw [loopInAlarm_congr hu.loops]; exact ha)]
    exact hu
  · exact fun u hu => hu.congr (by simp)
  · exact fun u hu => hu.congr (restoreTroubles_keeps' u).1

/-- R31: with no loop in ALARM a latched fire state ends. -/
theorem restored_ended {s t : State} (h : s.fire.state = .verify ∨ s.fire.state = .fire) (ha : s.loopInAlarm = false)
    (ht : FireAsBefore s t) : FireEnded s (deliver restoreParts t) := by
  refine deliver_brings (Q := FireAsBefore s) State.restoreFire (by simp [restoreParts]) (fun _ _ h => h.congr rfl) (fun _ _ h => h.congr rfl rfl rfl) ?_ ?_ ?_ t ht
  · refine forall_restoreParts (fun hn => absurd rfl hn) ?_ ?_
    · exact fun _ u hu => hu.congr (by simp)
    · exact fun _ u hu => hu.congr (restoreTroubles_keeps' u).1
  · refine forall_restoreParts ?_ ?_ ?_
    · intro u hu
      rw [restoreFire_settled (hu.state.trans (unlatchedFire_congr hu.loops).symm)]
      exact hu
    · exact fun u hu => hu.congr (by simp) (restoreWatch_channel (by simp)) (restoreWatch_channel (by simp))
    · exact fun u hu => hu.congr (restoreTroubles_keeps' u).1 (channel_congr (restoreTroubles_keeps' u).2.2 _)
        (channel_congr (restoreTroubles_keeps' u).2.2 _)
  · intro u hu
    rw [restoreFire_ends (by rw [hu.state]; exact h) (by rw [loopInAlarm_congr hu.loops]; exact ha)]
    refine ⟨by simp [hu.loops], by simp [unlatchedFire_congr hu.loops], by simp, by simp, ?_, ?_⟩
    · rw [setFireState_channel (by simp) (by simp), endVerification_channel, if_pos (.inl rfl)]
      rfl
    · rw [setFireState_channel (by simp) (by simp), endVerification_channel, if_pos (.inr rfl)]
      rfl

/-- R39: PREALARM is evaluated again. -/
theorem restored_prealarm {s t : State} (h : s.fire.state = .prealarm) (ht : FireAsBefore s t) : FireFollows s (deliver restoreParts t) := by
  refine deliver_brings (Q := FireAsBefore s) State.restoreFire (by simp [restoreParts]) (fun _ _ h => h.congr rfl) (fun _ _ h => h.congr rfl) ?_ ?_ ?_ t ht
  · refine forall_restoreParts (fun hn => absurd rfl hn) ?_ ?_
    · exact fun _ u hu => hu.congr (by simp)
    · exact fun _ u hu => hu.congr (restoreTroubles_keeps' u).1
  · refine forall_restoreParts ?_ ?_ ?_
    · intro u hu
      rw [restoreFire_settled (hu.state.trans (unlatchedFire_congr hu.loops).symm)]
      exact hu
    · exact fun u hu => hu.congr (by simp)
    · exact fun u hu => hu.congr (restoreTroubles_keeps' u).1
  · intro u hu
    rw [restoreFire_prealarm (hu.state.trans h)]
    exact ⟨by simp [hu.loops], by simp [unlatchedFire_congr hu.loops], by simp [hu.phase], by simp [hu.firstLoop]⟩

theorem restored_clear {s t : State} (h : s.fire.state = .clear) (ht : FireAsBefore s t) : FireAsBefore s (deliver restoreParts t) := by
  refine deliver_induct (FireAsBefore s) (fun _ _ h => h.congr rfl) _ (forall_restoreParts ?_ ?_ ?_) t ht
  · intro u hu
    rw [restoreFire_clear (hu.state.trans h)]
    exact hu
  · exact fun u hu => hu.congr (by simp)
  · exact fun u hu => hu.congr (restoreTroubles_keeps' u).1

theorem restored_loops (t : State) : (deliver restoreParts t).fire.loops = t.fire.loops := by
  refine deliver_keeps (fun u => u.fire.loops) (fun _ _ => rfl) _ (forall_restoreParts ?_ ?_ ?_) t
  · intro u
    unfold State.restoreFire
    (repeat' split) <;> simp
  · simp
  · exact fun u => by rw [(restoreTroubles_keeps' u).1]

/-! ### The watch part and the troubles (R52, R184) -/

theorem restored_watch (t : State) : (deliver restoreParts t).watch
    = { t.watch with localLatch := false, intrusion := t.watch.intrusion && t.inputActive } := by
  refine deliver_brings (Q := fun u => u.watch = t.watch)
    (R := fun u => u.watch = { t.watch with localLatch := false, intrusion := t.watch.intrusion && t.inputActive })
    State.restoreWatch (by simp [restoreParts]) (fun _ _ h => h) (fun _ _ h => h) ?_ ?_ ?_ t rfl
  · refine forall_restoreParts ?_ (fun hn => absurd rfl hn) ?_
    · exact fun _ u hu => by simp [hu]
    · exact fun _ u hu => (restoreTroubles_keeps' u).2.1.trans hu
  · refine forall_restoreParts ?_ ?_ ?_
    · exact fun u hu => by simp [hu]
    · intro u hu
      rw [restoreWatch_watch, State.inputActive, hu]
      simp [State.inputActive]
    · exact fun u hu => (restoreTroubles_keeps' u).2.1.trans hu
  · intro u hu
    rw [restoreWatch_watch, State.inputActive, hu]
    rfl

theorem restored_troubles (t : State) : (deliver restoreParts t).troubles.record = (t.troubles.record.filter fun u => !u.latched)
    ∧ (deliver restoreParts t).troubles.silenced = t.troubles.silenced := by
  refine deliver_brings (Q := fun u => u.troubles = t.troubles)
    (R := fun u => u.troubles.record = (t.troubles.record.filter fun u => !u.latched) ∧ u.troubles.silenced = t.troubles.silenced)
    State.restoreTroubles (by simp [restoreParts]) (fun _ _ h => h) (fun _ _ h => h) ?_ ?_ ?_ t rfl
  · refine forall_restoreParts ?_ ?_ (fun hn => absurd rfl hn)
    · exact fun _ u hu => by simp [hu]
    · exact fun _ u hu => by simp [hu]
  · refine forall_restoreParts ?_ ?_ ?_
    · exact fun u hu => by simp [hu]
    · exact fun u hu => by simp [hu]
    · intro u hu
      simp [State.restoreTroubles, hu, List.filter_filter]
  · intro u hu
    simp [State.restoreTroubles, hu]

theorem restored_refuse (t : State) : (deliver restoreParts t).buzzer.refuse = t.buzzer.refuse := by
  refine deliver_keeps (fun u => u.buzzer.refuse) (fun _ _ => rfl) _ (forall_restoreParts ?_ ?_ ?_) t
  · intro u
    have hsync : ∀ v : State, v.syncBuzzer.buzzer.refuse = v.buzzer.refuse := fun _ => rfl
    unfold State.restoreFire State.endVerification
    (repeat' split) <;> simp [hsync]
  · simp
  · intro u
    unfold State.restoreTroubles State.removeTroubles
    dsimp only
    split <;> rfl

theorem restored_start (t : State) : (deliver restoreParts t).start = { t.start with freeze := (deliver restoreParts t).start.freeze } := by
  have hfire : ∀ u : State, u.restoreFire.start.phase = u.start.phase ∧ u.restoreFire.start.kind = u.start.kind
      ∧ u.restoreFire.start.image = u.start.image ∧ u.restoreFire.start.condition = u.start.condition
      ∧ u.restoreFire.start.attempts = u.start.attempts ∧ u.restoreFire.start.request = u.start.request := fun u => by
    unfold State.restoreFire
    (repeat' split) <;> simp
  exact start_eq (deliver_setup _ (forall_restoreParts hfire (by simp) (by simp [State.restoreTroubles])) t)

/-- R188: one REFUSE for a press that a part refuses. -/
def refused (s : State) : State := if s.fireRefuses || s.watchRefuses then s.present .refuse else s

theorem refused_eq (s : State) : refused s = { s with
    buzzer := { s.buzzer with refuse := if s.fireRefuses || s.watchRefuses then s.buzzer.refuse.presented else s.buzzer.refuse } } := by
  unfold refused
  split <;> rfl

theorem pressRestore_eq (s : State) : s.pressRestore = deliver restoreParts (refused s) := rfl

/-- Settles O21, by the fire state for the fire part, and each other part on its own. -/
theorem restoreTakesItsThreeParts : Obligations.RestoreTakesItsThreeParts := by
  refine ⟨fun s hk hr => ?_, fun s hk hr => ⟨_, congrArg Host.Outcome.next (keyDown_held (k := .restore) _ hk hr), rfl⟩,
    fun s hk => ⟨_, congrArg Host.Outcome.next (keyDown_outside (k := .restore) _ hk), rfl⟩⟩
  have hact : s.keyDown .restore s.keyed State.pressRestore = deliver restoreParts (refused (keyHeld s .restore)) := by
    rw [keyDown_pressed (k := .restore) _ hk hr, pressRestore_eq]
  obtain ⟨u, hu⟩ : ∃ u, u = refused (keyHeld s .restore) := ⟨_, rfl⟩
  have heq := hu.trans (refused_eq (keyHeld s .restore))
  rw [← hu] at hact
  have hfire : u.fire = s.fire := by rw [heq]; simp
  have hwatch : u.watch = s.watch := by rw [heq]; simp
  have htr : u.troubles = s.troubles := by rw [heq]; simp
  have hbefore : FireAsBefore s u := ⟨by rw [hfire], by rw [hfire], by rw [hfire], by rw [hfire]⟩
  obtain ⟨hrecord, hsilenced⟩ := restored_troubles u
  have hrest := State.pressRestore_keeps (keyHeld s .restore)
  rw [pressRestore_eq, ← hu] at hrest
  obtain ⟨hclock, hpins, hmodes, htable, hkeys, -, hpending⟩ := hrest
  refine ⟨_, congrArg Host.Outcome.next hact, fun ⟨hs, ha⟩ => ?_, fun ⟨hs, ha⟩ => ?_, fun hs => ?_, ?_, ?_, ?_, ?_, ?_, ?_, ?_, ?_, ?_, ?_, ?_, ?_⟩
  · obtain ⟨-, hstate, hphase, hfirst⟩ := restored_refused hs ha hbefore
    exact ⟨hstate, hphase, hfirst⟩
  · obtain ⟨-, hstate, hphase, hfirst, h0, h1⟩ := restored_ended hs ha hbefore
    exact ⟨hstate, hphase, hfirst, h0, h1⟩
  · rcases hs with h | h
    · obtain ⟨-, hstate, hphase, hfirst⟩ := restored_clear h hbefore
      exact ⟨hphase, hfirst, by rw [hstate, h]; simp⟩
    · obtain ⟨-, hstate, hphase, hfirst⟩ := restored_prealarm h hbefore
      refine ⟨hphase, hfirst, ?_⟩
      rw [hstate, h]
      simp [State.unlatchedFire]
  · rw [restored_loops, hfire]
  · rw [restored_watch, State.inputActive, hwatch]
    rfl
  · rw [hrecord, htr]
  · rw [hsilenced, htr]
  · rw [restored_refuse, heq]
    rfl
  · rw [hmodes]
    simp
  · rw [htable]
    simp
  · rw [hkeys]
    rfl
  · rw [hclock]
    simp
  · rw [hpins]
    rfl
  · rw [restored_start, heq]
    rfl
  · rw [hpending]
    simp

end Sys2Proof.Proofs.RestoreKey
end

section
/-! A change of the mode value (R4, R5, R10, R30, R46) and when it marks STATUS. -/

namespace Sys2Proof.Proofs.ModeChange

open Sys2Proof Sys2Proof.Machine Sys2Proof.Proofs.PartFrames Sys2Proof.Proofs.Steps Sys2Proof.Proofs.ResetUnit
open Sys2Proof.Proofs.DoorDrive Sys2Proof.Proofs.DoorRules Sys2Proof.Proofs.StatusMark Sys2Proof.Proofs.GuardKey
open Sys2Proof.Proofs.StartFrame

/-! ### What marks STATUS in a resolution (R68) -/

/-- A lock that a resolution does not change marks nothing. -/
theorem resolve_silent {s : State} {d : Fin 4} (h : ruledLock s d = (s.door d).lock) : (s.resolve d).link = s.link := by
  have hl : s.driveLock d = s := by
    unfold State.driveLock
    dsimp only
    rw [if_pos]
    cases hd : s.drivable d with
    | false => rfl
    | true =>
      rw [ruledLock, if_pos hd] at h
      simp [h]
  unfold State.resolve
  split
  · rw [hl]
    simp
  · rfl

/-- STATUS is as it was and so is every lock, or some lock has come to differ from what it was. -/
structure Traced (s t : State) : Prop where
  ruling : ∀ d, Ruling s d t
  told : (t.link.status = s.link.status ∧ ∀ d, (t.door d).lock = (s.door d).lock)
    ∨ ∃ d, (t.door d).lock = ruledLock s d ∧ ruledLock s d ≠ (s.door d).lock

theorem Traced.refl (s : State) : Traced s s := ⟨fun d => .refl s d, .inl ⟨rfl, fun _ => rfl⟩⟩

theorem Traced.afterDraw {s t : State} (h : Traced s t) (n : Nat) : Traced s (t.afterDraw n) := ⟨fun d => (h.ruling d).afterDraw n, h.told⟩

theorem Traced.resolve {s t : State} (h : Traced s t) (e : Fin 4) : Traced s (t.resolve e) := by
  refine ⟨fun d => (h.ruling d).resolve e, ?_⟩
  have hruled := (h.ruling e).ruled
  have hlock := resolve_lock t e
  rw [hruled] at hlock
  rcases h.told with ⟨hst, hsame⟩ | ⟨d, hd, hne⟩
  · by_cases he : ruledLock s e = (s.door e).lock
    · refine .inl ⟨?_, fun d => ?_⟩
      · rw [resolve_silent (by rw [hruled, hsame, he]), hst]
      · by_cases hed : e = d
        · subst hed
          rw [hlock, he]
        · rw [State.resolve_other t e d hed, hsame]
    · exact .inr ⟨e, hlock, he⟩
  · refine .inr ⟨d, ?_, hne⟩
    by_cases hed : e = d
    · subst hed
      exact hlock
    · rw [State.resolve_other t e d hed, hd]

theorem Traced.resolveAll {s t : State} (h : Traced s t) : Traced s t.resolveAll := by
  refine deliver_induct (Traced s) (fun _ _ h => h.afterDraw _) _ (fun f hf u hu => ?_) t h
  obtain ⟨d, -, rfl⟩ := List.mem_map.mp hf
  exact hu.resolve d

/-! ### The deliveries of a change (R10, R30) -/

theorem fireModeChange_stays {s : State} (h : s.fire.state ≠ .verify ∨ s.modes.mode = .pub) : s.fireModeChange = s := by
  refine if_neg fun hc => ?_
  rcases h with h | h
  · exact h hc.1
  · exact hc.2 h

theorem fireModeChange_fires {s : State} (h : s.fire.state = .verify) (hm : s.modes.mode ≠ .pub) : s.fireModeChange = s.enterFire :=
  if_pos ⟨h, hm⟩

theorem fireModeChange_tells : Tells State.fireModeChange := fun s hs => by
  unfold State.fireModeChange
  split
  · exact enterFire_tells s hs
  · exact hs

theorem forall_modeDeliveries {P : (State → State) → Prop} (h1 : P State.resolveAll) (h2 : P State.fireModeChange) :
    ∀ f ∈ [State.resolveAll, State.fireModeChange], P f := by
  simpa using ⟨h1, h2⟩

theorem modeDelivered_tells (m : Mode) : Tells fun s => modeDelivered s m := fun s hs =>
  deliver_tells (forall_modeDeliveries resolveAll_tells fireModeChange_tells) { s with modes := { s.modes with mode := m } } hs

theorem modeDelivered_loops (s : State) (m : Mode) : (modeDelivered s m).fire.loops = s.fire.loops :=
  deliver_keeps (fun t => t.fire.loops) (fun _ _ => rfl) _ (forall_modeDeliveries (by simp) (by simp)) { s with modes := { s.modes with mode := m } }

/-- R30: outside VERIFY the fire state stays. -/
theorem modeDelivered_stays {s : State} (m : Mode) (h : s.fire.state ≠ .verify) : (modeDelivered s m).fire = s.fire := by
  refine deliver_induct (fun t => t.fire = s.fire) (fun _ _ h => h) _ (forall_modeDeliveries ?_ ?_) { s with modes := { s.modes with mode := m } } rfl
  · exact fun t ht => by simp [ht]
  · intro t ht
    rw [fireModeChange_stays (.inl (by rw [ht]; exact h))]
    exact ht

/-- R30: a VERIFY goes to FIRE as the mode leaves PUBLIC. -/
theorem modeDelivered_fires {s : State} {m : Mode} (h : s.fire.state = .verify) (hm : m ≠ .pub) : (modeDelivered s m).fire.state = .fire := by
  have hfired : ∀ t : State, t.fire.state = .fire → t.fireModeChange.fire.state = .fire := fun t ht => by
    rw [fireModeChange_stays (.inl (by rw [ht]; decide))]
    exact ht
  have hstep : ∀ t : State, t.modes.mode = m → t.fire.state = .verify → t.fireModeChange.fire.state = .fire := fun t hmt ht => by
    rw [fireModeChange_fires ht (by rw [hmt]; exact hm), FireEvents.enterFire_eq (by rw [ht]; decide)]
    simp
  refine (deliver_establishes (Q := fun t => t.modes.mode = m ∧ (t.fire.state = .verify ∨ t.fire.state = .fire))
    (R := fun t => t.modes.mode = m ∧ t.fire.state = .fire) _ State.fireModeChange (by simp) (fun _ _ h => h) (fun _ _ h => h)
    (forall_modeDeliveries ?_ ?_) (forall_modeDeliveries ?_ ?_) ?_ { s with modes := { s.modes with mode := m } } ⟨rfl, .inl h⟩).2
  · exact fun t ht => by simpa using ht
  · rintro t ⟨hmt, ht | ht⟩
    · exact ⟨by simpa using hmt, .inr (hstep t hmt ht)⟩
    · exact ⟨by simpa using hmt, .inr (hfired t ht)⟩
  · exact fun t ht => by simpa using ht
  · exact fun t ht => ⟨by simpa using ht.1, hfired t ht.2⟩
  · rintro t ⟨hmt, ht | ht⟩
    · exact ⟨by simpa using hmt, hstep t hmt ht⟩
    · exact ⟨by simpa using hmt, hfired t ht⟩

/-- Where the fire unit takes nothing, STATUS is marked only by a lock that changes. -/
theorem modeDelivered_traced {s : State} {m : Mode} (h : s.fire.state ≠ .verify ∨ m = .pub) :
    (modeDelivered s m).link.status = s.link.status ∨ ∃ d, ((modeDelivered s m).door d).lock ≠ (s.door d).lock := by
  obtain ⟨s1, hs1⟩ : ∃ s1 : State, s1 = { s with modes := { s.modes with mode := m } } := ⟨_, rfl⟩
  have hdef : modeDelivered s m = deliver [State.resolveAll, State.fireModeChange] s1 := by rw [hs1]; rfl
  have hT : Traced s1 (modeDelivered s m) ∧ (modeDelivered s m).fire = s1.fire := by
    rw [hdef]
    refine deliver_induct (fun t => Traced s1 t ∧ t.fire = s1.fire) (fun t n h => ⟨h.1.afterDraw n, h.2⟩) _ (forall_modeDeliveries ?_ ?_) s1
      ⟨.refl s1, rfl⟩
    · exact fun t ht => ⟨ht.1.resolveAll, by simpa using ht.2⟩
    · intro t ht
      rw [fireModeChange_stays]
      · exact ht
      · rw [ht.2, (ht.1.ruling 0).claims.mode, hs1]
        exact h
  have hdoor : ∀ d, s1.door d = s.door d := fun d => by rw [hs1]; rfl
  have hlink : s1.link = s.link := by rw [hs1]
  rcases hT.1.told with ⟨hst, -⟩ | ⟨d, hd, hne⟩
  · exact .inl (hst.trans (by rw [hlink]))
  · exact .inr ⟨d, by rw [hd, ← hdoor]; exact hne⟩

/-! ### The watch unit's part (R46) -/

theorem watchModeChange_tells (old : Mode) : Tells fun s => s.watchModeChange old := fun s hs => by
  have hg : ∀ g, (s.setGuard g).link.status = true := fun g => by
    unfold State.setGuard
    split
    · exact hs
    · rfl
  have hr : ∀ t : State, t.link.status = true → t.endRound.link.status = true := fun t ht => by
    unfold State.endRound State.setRound
    split
    · dsimp only
      split <;> simp [ht]
    · exact ht
  unfold State.watchModeChange
  dsimp only
  (repeat' split)
  · exact hs
  · simpa using hg .setting
  · exact hr _ (by simpa using hg .opened)
  · exact hs

/-- R45: the watch unit marks STATUS only with a change of its own. -/
theorem watchModeChange_silent (s : State) (old : Mode) : (s.watchModeChange old).link.status = s.link.status
    ∨ (s.watchModeChange old).watch.guard ≠ s.watch.guard ∨ (s.watchModeChange old).watch.round ≠ s.watch.round := by
  unfold State.watchModeChange
  split
  · exact .inl rfl
  · split
    · by_cases hg : s.watch.guard = .setting
      · refine .inl ?_
        simp [State.startExitDelay, State.setGuard, hg]
      · refine .inr (.inl ?_)
        simp [State.startExitDelay, State.setGuard, hg]
        exact fun h => hg h.symm
    · split
      · by_cases hg : s.watch.guard = .opened
        · have heq : s.setGuard .opened = s := if_pos hg
          rw [heq]
          unfold State.endRound
          split
          next hr => exact .inr (.inr (by simp at hr; simp [hr]))
          next => exact .inl (by simp)
        · refine .inr (.inl ?_)
          simp [State.setGuard, hg]
          exact fun h => hg h.symm
      · exact .inl rfl

/-- R46: the guard state that a change of the mode value leaves. -/
theorem watchModeChange_guard {s : State} (old : Mode) (hc : ¬(s.start.phase = .configRead ∧ s.start.kind = .cold)) :
    (s.modes.mode = .night → (s.watchModeChange old).watch.guard = .setting)
    ∧ (old = .night → s.modes.mode ≠ .night → (s.watchModeChange old).watch.guard = .opened ∧ (s.watchModeChange old).watch.round = false) := by
  unfold State.watchModeChange
  rw [if_neg hc]
  refine ⟨fun hm => ?_, fun ho hm => ?_⟩
  · rw [if_pos hm]
    simp [State.startExitDelay]
  · rw [if_neg hm, if_pos ho]
    exact ⟨by simp, by simp⟩

/-! ### The change as a whole -/

theorem changeMode_tells (m : Mode) : Tells fun s => s.changeMode m := fun s hs => by
  by_cases h : s.modes.mode = m
  · subst h
    simpa [changeMode_same] using hs
  · dsimp only
    rw [changeMode_changed h]
    exact watchModeChange_tells _ _ (by simpa using modeDelivered_tells m s hs)

theorem changeMode_watch (s : State) (m : Mode) :
    (s.changeMode m).watch = { s.watch with guard := (s.changeMode m).watch.guard, round := (s.changeMode m).watch.round } := by
  obtain ⟨hi, hl, hn, hb⟩ : (s.changeMode m).watch.inputs = s.watch.inputs ∧ (s.changeMode m).watch.localLatch = s.watch.localLatch
      ∧ (s.changeMode m).watch.intrusion = s.watch.intrusion ∧ (s.changeMode m).watch.buttons = s.watch.buttons := by simp
  dsimp only
  rw [← hi, ← hl, ← hn, ← hb]

theorem changeMode_loops (s : State) (m : Mode) : (s.changeMode m).fire.loops = s.fire.loops := by
  by_cases h : s.modes.mode = m
  · subst h
    rw [changeMode_same]
  · simp [changeMode_changed h, modeDelivered_loops]

/-- R10, R30, R46: everything that a change to another mode value brings about. -/
theorem changeMode_spec {s : State} {m : Mode} (h : s.modes.mode ≠ m) :
    (s.changeMode m).light.base = baseScene m
    ∧ (s.fire.state = .verify → m ≠ .pub → (s.changeMode m).fire.state = .fire)
    ∧ (s.fire.state ≠ .verify → (s.changeMode m).fire.state = s.fire.state)
    ∧ (¬(s.start.phase = .configRead ∧ s.start.kind = .cold) → (m = .night → (s.changeMode m).watch.guard = .setting)
      ∧ (s.modes.mode = .night → m ≠ .night → (s.changeMode m).watch.guard = .opened ∧ (s.changeMode m).watch.round = false))
    ∧ ((s.changeMode m).link.status = s.link.status ∨ (s.changeMode m).watch.guard ≠ s.watch.guard
      ∨ (s.changeMode m).watch.round ≠ s.watch.round ∨ (s.changeMode m).fire.state ≠ s.fire.state
      ∨ ∃ d, ((s.changeMode m).door d).lock ≠ (s.door d).lock) := by
  rw [changeMode_changed h]
  obtain ⟨u, hu⟩ : ∃ u, u = (modeDelivered s m).replaceBase := ⟨_, rfl⟩
  have hfire : u.fire = (modeDelivered s m).fire := by simp [hu]
  have hmode : u.modes.mode = m := by simp [hu]
  have hwatch : u.watch = s.watch := by simp [hu]
  have hlink : u.link = (modeDelivered s m).link := by simp [hu]
  have hdoors : u.doors = (modeDelivered s m).doors := by simp [hu]
  have hphase : u.start.phase = s.start.phase ∧ u.start.kind = s.start.kind := by simp [hu]
  have hbase : u.light.base = baseScene m := by simp [hu]
  rw [← hu]
  refine ⟨by simpa using hbase, fun hv hm => ?_, fun hv => ?_, fun hc => ?_, ?_⟩
  · simp [hfire, modeDelivered_fires hv hm]
  · simp [hfire, modeDelivered_stays m hv]
  · obtain ⟨hnight, hleft⟩ := watchModeChange_guard (s := u) s.modes.mode (by rw [hphase.1, hphase.2]; exact hc)
    rw [hmode] at hnight hleft
    exact ⟨hnight, hleft⟩
  · by_cases hv : s.fire.state ≠ .verify ∨ m = .pub
    · rcases watchModeChange_silent u s.modes.mode with hs | hs | hs
      · rcases modeDelivered_traced hv with ht | ⟨d, hd⟩
        · exact .inl (hs.trans (by rw [hlink, ht]))
        · refine .inr (.inr (.inr (.inr ⟨d, ?_⟩)))
          rw [door_congr (s := modeDelivered s m) (by simp [hdoors]) d]
          exact hd
      · exact .inr (.inl (by rw [← hwatch]; exact hs))
      · exact .inr (.inr (.inl (by rw [← hwatch]; exact hs)))
    · simp only [not_or, not_not] at hv
      obtain ⟨hv, hm⟩ := hv
      refine .inr (.inr (.inr (.inl ?_)))
      simp [hfire, modeDelivered_fires hv hm, hv]

/-- A position of the key taken (R3), before the mode value follows. -/
def keyTurned (s : State) (m : Mode) : State := { s with
  pins := { s.pins with mode := readingOf m }
  modes := { s.modes with keyPosition := m, keyReading := readingOf m, keyFilter := Filter.clear } }

/-- R4: the epoch advanced and STATUS marked. -/
def epochAdvanced (s : State) : State := State.markStatus { s with modes := { s.modes with epoch := s.modes.epoch + 1 } }

theorem keyChange_turns {s : State} {m : Mode} (hl : s.live = true) (hk : s.modes.keyPosition ≠ m) : exec (.keyChange m) s
    = .next ((if s.modes.settled then epochAdvanced (keyTurned s m) else keyTurned s m).changeMode m) := by
  have hturn : (keyTurned s m).turnKey m = (if s.modes.settled then epochAdvanced (keyTurned s m) else keyTurned s m).changeMode m := by
    unfold State.turnKey epochAdvanced
    show (if s.modes.settled = true then _ else _) = _
    split <;> rfl
  rw [← hturn]
  exact congrArg Host.Outcome.next ((if_pos hl).trans (if_neg hk))

/-- Settles O13: the mode value follows the key, and STATUS is marked by the epoch or by what changes. -/
theorem keyTurnChangesTheMode : Obligations.KeyTurnChangesTheMode := by
  refine ⟨fun s m hl hk => ?_, fun s m h => ?_⟩
  · have hact := keyChange_turns hl hk
    obtain ⟨u, hu⟩ : ∃ u, u = (if s.modes.settled then epochAdvanced (keyTurned s m) else keyTurned s m) := ⟨_, rfl⟩
    rw [← hu] at hact
    have hmodes : u.modes = { s.modes with
        epoch := if s.modes.settled then s.modes.epoch + 1 else s.modes.epoch
        keyPosition := m, keyReading := readingOf m, keyFilter := Filter.clear } := by
      rw [hu]
      split <;> rfl
    have hlink : (s.modes.settled = true → u.link.status = true) ∧ (s.modes.settled = false → u.link = s.link) := by
      rw [hu]
      refine ⟨fun h => ?_, fun h => ?_⟩
      · rw [if_pos h]; rfl
      · rw [if_neg (by simp [h])]; rfl
    have hun : s.modes.settled = false → u = keyTurned s m := fun h => by rw [hu, if_neg (by simp [h])]
    have hrest : u = { s with pins := { s.pins with mode := readingOf m }, modes := u.modes, link := u.link } := by
      rw [hu]
      split <;> rfl
    have hmode : u.modes.mode = s.modes.mode := by rw [hmodes]
    have hfire : u.fire = s.fire := by rw [hrest]
    have hwatch : u.watch = s.watch := by rw [hrest]
    have hstart : u.start = s.start := by rw [hrest]
    have hdoor : ∀ d, u.door d = s.door d := fun d => by rw [hrest]; rfl
    have hlight : u.light = s.light := by rw [hrest]
    have hrest' : (u.changeMode m).clock = s.clock ∧ (u.changeMode m).pins = { s.pins with mode := readingOf m }
        ∧ (u.changeMode m).table = s.table ∧ (u.changeMode m).troubles = s.troubles ∧ (u.changeMode m).keys = s.keys
        ∧ (u.changeMode m).raised = s.raised ∧ (u.changeMode m).pending = s.pending := by
      rw [hrest]
      simp
    obtain ⟨hclock, hpins, htable, htroubles, hkeys, hraised, hpending⟩ := hrest'
    have hstart' := start_eq (s := u) (t := u.changeMode m) (by simp)
    rw [hstart] at hstart'
    have hwatch' := changeMode_watch u m
    rw [hwatch] at hwatch'
    have hloops := changeMode_loops u m
    rw [hfire] at hloops
    by_cases hm : s.modes.mode = m
    · have hsame : u.changeMode m = u := if_pos (by rw [hmode]; exact hm)
      rw [hsame] at hact hwatch' hloops hstart' htable htroubles hkeys hraised hclock hpins hpending
      refine ⟨u, hact, ?_, hlink.1, fun hs _ => ?_, fun hs => .inl (by rw [hlink.2 hs]), by rw [if_pos hm, hlight], fun h => absurd hm h,
        fun _ => by rw [hfire], fun h hn => absurd (hm.trans hn) h, fun h hn => absurd (hm.symm.trans h) hn, hwatch', hloops, hstart', htable,
        htroubles, hkeys, hraised, hclock, hpins, hpending⟩
      · rw [hmodes]
        dsimp only
        rw [hm]
      · rw [hun hs]
        rfl
    · obtain ⟨hbase, hfires, hstays, hguard, htold⟩ := changeMode_spec (s := u) (m := m) (by rw [hmode]; exact hm)
      rw [hfire] at hfires hstays htold
      rw [hstart, hmode] at hguard
      rw [hwatch] at htold
      simp only [hdoor] at htold
      refine ⟨_, hact, by simp [hmodes], fun hs => changeMode_tells m u (hlink.1 hs), fun _ h => absurd h hm, fun hs => ?_,
        by rw [if_neg hm, hbase], fun _ hv hp => hfires hv hp, hstays, fun _ hn hc => (hguard hc).1 hn, fun hn hne hc => (hguard hc).2 hn hne,
        hwatch', hloops, hstart', htable, htroubles, hkeys, hraised, hclock, hpins, hpending⟩
      rw [hlink.2 hs] at htold
      rcases htold with h | h | h | h | h
      · exact .inl h
      · exact .inr (.inl h)
      · exact .inr (.inr (.inl h))
      · exact .inr (.inr (.inr (.inl h)))
      · exact .inr (.inr (.inr (.inr (.inr (.inr h)))))
  · have hstay : exec (.keyChange m) s = .next { s with pins := { s.pins with mode := readingOf m } } := by
      refine congrArg Host.Outcome.next (a₂ := { s with pins := { s.pins with mode := readingOf m } }) ?_
      rcases h with h | h
      · exact if_neg (by simp [h])
      · split
        · exact if_pos h
        · rfl
    exact ⟨_, hstay, rfl⟩

end Sys2Proof.Proofs.ModeChange
end

section
/-! A STATUS received (R7, R8, R172): the pair that it brings to the mode unit. -/

namespace Sys2Proof.Proofs.HeardPair

open Sys2Proof Sys2Proof.Machine Sys2Proof.Proofs.PartFrames Sys2Proof.Proofs.Steps Sys2Proof.Proofs.ResetUnit
open Sys2Proof.Proofs.StatusMark Sys2Proof.Proofs.ModeChange Sys2Proof.Proofs.RestoreKey Sys2Proof.Proofs.CallAnswers

/-! ### What keeps the mark of STATUS -/

theorem setSounderSilenced_tells (b : Bool) : Tells fun s => s.setSounderSilenced b := fun s hs => by
  simpa [State.setSounderSilenced] using hs

theorem rosterTakes_tells (f : StatusFrame) : Tells fun s => s.rosterTakes f := fun s hs => by
  unfold State.rosterTakes
  dsimp only
  (repeat' split)
  · exact hs
  · exact setSounderSilenced_tells _ _ (recomputeEvac_tells _ hs)
  · exact recomputeEvac_tells _ hs
  · exact hs

theorem corroborateBy_tells (old new : NbEntry) : Tells (corroborateBy old new) := fun s hs => by
  unfold corroborateBy State.corroborate
  (repeat' split)
  · exact enterFire_tells s hs
  · exact hs
  · exact hs

theorem resolveBy_tells (old new : NbEntry) : Tells (resolveBy old new) := fun s hs => by
  unfold resolveBy
  split
  · exact resolveToward_tells _ s hs
  · exact hs

theorem recomputeIf_tells (b : Bool) : Tells (recomputeIf b) := fun s hs => by
  unfold recomputeIf
  split
  · exact recomputeEgress_tells s hs
  · exact hs

theorem forall_entryDeliveries {P : (State → State) → Prop} {old new : NbEntry} {b : Bool} (h1 : P (corroborateBy old new))
    (h2 : P (resolveBy old new)) (h3 : P (recomputeIf b)) : ∀ f ∈ [corroborateBy old new, resolveBy old new, recomputeIf b], P f := by
  intro f hf
  simp only [List.mem_cons, List.not_mem_nil, or_false] at hf
  rcases hf with rfl | rfl | rfl
  · exact h1
  · exact h2
  · exact h3

theorem changeEntry_tells (k : Fin 4) (old new : NbEntry) : Tells fun s => s.changeEntry k old new := fun s hs => by
  have hr : (entryReplaced s k old new).link.status = true := by
    unfold entryReplaced
    (repeat' split)
    · exact removeTroubles_tells _ _ hs
    · exact enterTrouble_tells _ _ hs
    · exact hs
  dsimp only
  rw [changeEntry_eq]
  exact deliver_tells (forall_entryDeliveries (corroborateBy_tells _ _) (resolveBy_tells _ _) (recomputeIf_tells _)) _ hr

theorem entryTakes_tells (f : StatusFrame) (k : Fin 4) : Tells fun s => s.entryTakes f k := fun s hs => by
  unfold State.entryTakes
  dsimp only
  split
  · exact hs
  · split
    · exact changeEntry_tells _ _ _ _ (by simpa [State.startSilence] using hs)
    · exact hs

/-- A property that every entry's share of a STATUS keeps. -/
theorem tableTakes_keeps {P : State → Prop} {f : StatusFrame} (h : ∀ k t, P t → P (t.entryTakes f k)) (s : State) (hs : P s) : P (s.tableTakes f) := by
  have hfold : ∀ (l : List (Fin 4)) t, P t → P (l.foldl (fun t k => t.entryTakes f k) t) := by
    intro l
    induction l with
    | nil => exact fun t ht => ht
    | cons k l ih => exact fun t ht => ih _ (h k t ht)
  exact hfold _ s hs

theorem tableTakes_tells (f : StatusFrame) : Tells fun s => s.tableTakes f := fun s hs =>
  tableTakes_keeps (P := fun t => t.link.status = true) (fun k t ht => entryTakes_tells f k t ht) s hs

/-! ### The pair (R6, R7) -/

/-- The pair of a heard STATUS, before the mode value follows. -/
def epochTaken (s : State) (m : Mode) (e : Byte) : State :=
  if s.modes.mode ≠ m ∨ s.modes.epoch ≠ e then State.markStatus { s with modes := { s.modes with epoch := e, settled := true } }
  else { s with modes := { s.modes with epoch := e, settled := true } }

theorem hearPair_adopts {s : State} {m : Mode} {e : Byte} (h : adopts s.modes.settled s.modes.mode m s.modes.epoch e = true) :
    s.hearPair m e = (epochTaken s m e).changeMode m := if_pos h

theorem hearPair_ignored {s : State} {m : Mode} {e : Byte} (h : adopts s.modes.settled s.modes.mode m s.modes.epoch e = false) :
    s.hearPair m e = s := if_neg (by simp [h])

theorem epochTaken_modes (s : State) (m : Mode) (e : Byte) :
    (epochTaken s m e).modes = { s.modes with epoch := e, settled := true } := by
  unfold epochTaken
  split <;> rfl

theorem epochTaken_rest (s : State) (m : Mode) (e : Byte) :
    epochTaken s m e = { s with modes := (epochTaken s m e).modes, link := (epochTaken s m e).link } := by
  unfold epochTaken
  split <;> rfl

theorem epochTaken_marks (s : State) (m : Mode) (e : Byte) :
    ((s.modes.mode ≠ m ∨ s.modes.epoch ≠ e) → (epochTaken s m e).link.status = true)
    ∧ (s.link.status = true → (epochTaken s m e).link.status = true) := by
  unfold epochTaken
  refine ⟨fun h => by rw [if_pos h]; rfl, fun h => ?_⟩
  split
  · rfl
  · exact h

theorem hearPair_tells (m : Mode) (e : Byte) : Tells fun s => s.hearPair m e := fun s hs => by
  cases h : adopts s.modes.settled s.modes.mode m s.modes.epoch e with
  | true =>
    dsimp only
    rw [hearPair_adopts h]
    exact changeMode_tells m _ ((epochTaken_marks s m e).2 hs)
  | false => simpa [hearPair_ignored h] using hs

/-- A pair is not newer than itself. -/
theorem adopts_own (m : Mode) (e : Byte) : adopts true m m e e = false := by
  simp [adopts]

/-! ### The three deliveries -/

theorem forall_statusDeliveries {P : (State → State) → Prop} {f : StatusFrame} (h1 : P fun t => t.hearPair (modeOfCode f.mode) f.epoch)
    (h2 : P fun t => t.rosterTakes f) (h3 : P fun t => t.tableTakes f) :
    ∀ g ∈ [fun t : State => t.hearPair (modeOfCode f.mode) f.epoch, fun t => t.rosterTakes f, fun t => t.tableTakes f], P g := by
  intro g hg
  simp only [List.mem_cons, List.not_mem_nil, or_false] at hg
  rcases hg with rfl | rfl | rfl
  · exact h1
  · exact h2
  · exact h3

theorem receivedStatus_good {s : State} {f : StatusFrame} (hh : s.hearing = true) (hr : s.link.receives = true)
    (hb : (Frame.status f).isBad s.own = false) : exec (.receivedStatus f) s = .next ((goodHeard s).dispatchStatus f) :=
  congrArg Host.Outcome.next (takeFrame_good hh hr hb)

/-- The heard pair adopted, with its marks. -/
structure Adopted (s : State) (m : Mode) (e : Byte) (t : State) : Prop where
  modes : t.modes = { s.modes with mode := m, epoch := e, settled := true }
  told : s.modes.mode ≠ m ∨ s.modes.epoch ≠ e → t.link.status = true
  base : s.modes.mode ≠ m → t.light.base = baseScene m

theorem Adopted.congr {s t u : State} {m : Mode} {e : Byte} (h : Adopted s m e t) (hm : u.modes = t.modes)
    (ht : t.link.status = true → u.link.status = true) (hb : u.light.base = t.light.base) : Adopted s m e u :=
  ⟨hm.trans h.modes, fun hc => ht (h.told hc), fun hc => hb.trans (h.base hc)⟩

theorem dispatchStatus_adopts {s : State} {f : StatusFrame}
    (h : adopts s.modes.settled s.modes.mode (modeOfCode f.mode) s.modes.epoch f.epoch = true) :
    Adopted s (modeOfCode f.mode) f.epoch (s.dispatchStatus f) := by
  have hbase : ∀ t : State, (t.tableTakes f).light.base = t.light.base := fun t =>
    tableTakes_keeps (P := fun u => u.light.base = t.light.base) (fun k u hu => by simpa using hu) t rfl
  unfold State.dispatchStatus
  refine deliver_brings (Q := fun t => t.modes = s.modes) (fun t => t.hearPair (modeOfCode f.mode) f.epoch) (by simp) (fun _ _ h => h)
    (fun _ _ h => h.congr rfl id rfl) (forall_statusDeliveries (fun hn => absurd rfl hn) ?_ ?_) (forall_statusDeliveries ?_ ?_ ?_) ?_ s rfl
  · exact fun _ t ht => by simpa using ht
  · exact fun _ t ht => by simpa using ht
  · intro t ht
    dsimp only
    rw [hearPair_ignored (by rw [ht.modes]; exact adopts_own _ _)]
    exact ht
  · exact fun t ht => ht.congr (by simp) (rosterTakes_tells f t) (by simp)
  · exact fun t ht => ht.congr (by simp) (tableTakes_tells f t) (hbase t)
  · intro t ht
    have hmode : (epochTaken t (modeOfCode f.mode) f.epoch).modes = { s.modes with epoch := f.epoch, settled := true } := by
      rw [epochTaken_modes, ht]
    rw [hearPair_adopts (by rw [ht]; exact h)]
    refine ⟨by simp [hmode], fun hc => ?_, fun hc => ?_⟩
    · exact changeMode_tells _ _ ((epochTaken_marks t _ _).1 (by rw [ht]; exact hc))
    · exact (changeMode_spec (by rw [hmode]; exact hc)).1

theorem dispatchStatus_ignores {s : State} {f : StatusFrame}
    (h : adopts s.modes.settled s.modes.mode (modeOfCode f.mode) s.modes.epoch f.epoch = false) : (s.dispatchStatus f).modes = s.modes := by
  unfold State.dispatchStatus
  refine deliver_induct (fun t => t.modes = s.modes) (fun _ _ h => h) _ (forall_statusDeliveries ?_ ?_ ?_) s rfl
  · intro t ht
    dsimp only
    rw [hearPair_ignored (by rw [ht]; exact h)]
    exact ht
  · exact fun t ht => by simpa using ht
  · exact fun t ht => by simpa using ht

/-- Settles O14: the deliveries of a STATUS change the pair only by adopting it, and adopt it once. -/
theorem heardPairIsAdoptedOrIgnored : Obligations.HeardPairIsAdoptedOrIgnored := by
  refine ⟨fun s f hh hr hb hc => ?_, fun s f hh hr hb hs hc => ?_⟩
  · have hadopts : adopts s.modes.settled s.modes.mode (modeOfCode f.mode) s.modes.epoch f.epoch = true := by
      rcases hc with h | h | ⟨he, h⟩
      · simp [adopts, h]
      · unfold adopts
        dsimp only
        generalize (f.epoch - s.modes.epoch).toNat = d at h ⊢
        simp [h]
      · rcases h with ⟨h1, h2⟩ | ⟨h1, h2⟩
        · rw [he, h1]
          revert h2
          cases modeOfCode f.mode <;> simp [adopts, Mode.security]
        · simp [adopts, he, h1, h2, Mode.security]
    have hA := dispatchStatus_adopts (s := goodHeard s) (f := f) (by simpa using hadopts)
    obtain ⟨hmodes, htold, hbase⟩ := hA
    simp only [goodHeard_keeps] at hmodes htold hbase
    exact ⟨_, receivedStatus_good hh hr hb, hmodes, htold, hbase, by simp, by simp, by simp⟩
  · have hignores : adopts s.modes.settled s.modes.mode (modeOfCode f.mode) s.modes.epoch f.epoch = false := by
      rw [hs]
      rcases hc with h | ⟨he, h⟩
      · unfold adopts
        dsimp only
        generalize (f.epoch - s.modes.epoch).toNat = d at h ⊢
        have h1 : ¬ d ≤ 127 := by omega
        have h2 : d ≠ 0 := by omega
        simp [h1, h2]
      · rw [he]
        rcases h with h | h | ⟨h1, h2⟩
        · rw [h]
          exact adopts_own _ _
        · rw [h]
          cases modeOfCode f.mode <;> simp [adopts, Mode.security]
        · rw [h1, h2]
          simp [adopts, Mode.security]
    have hI := dispatchStatus_ignores (s := goodHeard s) (f := f) (by simpa using hignores)
    exact ⟨_, receivedStatus_good hh hr hb, hI.trans (by simp)⟩

end Sys2Proof.Proofs.HeardPair
end

section
/-! A STATUS received (R111 to R118, R27) and the silence of a neighbour (R115). -/

namespace Sys2Proof.Proofs.StatusFrames

open Sys2Proof Sys2Proof.Machine Sys2Proof.Proofs.PartFrames Sys2Proof.Proofs.Steps Sys2Proof.Proofs.ResetUnit
open Sys2Proof.Proofs.DoorDrive Sys2Proof.Proofs.DoorRules Sys2Proof.Proofs.FireEvents Sys2Proof.Proofs.ModeChange
open Sys2Proof.Proofs.FireDeclared Sys2Proof.Proofs.RestoreKey Sys2Proof.Proofs.HeardPair Sys2Proof.Proofs.CallAnswers Sys2Proof.Proofs.CallEvents Sys2Proof.Proofs.StartFrame

/-! ### What no STATUS changes -/

/-- The parts that no share of a STATUS writes. -/
def heldView (s : State) := (s.fire.loops, s.watch.localLatch, s.watch.intrusion, s.watch.inputs, s.modes.keyPosition,
  (s.start.phase, s.start.kind, s.start.image, s.start.condition, s.start.attempts, s.start.request),
  s.link.offer, s.link.discards, s.link.bus, (fun d : Fin 4 => ((s.door d).position, (s.door d).desc)), s.doors.passage)

theorem hearPair_view (s : State) (m : Mode) (e : Byte) : heldView (s.hearPair m e) = heldView s := by
  cases h : adopts s.modes.settled s.modes.mode m s.modes.epoch e with
  | true =>
    obtain ⟨u, hu⟩ : ∃ u, u = epochTaken s m e := ⟨_, rfl⟩
    have hv : heldView u = heldView s := by
      rw [hu]
      unfold epochTaken
      split <;> rfl
    rw [hearPair_adopts h, ← hu, ← hv]
    simp [heldView, changeMode_loops]
  | false => rw [hearPair_ignored h]

theorem setSounderSilenced_door (s : State) (b : Bool) (d : Fin 4) : (s.setSounderSilenced b).door d = s.door d := by simp [State.door]

theorem rosterTakes_view (s : State) (f : StatusFrame) : heldView (s.rosterTakes f) = heldView s := by
  have hset : ∀ l d, (s.setRoster l).door d = s.door d := fun _ _ => rfl
  have hsite : ∀ d, ((s.rosterTakes f).door d).position = (s.door d).position ∧ ((s.rosterTakes f).door d).desc = (s.door d).desc := fun d => by
    unfold State.rosterTakes
    dsimp only
    (repeat' split) <;> simp [hset, setSounderSilenced_door]
  simp [heldView, hsite]

theorem startSilence_door (s : State) (k d : Fin 4) : (s.startSilence k).door d = s.door d := by simp [State.door, State.startSilence]

theorem entryTakes_view (s : State) (f : StatusFrame) (k : Fin 4) : heldView (s.entryTakes f k) = heldView s := by
  have hsite : ∀ d, ((s.entryTakes f k).door d).position = (s.door d).position ∧ ((s.entryTakes f k).door d).desc = (s.door d).desc := fun d => by
    unfold State.entryTakes
    (repeat' split) <;> simp [startSilence_door]
  simp [heldView, hsite]

theorem tableTakes_view (s : State) (f : StatusFrame) : heldView (s.tableTakes f) = heldView s :=
  tableTakes_keeps (P := fun t => heldView t = heldView s) (fun k t ht => (entryTakes_view t f k).trans ht) s rfl

theorem dispatchStatus_view (s : State) (f : StatusFrame) : heldView (s.dispatchStatus f) = heldView s :=
  deliver_keeps heldView (fun _ _ => rfl) _
    (forall_statusDeliveries (fun t => hearPair_view t _ _) (fun t => rosterTakes_view t f) (fun t => tableTakes_view t f)) s

/-! ### Channels -/

/-- A channel that neither the doors nor the fire, watch and link units count on. -/
structure Aside (c : Chan) : Prop where
  door : ∀ d : Fin 4, c ≠ .door d
  fire : c ≠ .t0 ∧ c ≠ .pair
  refresh : c ≠ .t15
  guard : c ≠ .t18

theorem silence_aside (k : Fin 4) : Aside (.silence k) := ⟨by simp, by simp, by simp, by simp⟩

theorem enterFire_channel {s : State} {c : Chan} (h : Aside c) : s.enterFire.channel c = s.channel c := by
  by_cases hf : s.fire.state = .fire
  · exact congrArg (fun t : State => t.channel c) (if_pos hf)
  · rw [enterFire_eq hf, recomputeEvac_channel h.door h.refresh, fireStateSet_channel, verificationEnded_channel, if_neg (by simp [h.fire])]

theorem watchModeChange_channel {s : State} {c : Chan} (h : Aside c) (old : Mode) : (s.watchModeChange old).channel c = s.channel c := by
  have hg : ∀ g, (s.setGuard g).channel c = s.channel c := fun g => channel_congr (by simp) c
  have hne : Chan.t18 ≠ c := Ne.symm h.guard
  unfold State.watchModeChange
  (repeat' split)
  · rfl
  · exact (State.startTimer_other _ _ _ _ _ _ _ hne).trans (hg _)
  · have hr : (((s.setGuard .opened).stopTimer .t18).endRound).channel c = ((s.setGuard .opened).stopTimer .t18).channel c :=
      channel_congr (by simp) c
    rw [hr, State.stopTimer_channel, if_neg hne, hg]
  · rfl

theorem changeMode_channel {s : State} {m : Mode} {c : Chan} (h : Aside c) : (s.changeMode m).channel c = s.channel c := by
  by_cases hm : s.modes.mode = m
  · subst hm
    rw [changeMode_same]
  · have hd : (modeDelivered s m).channel c = s.channel c := by
      refine deliver_keeps (·.channel c) (fun _ _ => rfl) _ (forall_modeDeliveries (fun t => resolveAll_channel h.door) fun t => ?_)
        { s with modes := { s.modes with mode := m } }
      unfold State.fireModeChange
      split
      · exact enterFire_channel h
      · rfl
    rw [changeMode_changed hm, watchModeChange_channel h]
    exact (channel_congr (by simp) c).trans hd

theorem hearPair_channel {s : State} {m : Mode} {e : Byte} {c : Chan} (h : Aside c) : (s.hearPair m e).channel c = s.channel c := by
  cases ha : adopts s.modes.settled s.modes.mode m s.modes.epoch e with
  | true =>
    rw [hearPair_adopts ha, changeMode_channel h, epochTaken_rest]
    rfl
  | false => rw [hearPair_ignored ha]

theorem rosterTakes_channel {s : State} {f : StatusFrame} {c : Chan} (h : Aside c) : (s.rosterTakes f).channel c = s.channel c := by
  have hset : ∀ l, (s.setRoster l).channel c = s.channel c := fun _ => rfl
  have hsil : ∀ (t : State) b, (t.setSounderSilenced b).channel c = t.channel c := fun t b => channel_congr (by simp) c
  unfold State.rosterTakes
  dsimp only
  (repeat' split)
  · rfl
  · rw [hsil, recomputeEvac_channel h.door h.refresh, hset]
  · rw [recomputeEvac_channel h.door h.refresh, hset]
  · rfl

theorem changeEntry_channel {s : State} {k : Fin 4} {old new : NbEntry} {c : Chan} (h : Aside c) :
    (s.changeEntry k old new).channel c = s.channel c := by
  have hr : (entryReplaced s k old new).channel c = s.channel c := channel_congr (by simp) c
  rw [changeEntry_eq, ← hr]
  refine deliver_keeps (·.channel c) (fun _ _ => rfl) _ (forall_entryDeliveries (fun t => ?_) (fun t => ?_) (fun t => channel_congr (by simp) c)) _
  · unfold corroborateBy State.corroborate
    (repeat' split)
    · exact enterFire_channel h
    · rfl
    · rfl
  · unfold resolveBy
    split
    · exact resolves_channel h.door _ _
    · rfl

/-! ### The fire state -/

/-- The fire state is as it was, or a VERIFY has become FIRE. -/
def Burns (s t : State) : Prop := t.fire.state = s.fire.state ∨ (s.fire.state = .verify ∧ t.fire.state = .fire)

theorem Burns.trans {s t u : State} (h : Burns s t) (k : Burns t u) : Burns s u := by
  rcases h with h | ⟨h1, h2⟩ <;> rcases k with k | ⟨k1, k2⟩
  · exact .inl (k.trans h)
  · exact .inr ⟨h.symm.trans k1, k2⟩
  · exact .inr ⟨h1, k.trans h2⟩
  · rw [h2] at k1; cases k1

theorem enterFire_burns {s : State} (h : s.fire.state = .verify) : Burns s s.enterFire := by
  refine .inr ⟨h, ?_⟩
  rw [enterFire_eq (by rw [h]; decide)]
  simp

theorem deliver_burns {fs : List (State → State)} (h : ∀ f ∈ fs, ∀ t, Burns t (f t)) (s : State) : Burns s (deliver fs s) :=
  deliver_induct (Burns s) (fun _ _ h => h) fs (fun f hf t ht => ht.trans (h f hf t)) s (.inl rfl)

theorem hearPair_burns (s : State) (m : Mode) (e : Byte) : Burns s (s.hearPair m e) := by
  have hchange : ∀ u : State, Burns u (u.changeMode m) := fun u => by
    by_cases hm : u.modes.mode = m
    · subst hm
      rw [changeMode_same]
      exact .inl rfl
    · have hd : Burns u (modeDelivered u m) := by
        refine deliver_burns (forall_modeDeliveries (fun t => .inl (by simp)) fun t => ?_) { u with modes := { u.modes with mode := m } }
        unfold State.fireModeChange
        split
        next h => exact enterFire_burns h.1
        next => exact .inl rfl
      rw [changeMode_changed hm]
      exact hd.trans (.inl (by simp))
  cases ha : adopts s.modes.settled s.modes.mode m s.modes.epoch e with
  | true =>
    rw [hearPair_adopts ha]
    exact (show Burns s (epochTaken s m e) from .inl (by rw [epochTaken_rest])).trans (hchange _)
  | false =>
    rw [hearPair_ignored ha]
    exact .inl rfl

theorem changeEntry_burns (s : State) (k : Fin 4) (old new : NbEntry) : Burns s (s.changeEntry k old new) := by
  rw [changeEntry_eq]
  refine (show Burns s (entryReplaced s k old new) from .inl (by simp)).trans (deliver_burns (forall_entryDeliveries (fun t => ?_)
    (fun t => .inl (by simp)) (fun t => .inl (by simp))) _)
  unfold corroborateBy State.corroborate
  (repeat' split)
  next h => exact enterFire_burns h
  · exact .inl rfl
  · exact .inl rfl

/-- R27: a report that becomes corroborating ends a verification in FIRE. -/
theorem changeEntry_fires {s : State} {k : Fin 4} {old new : NbEntry} (ho : old.corroborating = false) (hn : new.corroborating = true)
    (hs : s.fire.state = .verify ∨ s.fire.state = .fire) : (s.changeEntry k old new).fire.state = .fire := by
  have hb : ∀ t, Burns t (corroborateBy old new t) ∧ (t.fire.state = .verify → (corroborateBy old new t).fire.state = .fire) := fun t => by
    unfold corroborateBy State.corroborate
    rw [if_pos (by simp [ho, hn])]
    split
    next h =>
      have hf := enterFire_burns h
      refine ⟨hf, fun _ => ?_⟩
      rcases hf with hf | hf
      · rw [enterFire_eq (by rw [h]; decide)]
        simp
      · exact hf.2
    next h => exact ⟨.inl rfl, fun hv => absurd hv h⟩
  have hstep : ∀ t : State, t.fire.state = .verify ∨ t.fire.state = .fire → (corroborateBy old new t).fire.state = .fire := fun t ht => by
    rcases ht with ht | ht
    · exact (hb t).2 ht
    · rcases (hb t).1 with h | h
      · exact h.trans ht
      · exact h.2
  rw [changeEntry_eq]
  refine deliver_brings (Q := fun t => t.fire.state = .verify ∨ t.fire.state = .fire) (R := fun t => t.fire.state = .fire)
    (fs := [corroborateBy old new, resolveBy old new, recomputeIf (s.egressInputChanged old new)]) (corroborateBy old new) (by simp) (fun _ _ h => h) (fun _ _ h => h)
    (forall_entryDeliveries ?_ ?_ ?_) (forall_entryDeliveries ?_ ?_ ?_) (fun t ht => hstep t ht) _ (by simpa using hs)
  · exact fun _ t ht => .inr (hstep t ht)
  · exact fun _ t ht => by simpa using ht
  · exact fun _ t ht => by simpa using ht
  · exact fun t ht => hstep t (.inr ht)
  · exact fun t ht => by simpa using ht
  · exact fun t ht => by simpa using ht

theorem entryTakes_hit {s : State} {f : StatusFrame} {k : Fin 4} {e : NbEntry} (hk : s.table.entries[k] = some e) (he : e.station = f.source) :
    s.entryTakes f k = (s.startSilence k).changeEntry k e (entryOfStatus f) := by
  simp only [State.entryTakes, hk, he, if_true]

theorem entryTakes_miss {s : State} {f : StatusFrame} {k : Fin 4} (h : ∀ e, s.table.entries[k] = some e → e.station ≠ f.source) :
    s.entryTakes f k = s := by
  unfold State.entryTakes
  split
  · rfl
  next old hk => exact if_neg (h old hk)

theorem startSilence_burns (s : State) (k : Fin 4) : Burns s (s.startSilence k) := .inl (by simp [State.startSilence])

theorem entryTakes_burns (s : State) (f : StatusFrame) (k : Fin 4) : Burns s (s.entryTakes f k) := by
  unfold State.entryTakes
  split
  · exact .inl rfl
  · split
    · exact (startSilence_burns s k).trans (changeEntry_burns _ _ _ _)
    · exact .inl rfl

/-! ### The entry of the source (R111, R112) -/

/-- An entry's share of a STATUS leaves every other entry and silence timer. -/
theorem entryTakes_other {s : State} {f : StatusFrame} {k j : Fin 4} (h : j ≠ k) :
    (s.entryTakes f j).table.entries[k] = s.table.entries[k] ∧ (s.entryTakes f j).channel (.silence k) = s.channel (.silence k) := by
  unfold State.entryTakes
  split
  · exact ⟨rfl, rfl⟩
  · split
    · have hne : (j : Nat) ≠ k := fun hc => h (Fin.ext hc)
      refine ⟨?_, ?_⟩
      · simp [State.setEntry, State.startSilence, hne]
      · rw [changeEntry_channel (silence_aside k)]
        exact State.startTimer_other _ _ _ _ _ _ _ (by simpa using h)
    · exact ⟨rfl, rfl⟩

theorem mem_entryReplaced {s : State} {k : Fin 4} {old new : NbEntry} (hn : new.state = .fresh) {x : Trouble} :
    x ∈ (entryReplaced s k old new).troubles.record ↔
      x ∈ s.troubles.record ∧ ¬ (old.state = .mute ∧ x = .neighbourMute new.station) := by
  unfold entryReplaced
  by_cases hm : old.state = .mute
  · rw [if_pos ⟨hm, by rw [hn]; decide⟩, (removeTrouble_spec _ _).1]
    simp [State.setEntry, hm]
  · rw [if_neg (fun h => hm h.1), if_neg (fun h => by rw [hn] at h; exact absurd h.2 (by decide))]
    simp [State.setEntry, hm]

theorem changeEntry_troubles (s : State) (k : Fin 4) (old new : NbEntry) :
    (s.changeEntry k old new).troubles = (entryReplaced s k old new).troubles := by
  rw [changeEntry_eq]
  exact deliver_keeps (·.troubles) (fun _ _ => rfl) _ (by simp) _

theorem entryTakes_troubles {s : State} {f : StatusFrame} {k : Fin 4} {x : Trouble} (h : x ∈ (s.entryTakes f k).troubles.record) :
    x ∈ s.troubles.record := by
  revert h
  unfold State.entryTakes
  split
  · exact id
  · split
    · rw [changeEntry_troubles, mem_entryReplaced rfl]
      exact fun h => by simpa [State.startSilence] using h.1
    · exact id

/-- The entry `e` at place `k` is still the one that `s` found. -/
structure Waits (s : State) (k : Fin 4) (e : NbEntry) (t : State) : Prop where
  phase : t.start.phase = s.start.phase
  image : t.start.image = s.start.image
  entry : t.table.entries[k] = some e
  fire : s.fire.state = .verify → t.fire.state = .verify ∨ t.fire.state = .fire

/-- The entry at place `k` has taken the STATUS. -/
structure Refreshed (s : State) (f : StatusFrame) (k : Fin 4) (e : NbEntry) (t : State) : Prop where
  phase : t.start.phase = s.start.phase
  image : t.start.image = s.start.image
  entry : t.table.entries[k] = some (entryOfStatus f)
  timer : t.channel (.silence k) = Channel.fresh s.cfg.silence .ms100 .oneShot 0
  sound : e.state = .mute → Trouble.neighbourMute f.source ∉ t.troubles.record
  fire : s.fire.state = .verify → e.corroborating = false → f.fire ≠ 0 → t.fire.state = .fire

theorem Waits.congr {s t u : State} {k : Fin 4} {e : NbEntry} (h : Waits s k e t) (hp : u.start.phase = t.start.phase)
    (hi : u.start.image = t.start.image) (he : u.table.entries[k] = t.table.entries[k]) (hf : Burns t u) : Waits s k e u := by
  refine ⟨hp.trans h.phase, hi.trans h.image, he.trans h.entry, fun hv => ?_⟩
  rcases hf with hf | ⟨-, hf⟩
  · rw [hf]; exact h.fire hv
  · exact .inr hf

theorem Refreshed.congr {s t u : State} {f : StatusFrame} {k : Fin 4} {e : NbEntry} (h : Refreshed s f k e t)
    (hp : u.start.phase = t.start.phase) (hi : u.start.image = t.start.image) (he : u.table.entries[k] = t.table.entries[k])
    (hc : u.channel (.silence k) = t.channel (.silence k)) (hr : ∀ x ∈ u.troubles.record, x ∈ t.troubles.record) (hf : Burns t u) :
    Refreshed s f k e u := by
  refine ⟨hp.trans h.phase, hi.trans h.image, he.trans h.entry, hc.trans h.timer, fun hm hx => h.sound hm (hr _ hx), fun hv hn h0 => ?_⟩
  have hb := h.fire hv hn h0
  rcases hf with hf | ⟨-, hf⟩
  · exact hf.trans hb
  · exact hf

theorem fireOfCode_clear_iff (c : BitVec 2) : fireOfCode c = .clear ↔ c = 0 := by
  revert c; decide

theorem fireOfCode_fire_iff (c : BitVec 2) : fireOfCode c = .fire ↔ c = 3 := by
  revert c; decide

theorem entryOfStatus_corroborating {f : StatusFrame} (h : f.fire ≠ 0) : (entryOfStatus f).corroborating = true := by
  have hc : fireOfCode f.fire ≠ .clear := fun hc => h ((fireOfCode_clear_iff _).mp hc)
  simp [NbEntry.corroborating, entryOfStatus, hc]

theorem startSilence_channel {s : State} {k : Fin 4} (h : s.start.phase ≠ .configRead) :
    (s.startSilence k).channel (.silence k) = Channel.fresh s.cfg.silence .ms100 .oneShot 0 :=
  (State.startTimer_channel _ _ _ _ _ _ _ h).trans (if_pos rfl)

theorem Waits.takes {s t : State} {f : StatusFrame} {k : Fin 4} {e : NbEntry} (h : Waits s k e t) (hs : s.start.phase ≠ .configRead)
    (he : e.station = f.source) : Refreshed s f k e (t.entryTakes f k) := by
  have hcfg : t.cfg = s.cfg := by simp only [State.cfg, h.image]
  have heq := entryTakes_hit h.entry he
  refine ⟨by simpa using h.phase, by simpa using h.image, ?_, ?_, fun hm => ?_, fun hv hc h0 => ?_⟩
  · simp [heq, State.setEntry]
  · rw [heq, changeEntry_channel (silence_aside k), startSilence_channel (h.phase ▸ hs), hcfg]
  · rw [heq, changeEntry_troubles, mem_entryReplaced rfl]
    exact fun hx => hx.2 ⟨hm, rfl⟩
  · rw [heq]
    exact changeEntry_fires hc (entryOfStatus_corroborating h0) (by simpa [State.startSilence] using h.fire hv)

theorem Refreshed.takes {s t : State} {f : StatusFrame} {k : Fin 4} {e : NbEntry} (h : Refreshed s f k e t) (hs : s.start.phase ≠ .configRead)
    (j : Fin 4) : Refreshed s f k e (t.entryTakes f j) := by
  by_cases hj : j = k
  · subst hj
    have hcfg : t.cfg = s.cfg := by simp only [State.cfg, h.image]
    have heq := entryTakes_hit (s := t) (f := f) h.entry rfl
    refine h.congr (by simp) (by simp) ?_ ?_ (fun x hx => entryTakes_troubles hx) (entryTakes_burns _ _ _)
    · rw [h.entry]
      simp [heq, State.setEntry]
    · rw [h.timer, heq, changeEntry_channel (silence_aside j), startSilence_channel (h.phase ▸ hs), hcfg]
  · obtain ⟨he, hc⟩ := entryTakes_other (s := t) (f := f) hj
    exact h.congr (by simp) (by simp) he hc (fun x hx => entryTakes_troubles hx) (entryTakes_burns _ _ _)

/-- One entry's share brings about what the other shares keep. -/
theorem tableTakes_brings {Q R : State → Prop} {f : StatusFrame} (k : Fin 4) (hQ : ∀ j, j ≠ k → ∀ t, Q t → Q (t.entryTakes f j))
    (hR : ∀ j t, R t → R (t.entryTakes f j)) (hk : ∀ t, Q t → R (t.entryTakes f k)) (s : State) (hs : Q s) : R (s.tableTakes f) := by
  have hafter : ∀ (l : List (Fin 4)) t, R t → R (l.foldl (fun t j => t.entryTakes f j) t) := fun l => by
    induction l with
    | nil => exact fun t ht => ht
    | cons j l ih => exact fun t ht => ih _ (hR j t ht)
  have hfold : ∀ (l : List (Fin 4)) t, k ∈ l → Q t → R (l.foldl (fun t j => t.entryTakes f j) t) := fun l => by
    induction l with
    | nil => exact fun t hmem => absurd hmem List.not_mem_nil
    | cons j l ih =>
      intro t hmem ht
      by_cases hj : j = k
      · exact hafter l _ (hj ▸ hk t ht)
      · exact ih _ ((List.mem_cons.mp hmem).resolve_left (Ne.symm hj)) (hQ j hj t ht)
  exact hfold _ s (List.mem_finRange k) hs

theorem tableTakes_refreshes {s t : State} {f : StatusFrame} {k : Fin 4} {e : NbEntry} (hs : s.start.phase ≠ .configRead)
    (he : e.station = f.source) (h : Waits s k e t) : Refreshed s f k e (t.tableTakes f) :=
  tableTakes_brings k (fun j hj u hu => hu.congr (by simp) (by simp) (entryTakes_other hj).1 (entryTakes_burns _ _ _))
    (fun j u hu => hu.takes hs j) (fun u hu => hu.takes hs he) t h

theorem dispatchStatus_refreshes {s : State} {f : StatusFrame} {k : Fin 4} {e : NbEntry} (hs : s.start.phase ≠ .configRead)
    (hk : s.table.entries[k] = some e) (he : e.station = f.source) : Refreshed s f k e (s.dispatchStatus f) := by
  have hroster : ∀ t : State, Burns t (t.rosterTakes f) := fun t => .inl (by simp)
  unfold State.dispatchStatus
  refine deliver_brings (Q := Waits s k e) (R := Refreshed s f k e) (fun t => t.tableTakes f) (by simp) (fun _ _ h => h.congr rfl rfl rfl (.inl rfl))
    (fun _ _ h => h.congr rfl rfl rfl rfl (fun _ hx => hx) (.inl rfl)) (forall_statusDeliveries ?_ ?_ ?_) (forall_statusDeliveries ?_ ?_ ?_)
    (fun t ht => tableTakes_refreshes hs he ht) s ⟨rfl, rfl, hk, .inl⟩
  · exact fun _ t ht => ht.congr (by simp) (by simp) (by simp) (hearPair_burns _ _ _)
  · exact fun _ t ht => ht.congr (by simp) (by simp) (by simp) (hroster t)
  · exact fun hn => absurd rfl hn
  · exact fun t ht => ht.congr (by simp) (by simp) (by simp) (hearPair_channel (silence_aside k)) (by simp) (hearPair_burns _ _ _)
  · exact fun t ht => ht.congr (by simp) (by simp) (by simp) (rosterTakes_channel (silence_aside k)) (by simp) (hroster t)
  · exact fun t ht => tableTakes_keeps (P := Refreshed s f k e) (fun j u hu => hu.takes hs j) t ht

theorem dispatchStatus_other {s : State} {f : StatusFrame} {k : Fin 4} (h : ∀ e, s.table.entries[k] = some e → e.station ≠ f.source) :
    (s.dispatchStatus f).table.entries[k] = s.table.entries[k] ∧ (s.dispatchStatus f).channel (.silence k) = s.channel (.silence k) := by
  have htakes : ∀ (j : Fin 4) (t : State), (t.table.entries[k] = s.table.entries[k] ∧ t.channel (.silence k) = s.channel (.silence k)) →
      (t.entryTakes f j).table.entries[k] = s.table.entries[k] ∧ (t.entryTakes f j).channel (.silence k) = s.channel (.silence k) := by
    intro j t ht
    by_cases hj : j = k
    · subst hj
      rwa [entryTakes_miss fun e he => h e (ht.1.symm.trans he)]
    · obtain ⟨he, hc⟩ := entryTakes_other (s := t) (f := f) hj
      exact ⟨he.trans ht.1, hc.trans ht.2⟩
  refine deliver_induct (fun t : State => t.table.entries[k] = s.table.entries[k] ∧ t.channel (.silence k) = s.channel (.silence k))
    (fun _ _ h => h) _ (forall_statusDeliveries ?_ ?_ ?_) s ⟨rfl, rfl⟩
  · exact fun t ht => ⟨by simpa using ht.1, (hearPair_channel (silence_aside k)).trans ht.2⟩
  · exact fun t ht => ⟨by simpa using ht.1, (rosterTakes_channel (silence_aside k)).trans ht.2⟩
  · exact fun t ht => tableTakes_keeps htakes t ht

/-! ### The fire roster (R118) -/

/-- A roster as a STATUS leaves it: the source is a marked member or no member, and the others stay. -/
structure RosterHeard (f : StatusFrame) (l l' : List Member) : Prop where
  marked : f.fire = 3 → (∃ m ∈ l', m.station = f.source) ∧ ∀ m ∈ l', m.station = f.source → m.mark = true
  gone : f.fire ≠ 3 → ∀ m ∈ l', m.station ≠ f.source
  others : ∀ m : Member, m.station ≠ f.source → (m ∈ l' ↔ m ∈ l)

theorem RosterHeard.after {f : StatusFrame} {l l' l'' : List Member} (h : RosterHeard f l l') (k : RosterHeard f l' l'') : RosterHeard f l l'' :=
  ⟨k.marked, k.gone, fun m hm => (k.others m hm).trans (h.others m hm)⟩

theorem rosterHeard_marked {f : StatusFrame} {l : List Member} (hf : f.fire = 3) (h : (l.any fun m => m.station == f.source) = true) :
    RosterHeard f l (l.map fun m => if m.station = f.source then { m with mark := true } else m) := by
  obtain ⟨x, hx, hxs⟩ := List.any_eq_true.mp h
  have hxs : x.station = f.source := by simpa using hxs
  refine ⟨fun _ => ⟨⟨_, List.mem_map_of_mem hx, by simp [hxs]⟩, fun m hm hms => ?_⟩, fun hn => absurd hf hn, fun m hm => ?_⟩
  · obtain ⟨y, -, rfl⟩ := List.mem_map.mp hm
    by_cases hy : y.station = f.source
    · simp [hy]
    · exact absurd hms (by simp [hy])
  · rw [List.mem_map]
    constructor
    · rintro ⟨y, hy, rfl⟩
      by_cases hys : y.station = f.source
      · exact absurd (by simp [hys]) hm
      · rwa [if_neg hys]
    · exact fun hml => ⟨m, hml, if_neg hm⟩

theorem rosterHeard_added {f : StatusFrame} {l : List Member} (hf : f.fire = 3) (h : (l.any fun m => m.station == f.source) = false) :
    RosterHeard f l (l ++ [{ station := f.source, mark := true }]) := by
  have hno : ∀ m ∈ l, m.station ≠ f.source := by simpa using h
  refine ⟨fun _ => ⟨⟨_, List.mem_append_right _ (List.mem_singleton_self _), rfl⟩, fun m hm hms => ?_⟩, fun hn => absurd hf hn, fun m hm => ?_⟩
  · rcases List.mem_append.mp hm with hm | hm
    · exact absurd hms (hno m hm)
    · rw [List.mem_singleton.mp hm]
  · rw [List.mem_append, List.mem_singleton]
    exact ⟨fun h => h.resolve_right fun he => hm (by rw [he]), .inl⟩

theorem rosterHeard_removed {f : StatusFrame} {l : List Member} (hf : f.fire ≠ 3) : RosterHeard f l (l.filter fun m => m.station != f.source) :=
  ⟨fun h => absurd h hf, fun _ m hm => by simpa using (List.mem_filter.mp hm).2, fun m hm => by simp [hm]⟩

theorem rosterHeard_absent {f : StatusFrame} {l : List Member} (hf : f.fire ≠ 3) (h : (l.any fun m => m.station == f.source) = false) :
    RosterHeard f l l :=
  ⟨fun h => absurd h hf, fun _ => by simpa using h, fun _ _ => Iff.rfl⟩

theorem rosterTakes_heard (s : State) (f : StatusFrame) : RosterHeard f s.table.roster (s.rosterTakes f).table.roster := by
  unfold State.rosterTakes
  dsimp only
  by_cases hf : f.fire = 3
  · rw [if_pos ((fireOfCode_fire_iff _).mpr hf)]
    split
    next h => exact rosterHeard_marked hf h
    next h => simpa using rosterHeard_added hf (Bool.eq_false_iff.mpr h)
  · rw [if_neg fun hc => hf ((fireOfCode_fire_iff _).mp hc)]
    split
    next h => simpa using rosterHeard_removed hf
    next h => exact rosterHeard_absent hf (Bool.eq_false_iff.mpr h)

theorem dispatchStatus_roster (s : State) (f : StatusFrame) : RosterHeard f s.table.roster (s.dispatchStatus f).table.roster := by
  have htable : ∀ t : State, (t.tableTakes f).table.roster = t.table.roster := fun t =>
    tableTakes_keeps (P := fun u => u.table.roster = t.table.roster) (fun k u hu => by simpa using hu) t rfl
  unfold State.dispatchStatus
  refine deliver_brings (Q := fun t => t.table.roster = s.table.roster) (R := fun t => RosterHeard f s.table.roster t.table.roster)
    (fun t => t.rosterTakes f) (by simp) (fun _ _ h => h) (fun _ _ h => h) (forall_statusDeliveries ?_ ?_ ?_) (forall_statusDeliveries ?_ ?_ ?_)
    (fun t ht => ?_) s rfl
  · exact fun _ t ht => by simpa using ht
  · exact fun hn => absurd rfl hn
  · exact fun _ t ht => (htable t).trans ht
  · exact fun t ht => by simpa using ht
  · exact fun t ht => ht.after (rosterTakes_heard t f)
  · exact fun t ht => by rwa [htable]
  · exact ht ▸ rosterTakes_heard t f

/-! ### Silence (R115) -/

/-- An entry that nothing has been heard for. -/
def muted (e : NbEntry) : NbEntry := { e with state := .mute }

theorem corroborateBy_muted (e : NbEntry) : corroborateBy e (muted e) = id := by
  funext t
  simp [corroborateBy, muted, NbEntry.corroborating]

theorem resolveBy_muted (e : NbEntry) : resolveBy e (muted e) = id := by
  funext t
  simp [resolveBy, muted]

theorem fallMute_eq {s : State} {k : Fin 4} {e : NbEntry} (hk : s.table.entries[k] = some e) (he : e.state ≠ .mute) :
    s.fallMute k = s.changeEntry k e (muted e) := by
  simp only [State.fallMute, hk, he, if_false]
  rfl

theorem entryReplaced_muted {s : State} {k : Fin 4} {e : NbEntry} (he : e.state ≠ .mute) :
    entryReplaced s k e (muted e) = (s.setEntry k (muted e)).enterTrouble (.neighbourMute e.station) := by
  unfold entryReplaced
  rw [if_neg fun h => he h.1, if_pos ⟨he, rfl⟩]
  rfl

theorem changeEntry_muted {s : State} {k : Fin 4} {e : NbEntry} (he : e.state ≠ .mute) :
    (s.changeEntry k e (muted e)).table = (s.setEntry k (muted e)).table
    ∧ Trouble.neighbourMute e.station ∈ (s.changeEntry k e (muted e)).troubles.record
    ∧ (s.changeEntry k e (muted e)).timers = s.timers
    ∧ s.changeEntry k e (muted e) = { s with
        table := (s.changeEntry k e (muted e)).table, troubles := (s.changeEntry k e (muted e)).troubles
        buzzer := (s.changeEntry k e (muted e)).buzzer, link := (s.changeEntry k e (muted e)).link
        egress := (s.changeEntry k e (muted e)).egress, calls := (s.changeEntry k e (muted e)).calls
        light := (s.changeEntry k e (muted e)).light, order := (s.changeEntry k e (muted e)).order } := by
  have hkeep : ∀ {α : Type} (g : State → α), (∀ t n, g (State.afterDraw t n) = g t) → (∀ b t, g (recomputeIf b t) = g t) →
      g (s.changeEntry k e (muted e)) = g ((s.setEntry k (muted e)).enterTrouble (.neighbourMute e.station)) := fun g hd hg => by
    rw [changeEntry_eq, ← entryReplaced_muted he, corroborateBy_muted, resolveBy_muted]
    exact deliver_keeps g hd _ (by simp [hg]) _
  refine ⟨by simp, ?_, ?_, state_eq ?_⟩
  · rw [hkeep (·.troubles) (fun _ _ => rfl) (by simp), State.mem_enterTrouble]
    exact .inl rfl
  · simpa [State.setEntry] using hkeep (·.timers) (fun _ _ => rfl) (by simp)
  · simp [State.setEntry,
      hkeep (·.timers) (fun _ _ => rfl) (by simp), hkeep (·.fire) (fun _ _ => rfl) (by simp),
      hkeep (·.doors) (fun _ _ => rfl) (by simp), hkeep (·.start) (fun _ _ => rfl) (by simp)]

theorem fallMute_mute {s : State} {k : Fin 4} (h : ∀ e, s.table.entries[k] = some e → e.state = .mute) : s.fallMute k = s := by
  unfold State.fallMute
  split
  · rfl
  next e he => exact if_pos (h e he)

/-- Settles O36: the three deliveries of a STATUS, each with what it brings about and what the others leave of it. -/
theorem statusUpdatesEntryRosterAndFire : Obligations.StatusUpdatesEntryRosterAndFire := by
  refine ⟨fun s f k e hh hr hb hk he => ?_, fun s f hh hr hb => ?_, fun s k e hl hk he hm => ?_, fun s k hmute => ?_, fun s k hidle => ?_⟩
  · have hp : (goodHeard s).start.phase ≠ .configRead := by simpa using phase_of_hearing hh
    have href := dispatchStatus_refreshes (f := f) hp (by simpa using hk) he
    refine ⟨_, receivedStatus_good hh hr hb, ?_, ?_, href.sound, ?_⟩
    · rw [href.entry]
      have hcost : (f.cost.toNat = 0) = (f.cost = 0) := propext ⟨fun h => BitVec.eq_of_toNat_eq h, fun h => by rw [h]; rfl⟩
      simp only [entryOfStatus, costOfCode, viaOfCode, marksOfCode, hcost]
    · rw [href.timer]
      simp [State.cfg]
    · simpa using href.fire
  · have hview := dispatchStatus_view (goodHeard s) f
    simp only [heldView, Prod.mk.injEq] at hview
    obtain ⟨hloops, hlocal, hintr, hinputs, hkey, ⟨h1, h2, h3, h4, h5, h6⟩, hoffer, hdisc, hbus, hsite, hpass⟩ := hview
    have hroster := dispatchStatus_roster (goodHeard s) f
    have hlink := goodHeard_link s
    have hother : ∀ k : Fin 4, (∀ e, s.table.entries[k] = some e → e.station ≠ f.source) →
        ((goodHeard s).dispatchStatus f).table.entries[k] = s.table.entries[k]
        ∧ ((goodHeard s).dispatchStatus f).channel (.silence k) = s.channel (.silence k) := fun k hk => by
      have := dispatchStatus_other (s := goodHeard s) (f := f) (k := k) (by simpa using hk)
      simpa [State.channel] using this
    have hevac : s.EvacuationSound → ((goodHeard s).dispatchStatus f).EvacuationSound := fun hs => by
      have := Evacuation.kept.taken (.receivedStatus f) s hs
      have hex := receivedStatus_good hh hr hb
      rw [exec_eq_taken] at hex
      exact Host.Outcome.next.inj hex ▸ this
    have hsites : ∀ d : Fin 4, (((goodHeard s).dispatchStatus f).door d).position = (s.door d).position
        ∧ (((goodHeard s).dispatchStatus f).door d).desc = (s.door d).desc := fun d => by
      have := congrFun hsite d
      simpa [State.door] using this
    refine ⟨_, receivedStatus_good hh hr hb, hother, hroster.marked, hroster.gone, ?_, hevac, ?_, ?_, ?_, ?_, ?_, ?_, ?_, ?_, ?_, ?_, ?_, hsites, ?_, ?_, ?_⟩
    · simpa using hroster.others
    · simpa using hloops
    · simpa using hlocal
    · simpa using hintr
    · simpa using hinputs
    · simp
    · simpa using hkey
    · simp
    · have := start_eq (s := goodHeard s) (t := (goodHeard s).dispatchStatus f) ⟨h1, h2, h3, h4, h5, h6⟩
      simpa using this
    · rw [hdisc, hlink]
    · rw [hbus, hlink]
    · rw [hoffer, hlink]
    · simpa using hpass
    · simp
    · simp
  · obtain ⟨ch, -, hact⟩ := State.onExpiry_acts s (.silence k) (s.table.entries[k]).isSome (fun t => t.fallMute k) hl (by simp [hk]) hm
    have hfall : (s.setChannel (.silence k) ch).fallMute k = (s.setChannel (.silence k) ch).changeEntry k e (muted e) := fallMute_eq hk he
    obtain ⟨htable, htrouble, htimers, hrest⟩ := changeEntry_muted (s := s.setChannel (.silence k) ch) (k := k) he
    rw [← hfall] at htable htrouble htimers hrest
    refine ⟨_, congrArg Host.Outcome.next hact, htable, htrouble, fun c _ hc => ?_, ?_⟩
    · rw [channel_congr htimers c]
      exact (State.setChannel_channel s _ c ch).trans (if_neg (Ne.symm hc))
    · generalize (s.setChannel (.silence k) ch).fallMute k = u at htimers hrest
      rw [htimers]
      exact hrest
  · by_cases hact : s.live = true ∧ (s.table.entries[k]).isSome = true ∧ (s.channel (.silence k)).mayExpire = true
    · obtain ⟨hl, hp, hm⟩ := hact
      obtain ⟨ch, -, hact⟩ := State.onExpiry_acts s (.silence k) (s.table.entries[k]).isSome (fun t => t.fallMute k) hl hp hm
      have hfall : (s.setChannel (.silence k) ch).fallMute k = s.setChannel (.silence k) ch := fallMute_mute hmute
      refine ⟨_, congrArg Host.Outcome.next (hact.trans hfall), rfl, fun c _ hc => ?_⟩
      exact (State.setChannel_channel s _ c ch).trans (if_neg (Ne.symm hc))
    · refine ⟨_, congrArg Host.Outcome.next (State.onExpiry_idle s _ _ _ ?_), rfl, fun _ _ _ => rfl⟩
      by_cases hm : (s.channel (.silence k)).mayExpire = true
      · exact .inl (by simpa [hm] using hact)
      · exact .inr (by simpa using hm)
  · refine ⟨_, congrArg Host.Outcome.next (State.onExpiry_idle s _ _ _ ?_), rfl⟩
    rcases hidle with hn | hm
    · exact .inl (by simp [hn])
    · exact .inr hm

end Sys2Proof.Proofs.StatusFrames
end

section
/-! The tick (R17, R42, R44, R59, R136, R151, R187 to R189): the sources move, the channels count, the lines are sampled, and nothing is decided. -/

namespace Sys2Proof.Proofs.Ticks

open Sys2Proof Sys2Proof.Machine Sys2Proof.Proofs.PartFrames Sys2Proof.Proofs.Steps

/-! ### The probes: one sample of one line -/

/-- What one sample reads: the MODE key, another key, a loop, a watch input, a door's contacts, a call button. -/
inductive Probe where
  | mode
  | key (k : PanelKey)
  | loop (l : Fin 6)
  | input (i : Fin 8)
  | contacts (d : Fin 4)
  | button (p : Fin 4)

/-- The sample of a probe. -/
def sampled (s : State) : Probe → State
  | .mode => s.sampleModeKey
  | .key k => s.sampleKey k
  | .loop l => s.sampleLoop l
  | .input i => s.sampleInput i
  | .contacts d => s.samplePosition d
  | .button p => s.sampleButton p

/-- The probe whose samples raise an event. -/
def probeOf : Instr → Option Probe
  | .keyChange _ => some .mode
  | .ack => some (.key .ack)
  | .restore => some (.key .restore)
  | .accept => some (.key .accept)
  | .guard => some (.key .guard)
  | .passage => some (.key .passage)
  | .test => some (.key .test)
  | .bandChange l _ => some (.loop l)
  | .watchBandChange i _ => some (.input i)
  | .firstReading d _ | .positionChange d _ => some (.contacts d)
  | .callButtonPressed p => some (.button p)
  | _ => none

theorem probeOf_command (k : PanelKey) : probeOf k.command = some (.key k) := by
  cases k <;> rfl

/-- The record and the line of a probe are the same in both states. -/
def Same : Probe → State → State → Prop
  | .mode, s, t => t.modes = s.modes ∧ t.pins.mode = s.pins.mode
  | .key k, s, t => t.keys.get k = s.keys.get k ∧ t.pins.key k = s.pins.key k
  | .loop l, s, t => t.fire.loops[l] = s.fire.loops[l] ∧ t.pins.loops[l] = s.pins.loops[l]
  | .input i, s, t => t.watch.inputs[i] = s.watch.inputs[i] ∧ t.pins.watch[i] = s.pins.watch[i]
  | .contacts d, s, t => t.door d = s.door d ∧ t.pins.doors[d] = s.pins.doors[d]
  | .button p, s, t => t.watch.buttons[p] = s.watch.buttons[p] ∧ t.pins.buttons[p] = s.pins.buttons[p]

theorem Same.refl (q : Probe) (s : State) : Same q s s := by
  cases q <;> exact ⟨rfl, rfl⟩

theorem Same.trans {q : Probe} {s t u : State} (h : Same q s t) (k : Same q t u) : Same q s u := by
  cases q <;> exact ⟨k.1.trans h.1, k.2.trans h.2⟩

/-- At most what a sampling may change differs: filters, the key reading, the events raised, the lines let go and the free order. -/
structure Filtered (s t : State) : Prop where
  modes : t.modes = { s.modes with keyReading := t.modes.keyReading, keyFilter := t.modes.keyFilter }
  fire : t.fire = { s.fire with loops := t.fire.loops }
  loops : ∀ l : Fin 6, t.fire.loops[l] = { s.fire.loops[l] with filter := t.fire.loops[l].filter }
  watch : t.watch = { s.watch with inputs := t.watch.inputs, buttons := t.watch.buttons }
  inputs : ∀ i : Fin 8, t.watch.inputs[i] = { s.watch.inputs[i] with filter := t.watch.inputs[i].filter }
  doors : ∀ d : Fin 4, t.door d = { s.door d with filter := (t.door d).filter }
  rest : t = { s with modes := t.modes, fire := t.fire, watch := t.watch, doors := { s.doors with records := t.doors.records },
                      keys := t.keys, raised := t.raised,
                      pins := { t.pins with loops := s.pins.loops, watch := s.pins.watch, doors := s.pins.doors,
                                            mode := s.pins.mode, reset := s.pins.reset, holdHigh := s.pins.holdHigh },
                      order := t.order }

theorem Filtered.refl (s : State) : Filtered s s := ⟨rfl, rfl, fun _ => rfl, rfl, fun _ => rfl, fun _ => rfl, rfl⟩

theorem Filtered.trans {s t u : State} (h : Filtered s t) (k : Filtered t u) : Filtered s u := by
  refine ⟨?_, ?_, fun l => ?_, ?_, fun i => ?_, fun d => ?_, ?_⟩
  · exact k.modes.trans (by rw [h.modes])
  · exact k.fire.trans (by rw [h.fire])
  · exact (k.loops l).trans (by rw [h.loops l])
  · exact k.watch.trans (by rw [h.watch])
  · exact (k.inputs i).trans (by rw [h.inputs i])
  · exact (k.doors d).trans (by rw [h.doors d])
  · exact k.rest.trans (by rw [h.rest])

/-! ### The operations a sample is made of -/

theorem raise_filtered (s : State) (x : Instr) : Filtered s (s.raise x) := ⟨rfl, rfl, fun _ => rfl, rfl, fun _ => rfl, fun _ => rfl, rfl⟩

theorem raise_same (q : Probe) (s : State) (x : Instr) : Same q s (s.raise x) := by
  cases q <;> exact ⟨rfl, rfl⟩

theorem afterDraw_filtered (s : State) (n : Nat) : Filtered s (s.afterDraw n) :=
  ⟨rfl, rfl, fun _ => rfl, rfl, fun _ => rfl, fun _ => rfl, rfl⟩

theorem afterDraw_same (q : Probe) (s : State) (n : Nat) : Same q s (s.afterDraw n) := by
  cases q <;> exact ⟨rfl, rfl⟩

theorem setLoop_filtered (s : State) (l : Fin 6) (f : Machine.Filter LoopBand) : Filtered s (s.setLoop l { s.fire.loops[l] with filter := f }) := by
  refine ⟨rfl, rfl, fun j => ?_, rfl, fun _ => rfl, fun _ => rfl, rfl⟩
  rw [State.setLoop_loops]
  split
  next h => rw [h]
  next => rfl

theorem setLoop_same {q : Probe} {l : Fin 6} (h : q ≠ .loop l) (s : State) (r : LoopRec) : Same q s (s.setLoop l r) := by
  cases q with
  | loop j => exact ⟨(State.setLoop_loops s l j r).trans (if_neg fun hc : l = j => h (hc ▸ rfl)), rfl⟩
  | _ => exact ⟨rfl, rfl⟩

theorem setInput_filtered (s : State) (i : Fin 8) (f : Machine.Filter WatchBand) :
    Filtered s (s.setInput i { s.watch.inputs[i] with filter := f }) := by
  refine ⟨rfl, rfl, fun _ => rfl, rfl, fun j => ?_, fun _ => rfl, rfl⟩
  rw [State.setInput_inputs]
  split
  next h => rw [h]
  next => rfl

theorem setInput_same {q : Probe} {i : Fin 8} (h : q ≠ .input i) (s : State) (r : WatchRec) : Same q s (s.setInput i r) := by
  cases q with
  | input j => exact ⟨(State.setInput_inputs s i j r).trans (if_neg fun hc : i = j => h (hc ▸ rfl)), rfl⟩
  | _ => exact ⟨rfl, rfl⟩

theorem setDoor_filtered (s : State) (d : Fin 4) (f : Machine.Filter Position) : Filtered s (s.setDoor d { s.door d with filter := f }) := by
  refine ⟨rfl, rfl, fun _ => rfl, rfl, fun _ => rfl, fun e => ?_, rfl⟩
  rw [State.setDoor_door]
  split
  next h => rw [h]
  next => rfl

theorem setDoor_same {q : Probe} {d : Fin 4} (h : q ≠ .contacts d) (s : State) (r : DoorRec) : Same q s (s.setDoor d r) := by
  cases q with
  | contacts j => exact ⟨(State.setDoor_door s d j r).trans (if_neg fun hc : d = j => h (hc ▸ rfl)), rfl⟩
  | _ => exact ⟨rfl, rfl⟩

theorem setButton_filtered (s : State) (p : Fin 4) (r : ButtonRec) : Filtered s (s.setButton p r) :=
  ⟨rfl, rfl, fun _ => rfl, rfl, fun _ => rfl, fun _ => rfl, rfl⟩

theorem setButton_same {q : Probe} {p : Fin 4} (h : q ≠ .button p) (s : State) (r : ButtonRec) : Same q s (s.setButton p r) := by
  cases q with
  | button j => exact ⟨(State.setButton_buttons s p j r).trans (if_neg fun hc : p = j => h (hc ▸ rfl)), rfl⟩
  | _ => exact ⟨rfl, rfl⟩

theorem setButtonLine_filtered (s : State) (p : Fin 4) (b : Bool) : Filtered s (s.setButtonLine p b) :=
  ⟨rfl, rfl, fun _ => rfl, rfl, fun _ => rfl, fun _ => rfl, rfl⟩

theorem setButtonLine_same {q : Probe} {p : Fin 4} (h : q ≠ .button p) (s : State) (b : Bool) : Same q s (s.setButtonLine p b) := by
  cases q with
  | button j => exact ⟨rfl, (State.setButtonLine_buttons s p j b).trans (if_neg fun hc : p = j => h (hc ▸ rfl))⟩
  | key k => cases k <;> exact ⟨rfl, rfl⟩
  | _ => exact ⟨rfl, rfl⟩

theorem setKeyRec_filtered (s : State) (k : PanelKey) (r : ButtonRec) : Filtered s (s.setKeyRec k r) :=
  ⟨rfl, rfl, fun _ => rfl, rfl, fun _ => rfl, fun _ => rfl, rfl⟩

theorem setKeyRec_same {q : Probe} {k : PanelKey} (h : q ≠ .key k) (s : State) (r : ButtonRec) : Same q s (s.setKeyRec k r) := by
  cases q with
  | key j => exact ⟨(KeyFilters.get_set s.keys k j r).trans (if_neg fun hc : k = j => h (hc ▸ rfl)), rfl⟩
  | _ => exact ⟨rfl, rfl⟩

theorem setKeyLine_filtered (s : State) (k : PanelKey) (b : Bool) : Filtered s (s.setKeyLine k b) := by
  refine ⟨rfl, rfl, fun _ => rfl, rfl, fun _ => rfl, fun _ => rfl, ?_⟩
  cases k <;> rfl

theorem setKeyLine_same {q : Probe} {k : PanelKey} (h : q ≠ .key k) (s : State) (b : Bool) : Same q s (s.setKeyLine k b) := by
  cases q with
  | key j => exact ⟨rfl, (Pins.key_setKey s.pins k j b).trans (if_neg fun hc : k = j => h (hc ▸ rfl))⟩
  | mode => exact ⟨rfl, by simp⟩
  | loop l => exact ⟨rfl, by simp⟩
  | input i => exact ⟨rfl, by simp⟩
  | contacts d => exact ⟨rfl, by simp⟩
  | button p => exact ⟨rfl, by simp⟩

/-- A held line is opened or left: what both ways have, a closed line's sampling has. -/
theorem letGo_has {P : State → Prop} (s : State) (closed : Bool) (openLine : State → State) (h : P s) (hd : P (s.afterDraw 2))
    (ho : P (openLine (s.afterDraw 2))) : P (s.letGo closed openLine) := by
  rcases s.letGo_cases closed openLine with ⟨-, he⟩ | ⟨-, he | he⟩
  · rwa [he]
  · rwa [he]
  · rwa [he]

theorem letKeyGo_filtered (s : State) (k : PanelKey) : Filtered s (s.letKeyGo k) :=
  letGo_has s _ _ (.refl s) (afterDraw_filtered s 2) ((afterDraw_filtered s 2).trans (setKeyLine_filtered _ k false))

theorem letKeyGo_same {q : Probe} {k : PanelKey} (h : q ≠ .key k) (s : State) : Same q s (s.letKeyGo k) :=
  letGo_has s _ _ (.refl q s) (afterDraw_same q s 2) ((afterDraw_same q s 2).trans (setKeyLine_same h _ false))

theorem letButtonGo_filtered (s : State) (p : Fin 4) : Filtered s (s.letButtonGo p) :=
  letGo_has s _ _ (.refl s) (afterDraw_filtered s 2) ((afterDraw_filtered s 2).trans (setButtonLine_filtered _ p false))

theorem letButtonGo_same {q : Probe} {p : Fin 4} (h : q ≠ .button p) (s : State) : Same q s (s.letButtonGo p) :=
  letGo_has s _ _ (.refl q s) (afterDraw_same q s 2) ((afterDraw_same q s 2).trans (setButtonLine_same h _ false))

/-! ### One sample -/

/-- Probe `p` may have made its sample between the two states, and nothing else has happened. -/
structure Heard (p : Probe) (s t : State) : Prop where
  filtered : Filtered s t
  raised : t.raised = s.raised ∨ ∃ x, probeOf x = some p ∧ t.raised = s.raised ++ [x]
  same : ∀ q, q ≠ p → Same q s t

theorem Heard.refl (p : Probe) (s : State) : Heard p s s := ⟨.refl s, .inl rfl, fun q _ => .refl q s⟩

/-- The sample's event, behind a change of the filter alone. -/
theorem Heard.raise {p : Probe} {s t : State} (h : Heard p s t) (hr : t.raised = s.raised) {x : Instr} (hx : probeOf x = some p) :
    Heard p s (t.raise x) :=
  ⟨h.filtered.trans (raise_filtered t x), .inr ⟨x, hx, by rw [← hr]; rfl⟩, fun q hq => (h.same q hq).trans (raise_same q t x)⟩

theorem sampleLoop_heard (s : State) (l : Fin 6) : Heard (.loop l) s (s.sampleLoop l) := by
  have hset : ∀ f, Heard (.loop l) s (s.setLoop l { s.fire.loops[l] with filter := f }) := fun f =>
    ⟨setLoop_filtered s l f, .inl rfl, fun q hq => setLoop_same hq s _⟩
  unfold State.sampleLoop
  dsimp only
  split
  · exact .refl _ s
  · split
    · exact hset _
    · exact (hset _).raise rfl rfl

theorem sampleInput_heard (s : State) (i : Fin 8) : Heard (.input i) s (s.sampleInput i) := by
  have hset : ∀ f, Heard (.input i) s (s.setInput i { s.watch.inputs[i] with filter := f }) := fun f =>
    ⟨setInput_filtered s i f, .inl rfl, fun q hq => setInput_same hq s _⟩
  unfold State.sampleInput
  dsimp only
  split
  · exact .refl _ s
  · split
    · exact hset _
    · exact (hset _).raise rfl rfl

theorem samplePosition_heard (s : State) (d : Fin 4) : Heard (.contacts d) s (s.samplePosition d) := by
  have hset : ∀ f, Heard (.contacts d) s (s.setDoor d { s.door d with filter := f }) := fun f =>
    ⟨setDoor_filtered s d f, .inl rfl, fun q hq => setDoor_same hq s _⟩
  unfold State.samplePosition
  dsimp only
  split
  · exact .refl _ s
  · split
    · exact hset _
    · exact (hset _).raise rfl (by split <;> rfl)

theorem sampleModeKey_heard (s : State) : Heard .mode s s.sampleModeKey := by
  have hset : ∀ r f, Heard .mode s { s with modes := { s.modes with keyReading := r, keyFilter := f } } := fun r f => by
    refine ⟨⟨rfl, rfl, fun _ => rfl, rfl, fun _ => rfl, fun _ => rfl, rfl⟩, .inl rfl, fun q hq => ?_⟩
    cases q with
    | mode => exact absurd rfl hq
    | _ => exact ⟨rfl, rfl⟩
  unfold State.sampleModeKey
  split
  · exact hset _ _
  · dsimp only
    split
    · exact hset _ _
    · split
      · exact hset _ _
      · refine Heard.raise (p := .mode) (x := .keyChange _) ?_ ?_ rfl
        · exact hset _ _
        · rfl

theorem filterKey_eq (s : State) (k : PanelKey) : s.filterKey k = { s.setKeyRec k ((s.keys.get k).sample (s.pins.key k)).1 with
    raised := if ((s.keys.get k).sample (s.pins.key k)).2 then s.raised ++ [k.command] else s.raised } := by
  unfold State.filterKey
  dsimp only
  split <;> rfl

theorem filterButton_eq (s : State) (p : Fin 4) : s.filterButton p = { s.setButton p (s.watch.buttons[p].sample s.pins.buttons[p]).1 with
    raised := if (s.watch.buttons[p].sample s.pins.buttons[p]).2 then s.raised ++ [.callButtonPressed p] else s.raised } := by
  unfold State.filterButton
  dsimp only
  split <;> rfl

theorem sampleKey_heard (s : State) (k : PanelKey) : Heard (.key k) s (s.sampleKey k) := by
  obtain ⟨t, ht⟩ : ∃ t, t = s.letKeyGo k := ⟨_, rfl⟩
  have hset : ∀ r, Heard (.key k) s (t.setKeyRec k r) := fun r => by
    refine ⟨?_, .inl ?_, fun q hq => ?_⟩
    · exact ht ▸ (letKeyGo_filtered s k).trans (setKeyRec_filtered _ k r)
    · simp [ht]
    · exact ht ▸ (letKeyGo_same hq s).trans (setKeyRec_same hq _ r)
  unfold State.sampleKey
  rw [← ht]
  unfold State.filterKey
  dsimp only
  split
  · exact (hset _).raise (by simp [ht]) (probeOf_command k)
  · exact hset _

theorem sampleButton_heard (s : State) (p : Fin 4) : Heard (.button p) s (s.sampleButton p) := by
  obtain ⟨t, ht⟩ : ∃ t, t = s.letButtonGo p := ⟨_, rfl⟩
  have hset : ∀ r, Heard (.button p) s (t.setButton p r) := fun r => by
    refine ⟨?_, .inl ?_, fun q hq => ?_⟩
    · exact ht ▸ (letButtonGo_filtered s p).trans (setButton_filtered _ p r)
    · simp [ht]
    · exact ht ▸ (letButtonGo_same hq s).trans (setButton_same hq _ r)
  unfold State.sampleButton
  split
  · rw [← ht]
    unfold State.filterButton
    dsimp only
    split
    · exact (hset _).raise (by simp [ht]) rfl
    · exact hset _
  · exact .refl _ s

theorem sampled_heard (s : State) (p : Probe) : Heard p s (sampled s p) := by
  cases p with
  | mode => exact sampleModeKey_heard s
  | key k => exact sampleKey_heard s k
  | loop l => exact sampleLoop_heard s l
  | input i => exact sampleInput_heard s i
  | contacts d => exact samplePosition_heard s d
  | button p => exact sampleButton_heard s p

theorem Heard.raised_mono {p : Probe} {s t : State} (h : Heard p s t) {x : Instr} (hx : x ∈ s.raised) : x ∈ t.raised := by
  rcases h.raised with hr | ⟨y, -, hr⟩ <;> rw [hr]
  · exact hx
  · exact List.mem_append_left _ hx

/-- Another probe's event was there before. -/
theorem Heard.raised_other {p q : Probe} {s t : State} (h : Heard p s t) (hpq : p ≠ q) {x : Instr} (hq : probeOf x = some q) (hx : x ∈ t.raised) :
    x ∈ s.raised := by
  rcases h.raised with hr | ⟨y, hy, hr⟩ <;> rw [hr] at hx
  · exact hx
  · rcases List.mem_append.mp hx with hx | hx
    · exact hx
    · rw [List.mem_singleton.mp hx, hy] at hq
      exact absurd (Option.some.inj hq) hpq

/-! ### The samples of a tick, in their order -/

/-- The samples of a list of probes. -/
def samples (l : List Probe) (s : State) : State := l.foldl sampled s

theorem samples_filtered (l : List Probe) (s : State) : Filtered s (samples l s) := by
  induction l generalizing s with
  | nil => exact .refl s
  | cons p l ih => exact (sampled_heard s p).filtered.trans (ih _)

theorem samples_raised {l : List Probe} {s : State} {x : Instr} (hx : x ∈ s.raised) : x ∈ (samples l s).raised := by
  induction l generalizing s with
  | nil => exact hx
  | cons p l ih => exact ih ((sampled_heard s p).raised_mono hx)

/-- A probe that makes no sample keeps its record, its line and its events. -/
theorem samples_skip {q : Probe} {l : List Probe} (hq : q ∉ l) (s : State) :
    Same q s (samples l s) ∧ ∀ x, probeOf x = some q → x ∈ (samples l s).raised → x ∈ s.raised := by
  induction l generalizing s with
  | nil => exact ⟨.refl q s, fun _ _ h => h⟩
  | cons p l ih =>
    obtain ⟨hpq, hl⟩ := not_or.mp (fun h => hq (List.mem_cons.mpr h))
    obtain ⟨hsame, hraised⟩ := ih hl (sampled s p)
    exact ⟨((sampled_heard s p).same q hpq).trans hsame,
      fun x hx h => (sampled_heard s p).raised_other (Ne.symm hpq) hx (hraised x hx h)⟩

/-- The one sample of probe `q` within a sampling from `s` to `t`: it finds its record and its line as `s` has them, and what it makes of them stands. -/
structure SampledAt (q : Probe) (s u t : State) : Prop where
  found : Same q s u
  left : Same q (sampled u q) t
  kept : ∀ x ∈ (sampled u q).raised, x ∈ t.raised
  fresh : ∀ x, probeOf x = some q → x ∈ u.raised → x ∈ s.raised
  own : ∀ x, probeOf x = some q → x ∈ t.raised → x ∈ (sampled u q).raised

theorem samples_once {q : Probe} {l : List Probe} (hl : l.Nodup) (hq : q ∈ l) (s : State) : ∃ u, Filtered s u ∧ SampledAt q s u (samples l s) := by
  induction l generalizing s with
  | nil => exact absurd hq List.not_mem_nil
  | cons p l ih =>
    obtain ⟨hp, hl⟩ := List.nodup_cons.mp hl
    by_cases hpq : q = p
    · subst hpq
      obtain ⟨hsame, hraised⟩ := samples_skip hp (sampled s q)
      exact ⟨s, .refl s, .refl q s, hsame, fun x hx => samples_raised (l := l) (s := sampled s q) hx, fun _ _ hx => hx, hraised⟩
    · obtain ⟨u, hf, hu⟩ := ih hl ((List.mem_cons.mp hq).resolve_left hpq) (sampled s p)
      have hh := sampled_heard s p
      exact ⟨u, hh.filtered.trans hf, (hh.same q hpq).trans hu.found, hu.left, hu.kept,
        fun x hx h => hh.raised_other (Ne.symm hpq) hx (hu.fresh x hx h), hu.own⟩

/-! ### The tick as its samples -/

/-- The probes of the panel, in the order of the sampling. -/
def panelProbes : List Probe := .mode :: [PanelKey.ack, .restore, .accept, .guard, .test, .passage].map .key

/-- The probes of the lines that are sampled each 100 ms. -/
def lineProbes : List Probe :=
  (List.finRange 6).map .loop ++ (List.finRange 8).map .input ++ (List.finRange 4).map .contacts ++ (List.finRange 4).map .button

/-- Every probe. -/
def allProbes : List Probe := panelProbes ++ lineProbes

theorem mem_allProbes (q : Probe) : q ∈ allProbes := by
  cases q with
  | key k => cases k <;> simp [allProbes, panelProbes, lineProbes]
  | _ => simp [allProbes, panelProbes, lineProbes]

/-- The place of a probe, which tells the probes apart. -/
def Probe.place : Probe → Nat
  | .mode => 0
  | .key .ack => 1
  | .key .restore => 2
  | .key .accept => 3
  | .key .guard => 4
  | .key .passage => 5
  | .key .test => 6
  | .loop l => 10 + l.val
  | .input i => 20 + i.val
  | .contacts d => 30 + d.val
  | .button p => 40 + p.val

theorem nodup_allProbes : allProbes.Nodup := List.Nodup.of_map Probe.place (by decide)

/-- R3, R17, R42, R44, R59, R188: the probe makes its sample in this tick. -/
def due (s : State) : Probe → Bool
  | .mode => s.clock.keySampling == 1
  | .key k => s.clock.keySampling == 1 && (if k = .passage then s.hearing else s.keyed)
  | .loop _ | .input _ | .contacts _ | .button _ => s.clock.sampling == 9 && s.hearing

/-- The station with its sources moved on and its channels and patterns counted. -/
def counted (s : State) : State :=
  { s with clock := s.clock.tick, timers := s.timers.tick (s.clock.tick.hundred == 0) (s.clock.tick.second == 0), buzzer := s.buzzer.tick
           raised := s.raised ++ s.buzzer.endings }

theorem sources_round (s : State) : (s.clock.tick.hundred == 0) = (s.clock.hundred == 9) ∧ (s.clock.tick.second == 0) = (s.clock.second == 99)
    ∧ (s.clock.tick.sampling == 0) = (s.clock.sampling == 9) ∧ (s.clock.tick.keySampling == 0) = (s.clock.keySampling == 1) := by
  have h10 : ∀ c : Fin 10, ((c + 1) == 0) = (c == 9) := by decide
  have h100 : ∀ c : Fin 100, ((c + 1) == 0) = (c == 99) := by decide
  have h2 : ∀ c : Fin 2, ((c + 1) == 0) = (c == 1) := by decide
  exact ⟨h10 _, h100 _, h10 _, h2 _⟩

theorem samples_append (l m : List Probe) (s : State) : samples (l ++ m) s = samples m (samples l s) := List.foldl_append

theorem samples_map {α : Type} (f : α → Probe) (l : List α) (s : State) : samples (l.map f) s = l.foldl (fun t a => sampled t (f a)) s :=
  List.foldl_map

theorem sampleLines_eq (s : State) : s.sampleLines = samples lineProbes s := by
  simp only [lineProbes, samples_append, samples_map]
  rfl

theorem samplePanel_eq (s t : State) (hk : t.keyed = s.keyed) (hh : t.hearing = s.hearing) (hc : (s.clock.keySampling == 1) = true) :
    t.samplePanel = samples (panelProbes.filter (due s)) t := by
  unfold State.samplePanel
  rw [hk, hh]
  cases hkey : s.keyed <;> cases hhear : s.hearing <;> simp [panelProbes, due, hc, hkey, hhear, samples, sampled]

theorem filter_lineProbes (s : State) : lineProbes.filter (due s) = if s.clock.sampling == 9 && s.hearing then lineProbes else [] := by
  have hdue : ∀ q ∈ lineProbes, due s q = (s.clock.sampling == 9 && s.hearing) := by
    intro q hq
    cases q with
    | mode => simp [lineProbes] at hq
    | key k => simp [lineProbes] at hq
    | _ => rfl
  rw [List.filter_congr hdue]
  cases s.clock.sampling == 9 && s.hearing <;> simp

theorem filter_panelProbes {s : State} (h : (s.clock.keySampling == 1) = false) : panelProbes.filter (due s) = [] := by
  simp [panelProbes, due, h]

/-- A tick counts, and then makes the samples that are due, each once. -/
theorem tick_eq {s : State} (hl : s.live = true) : s.tick = samples (allProbes.filter (due s)) (counted s) := by
  obtain ⟨-, -, hsampling, hkeys⟩ := sources_round s
  have hpanel : (if s.clock.keySampling == 1 then (counted s).samplePanel else counted s) = samples (panelProbes.filter (due s)) (counted s) := by
    split
    next h => exact samplePanel_eq s (counted s) rfl rfl h
    next h => rw [filter_panelProbes (by simpa using h)]; rfl
  have hlines : ∀ t : State, (if s.hearing && s.clock.sampling == 9 then t.sampleLines else t) = samples (lineProbes.filter (due s)) t := fun t => by
    rw [filter_lineProbes, Bool.and_comm, sampleLines_eq]
    split <;> rfl
  rw [allProbes, List.filter_append, samples_append, ← hpanel, ← hlines, ← hsampling, ← hkeys]
  unfold State.tick
  rw [hl]
  rfl

theorem tick_filtered {s : State} (hl : s.live = true) : Filtered (counted s) s.tick := tick_eq hl ▸ samples_filtered _ _

theorem counted_same (q : Probe) (s : State) : Same q s (counted s) := by
  cases q <;> exact ⟨rfl, rfl⟩

theorem counted_raised {q : Probe} {s : State} {x : Instr} (hx : probeOf x = some q) : x ∈ (counted s).raised ↔ x ∈ s.raised := by
  have hend : x ∉ s.buzzer.endings := by
    intro hm
    obtain ⟨o, -, ho⟩ := List.mem_filterMap.mp hm
    split at ho
    · rw [← Option.some.inj ho] at hx
      cases hx
    · cases ho
  simp [counted, hend]

/-- A probe that is not due in a tick. -/
theorem tick_skips {s : State} {q : Probe} (hl : s.live = true) (hd : due s q = false) :
    Same q s s.tick ∧ ∀ x, probeOf x = some q → x ∈ s.tick.raised → x ∈ s.raised := by
  obtain ⟨hsame, hraised⟩ := samples_skip (q := q) (l := allProbes.filter (due s)) (by simp [hd]) (counted s)
  rw [tick_eq hl]
  exact ⟨(counted_same q s).trans hsame, fun x hx h => (counted_raised hx).mp (hraised x hx h)⟩

/-- A probe that is due in a tick. -/
theorem tick_samples {s : State} {q : Probe} (hl : s.live = true) (hd : due s q = true) :
    ∃ u, u.start = s.start ∧ SampledAt q s u s.tick := by
  obtain ⟨u, hf, hu⟩ := samples_once (nodup_allProbes.filter (due s)) (List.mem_filter.mpr ⟨mem_allProbes q, hd⟩) (counted s)
  rw [tick_eq hl]
  exact ⟨u, by rw [hf.rest]; rfl, (counted_same q s).trans hu.found, hu.left, hu.kept,
    fun x hx h => (counted_raised hx).mp (hu.fresh x hx h), hu.own⟩

/-! ### What one sample makes of its record -/

/-- R18: the third agreeing sample is taken. -/
theorem sample_third {α : Type} [DecidableEq α] {band : Option α} {x : α} (h : band ≠ some x) :
    Filter.sample { candidate := some x, count := 2 } band x = (Filter.clear, some x) := by
  simp [Filter.sample, h]

theorem mem_raise (s : State) (x : Instr) : x ∈ (s.raise x).raised := List.mem_append_right _ (List.mem_singleton_self x)

theorem sampleLoop_third {s : State} {l : Fin 6} (hk : s.fire.loops[l].kind ≠ .unused)
    (hb : readByKind s.fire.loops[l].kind (loopBandOf s.pins.loops[l]) ≠ s.fire.loops[l].band)
    (hf : s.fire.loops[l].filter = { candidate := some (readByKind s.fire.loops[l].kind (loopBandOf s.pins.loops[l])), count := 2 }) :
    Instr.bandChange l s.pins.loops[l] ∈ (s.sampleLoop l).raised := by
  unfold State.sampleLoop
  dsimp only
  rw [if_neg hk, hf, sample_third fun h => hb (Option.some.inj h).symm]
  exact mem_raise _ _

theorem sampleInput_third {s : State} {i : Fin 8} (hk : s.watch.inputs[i].kind ≠ .unused) (hb : watchBandOf s.pins.watch[i] ≠ s.watch.inputs[i].band)
    (hf : s.watch.inputs[i].filter = { candidate := some (watchBandOf s.pins.watch[i]), count := 2 }) :
    Instr.watchBandChange i s.pins.watch[i] ∈ (s.sampleInput i).raised := by
  unfold State.sampleInput
  dsimp only
  rw [if_neg hk, hf, sample_third fun h => hb (Option.some.inj h).symm]
  exact mem_raise _ _

theorem samplePosition_third {s : State} {d : Fin 4} (ho : (s.door d).desc.isOwned = true)
    (hb : (s.door d).position ≠ some (positionOf s.pins.doors[d]))
    (hf : (s.door d).filter = { candidate := some (positionOf s.pins.doors[d]), count := 2 }) :
    (if (s.door d).position = none then Instr.firstReading d s.pins.doors[d] else .positionChange d s.pins.doors[d])
      ∈ (s.samplePosition d).raised := by
  unfold State.samplePosition
  dsimp only
  rw [if_neg (by simp [ho]), hf, sample_third hb]
  simp only [← Option.isNone_iff_eq_none]
  exact mem_raise _ _

theorem sampleModeKey_third {s : State} {m : Mode} (hr : s.pins.mode ≠ s.modes.keyReading)
    (hf : s.modes.keyFilter = { candidate := some s.pins.mode, count := 2 }) (hm : keyPositionOf s.pins.mode = some m)
    (hk : m ≠ s.modes.keyPosition) : Instr.keyChange m ∈ s.sampleModeKey.raised := by
  unfold State.sampleModeKey
  rw [hf, sample_third fun h => hr (Option.some.inj h).symm]
  simp only [hm, hk, if_false]
  exact mem_raise _ _

/-- R188: a sampled key: its line may have opened, and its filter reads the line as it stands then. -/
theorem sampleKey_reads (s : State) (k : PanelKey) :
    (s.sampleKey k).keys.get k = ((s.keys.get k).sample ((s.sampleKey k).pins.key k)).1
    ∧ (s.sampleKey k).raised = (if ((s.keys.get k).sample ((s.sampleKey k).pins.key k)).2 then s.raised ++ [k.command] else s.raised)
    ∧ ((s.sampleKey k).pins.key k ≠ s.pins.key k → s.pins.key k = true) := by
  have hline : (s.letKeyGo k).pins.key k ≠ s.pins.key k → s.pins.key k = true :=
    letGo_has (P := fun t => t.pins.key k ≠ s.pins.key k → s.pins.key k = true) s _ _ (fun h => absurd rfl h) (fun h => absurd rfl h) (by simp)
  obtain ⟨t, ht⟩ : ∃ t, t = s.letKeyGo k := ⟨_, rfl⟩
  have hkeys : t.keys = s.keys := by simp [ht]
  have hraised : t.raised = s.raised := by simp [ht]
  unfold State.sampleKey
  rw [← ht] at hline ⊢
  rw [filterKey_eq, ← hkeys, ← hraised]
  exact ⟨by simp, rfl, hline⟩

/-- R44: a sampled call button. -/
theorem sampleButton_reads {s : State} {p : Fin 4} (hp : s.pointFitted p = true) :
    (s.sampleButton p).watch.buttons[p] = (s.watch.buttons[p].sample (s.sampleButton p).pins.buttons[p]).1
    ∧ (s.sampleButton p).raised
        = (if (s.watch.buttons[p].sample (s.sampleButton p).pins.buttons[p]).2 then s.raised ++ [.callButtonPressed p] else s.raised)
    ∧ ((s.sampleButton p).pins.buttons[p] ≠ s.pins.buttons[p] → s.pins.buttons[p] = true) := by
  have hline : (s.letButtonGo p).pins.buttons[p] ≠ s.pins.buttons[p] → s.pins.buttons[p] = true :=
    letGo_has (P := fun t => t.pins.buttons[p] ≠ s.pins.buttons[p] → s.pins.buttons[p] = true) s _ _ (fun h => absurd rfl h) (fun h => absurd rfl h)
      (fun h => by simpa [State.setButtonLine] using h)
  obtain ⟨t, ht⟩ : ∃ t, t = s.letButtonGo p := ⟨_, rfl⟩
  have hwatch : t.watch = s.watch := by simp [ht]
  have hraised : t.raised = s.raised := by simp [ht]
  unfold State.sampleButton
  rw [← ht] at hline
  rw [if_pos hp, ← ht, filterButton_eq, ← hwatch, ← hraised]
  exact ⟨(State.setButton_buttons _ _ _ _).trans (if_pos rfl), rfl, hline⟩

theorem sampleButton_unfitted {s : State} {p : Fin 4} (hp : s.pointFitted p = false) : s.sampleButton p = s := by
  simp [State.sampleButton, hp]

/-- R44: a sample lets a pressed button go or leaves it, and presses none. -/
theorem sample_pressed {b : ButtonRec} {closed : Bool} (h : (b.sample closed).1.pressed = true) : b.pressed = true := by
  rcases b.sample_cases closed with ⟨f, he⟩ | ⟨-, hb, -⟩ | ⟨-, -, he⟩
  · rwa [he] at h
  · exact hb
  · rw [he] at h
    cases h

theorem sample_held {b : ButtonRec} {closed : Bool} (h : b.pressed = true) : (b.sample closed).2 = false := by
  rcases b.sample_cases closed with ⟨f, he⟩ | ⟨-, -, he⟩ | ⟨-, hb, -⟩
  · rw [he]
  · rw [he]
  · rw [h] at hb
    cases hb

theorem sample_thirdPress : thirdPress.sample true = (.released, true) := by decide

theorem sample_thirdRelease : thirdRelease.sample false = (.released, false) := by decide

/-- Without a closed line no sample draws. -/
theorem sampled_open {s : State} (hb : ∀ p : Fin 4, s.pins.buttons[p] = false) (hk : ∀ k, s.pins.key k = false) (q : Probe) :
    (sampled s q).pins = s.pins ∧ (sampled s q).order = s.order := by
  cases q with
  | mode =>
    show s.sampleModeKey.pins = s.pins ∧ s.sampleModeKey.order = s.order
    unfold State.sampleModeKey
    dsimp only
    (repeat' split) <;> exact ⟨rfl, rfl⟩
  | key k =>
    have hgo : s.letKeyGo k = s := by simp [State.letKeyGo, State.letGo, hk]
    simp [sampled, State.sampleKey, hgo]
  | loop l =>
    show (s.sampleLoop l).pins = s.pins ∧ (s.sampleLoop l).order = s.order
    unfold State.sampleLoop
    dsimp only
    (repeat' split) <;> exact ⟨rfl, rfl⟩
  | input i =>
    show (s.sampleInput i).pins = s.pins ∧ (s.sampleInput i).order = s.order
    unfold State.sampleInput
    dsimp only
    (repeat' split) <;> exact ⟨rfl, rfl⟩
  | contacts d =>
    show (s.samplePosition d).pins = s.pins ∧ (s.samplePosition d).order = s.order
    unfold State.samplePosition
    dsimp only
    (repeat' split) <;> exact ⟨rfl, rfl⟩
  | button p =>
    have hgo : s.letButtonGo p = s := by
      unfold State.letButtonGo State.letGo
      exact if_neg (by rw [hb p]; decide)
    show (s.sampleButton p).pins = s.pins ∧ (s.sampleButton p).order = s.order
    unfold State.sampleButton
    rw [hgo]
    split
    · simp
    · exact ⟨rfl, rfl⟩

theorem samples_open {s : State} (hb : ∀ p : Fin 4, s.pins.buttons[p] = false) (hk : ∀ k, s.pins.key k = false) (l : List Probe) :
    (samples l s).order = s.order := by
  induction l generalizing s with
  | nil => rfl
  | cons q l ih =>
    obtain ⟨hp, ho⟩ := sampled_open hb hk q
    exact (ih (s := sampled s q) (by simpa [hp] using hb) (by simpa [hp] using hk)).trans ho

/-! ### The tick -/

/-- R151: which channels a tick counts. -/
theorem tick_channel {s : State} (hl : s.live = true) (c : Chan) : s.tick.channel c =
    if (s.channel c).rate = .ms10 ∨ ((s.channel c).rate = .ms100 ∧ s.clock.hundred = 9) ∨ ((s.channel c).rate = .s1 ∧ s.clock.second = 99) then
      (s.channel c).tick else s.channel c := by
  obtain ⟨hhundred, hsecond, -, -⟩ := sources_round s
  have htimers : s.tick.timers = s.timers.tick (s.clock.hundred == 9) (s.clock.second == 99) := by
    rw [(tick_filtered hl).rest, ← hhundred, ← hsecond]
    rfl
  unfold State.channel
  rw [htimers, TimerBank.tick, TimerBank.get_mapAll]
  cases hr : (s.timers.get c).rate <;> simp

/-- What a tick reads of a key that is due. -/
theorem tick_key {s : State} {k : PanelKey} (hl : s.live = true) (hd : due s (.key k) = true) :
    s.tick.keys.get k = ((s.keys.get k).sample (s.tick.pins.key k)).1
    ∧ (((s.keys.get k).sample (s.tick.pins.key k)).2 = true → k.command ∈ s.tick.raised)
    ∧ (((s.keys.get k).sample (s.tick.pins.key k)).2 = false → k.command ∈ s.tick.raised → k.command ∈ s.raised)
    ∧ (s.tick.pins.key k ≠ s.pins.key k → s.pins.key k = true) := by
  obtain ⟨u, -, hu⟩ := tick_samples hl hd
  obtain ⟨hrec, hraised, hline⟩ := sampleKey_reads u k
  obtain ⟨hkeys, hpins⟩ := hu.found
  obtain ⟨hkeys', hpins'⟩ := hu.left
  rw [hkeys', hpins', ← hkeys, ← hpins]
  refine ⟨hrec, fun h => hu.kept _ ?_, fun h hx => hu.fresh _ (probeOf_command k) ?_, hline⟩
  · show k.command ∈ (u.sampleKey k).raised
    rw [hraised]
    exact (if_pos h).symm ▸ List.mem_append_right _ (List.mem_singleton_self _)
  · have hx' : k.command ∈ (u.sampleKey k).raised := hu.own _ (probeOf_command k) hx
    have h' : ((u.keys.get k).sample ((u.sampleKey k).pins.key k)).2 = false := h
    rwa [hraised, h', if_neg Bool.false_ne_true] at hx'

theorem pointFitted_congr {s t : State} (h : t.start = s.start) (p : Fin 4) : t.pointFitted p = s.pointFitted p := by
  unfold State.pointFitted State.cfg
  rw [h]

/-- What a tick reads of a call button that is due. -/
theorem tick_button {s : State} {p : Fin 4} (hl : s.live = true) (hd : due s (.button p) = true) (hp : s.pointFitted p = true) :
    s.tick.watch.buttons[p] = (s.watch.buttons[p].sample s.tick.pins.buttons[p]).1
    ∧ ((s.watch.buttons[p].sample s.tick.pins.buttons[p]).2 = true → Instr.callButtonPressed p ∈ s.tick.raised)
    ∧ ((s.watch.buttons[p].sample s.tick.pins.buttons[p]).2 = false → Instr.callButtonPressed p ∈ s.tick.raised →
        Instr.callButtonPressed p ∈ s.raised)
    ∧ (s.tick.pins.buttons[p] ≠ s.pins.buttons[p] → s.pins.buttons[p] = true) := by
  obtain ⟨u, hstart, hu⟩ := tick_samples hl hd
  obtain ⟨hrec, hraised, hline⟩ := sampleButton_reads (s := u) (p := p) ((pointFitted_congr hstart p).trans hp)
  obtain ⟨hbuttons, hpins⟩ := hu.found
  obtain ⟨hbuttons', hpins'⟩ := hu.left
  rw [hbuttons', hpins', ← hbuttons, ← hpins]
  refine ⟨hrec, fun h => hu.kept _ ?_, fun h hx => hu.fresh _ rfl ?_, hline⟩
  · show Instr.callButtonPressed p ∈ (u.sampleButton p).raised
    rw [hraised]
    exact (if_pos h).symm ▸ List.mem_append_right _ (List.mem_singleton_self _)
  · have hx' : Instr.callButtonPressed p ∈ (u.sampleButton p).raised := hu.own _ rfl hx
    have h' : (u.watch.buttons[p].sample (u.sampleButton p).pins.buttons[p]).2 = false := h
    rwa [hraised, h', if_neg Bool.false_ne_true] at hx'

/-- A call button that no sample is due for, or that is not configured. -/
theorem tick_button_unsampled {s : State} {p : Fin 4} (hl : s.live = true) (h : ¬ (due s (.button p) = true ∧ s.pointFitted p = true)) :
    Same (.button p) s s.tick ∧ (Instr.callButtonPressed p ∈ s.tick.raised → Instr.callButtonPressed p ∈ s.raised) := by
  cases hd : due s (.button p) with
  | false =>
    obtain ⟨hsame, hraised⟩ := tick_skips hl hd
    exact ⟨hsame, hraised _ rfl⟩
  | true =>
    obtain ⟨u, hstart, hu⟩ := tick_samples hl hd
    have hun : sampled u (.button p) = u :=
      sampleButton_unfitted ((pointFitted_congr hstart p).trans (by simpa [hd] using h))
    exact ⟨hu.found.trans (hun ▸ hu.left), fun hx => hu.fresh _ rfl (hun ▸ hu.own _ rfl hx)⟩

theorem tick_dead {s : State} (hl : s.live = false) : s.tick = { s with clock := s.tick.clock } := by
  simp [State.tick, hl]

theorem tick_order {s : State} (hl : s.live = true) (hb : ∀ p : Fin 4, s.pins.buttons[p] = false) (hk : ∀ k, s.pins.key k = false) :
    s.tick.order = s.order := by
  rw [tick_eq hl]
  exact samples_open (s := counted s) hb hk _

/-- Settles O48: a tick counts and then makes each sample that is due once, and a sample leaves to the tick what it found and what it raised. -/
theorem tickCountsAndSamplesAndDecidesNothing : Obligations.TickCountsAndSamplesAndDecidesNothing := by
  refine ⟨fun s hl => ?_, fun s hl => tick_dead hl⟩
  have hf := tick_filtered hl
  have hkeydue : ∀ k : PanelKey, due s (.key k) = true ↔ (if k = .passage then s.hearing else s.keyed) = true ∧ s.clock.keySampling = 1 := by
    intro k
    simp [due, and_comm]
  have hbuttondue : ∀ p : Fin 4, due s (.button p) = true ↔ s.hearing = true ∧ s.clock.sampling = 9 := by
    intro p
    simp [due, and_comm]
  refine ⟨?_, fun c _ => tick_channel hl c, hf.modes, hf.fire, hf.loops, hf.watch, hf.inputs, hf.doors, ?_, fun p hp => ?_, fun k hk => ?_,
    tick_order hl, fun e he => ?_, fun l hh hs hk hb hfil => ?_, fun i hh hs hk hb hfil => ?_, fun d hh hs ho hb hfil => ?_,
    fun p hh hs hp hline hrec => ?_, fun p hh hs hp hline hrec => ?_, fun p hp => ?_, fun p hp hx => ?_, fun k hk hs => ?_, fun k => ?_,
    fun m hs hr hfil hm hk => ?_⟩
  · rw [hf.rest]
    rfl
  · exact hf.rest.trans (by rw [hf.rest]; rfl)
  · by_cases hd : due s (.button p) = true ∧ s.pointFitted p = true
    · obtain ⟨hh, hs⟩ := (hbuttondue p).mp hd.1
      exact ⟨(tick_button hl hd.1 hd.2).2.2.2 hp, hh, hs, hd.2⟩
    · exact absurd (tick_button_unsampled hl hd).1.2 hp
  · cases hd : due s (.key k) with
    | false => exact absurd (tick_skips hl hd).1.2 hk
    | true =>
      obtain ⟨hh, hs⟩ := (hkeydue k).mp hd
      exact ⟨(tick_key hl hd).2.2.2 hk, hh, hs⟩
  · rw [tick_eq hl]
    exact samples_raised (List.mem_append_left _ he)
  · obtain ⟨u, -, hu⟩ := tick_samples (q := .loop l) hl (by simp [due, hh, hs])
    obtain ⟨hrec, hpin⟩ := hu.found
    refine hu.kept _ ?_
    rw [← hrec] at hk hb hfil
    rw [← hpin] at hb hfil ⊢
    exact sampleLoop_third hk hb hfil
  · obtain ⟨u, -, hu⟩ := tick_samples (q := .input i) hl (by simp [due, hh, hs])
    obtain ⟨hrec, hpin⟩ := hu.found
    refine hu.kept _ ?_
    rw [← hrec] at hk hb hfil
    rw [← hpin] at hb hfil ⊢
    exact sampleInput_third hk hb hfil
  · obtain ⟨u, -, hu⟩ := tick_samples (q := .contacts d) hl (by simp [due, hh, hs])
    obtain ⟨hrec, hpin⟩ := hu.found
    refine hu.kept _ ?_
    rw [← hrec] at ho hb hfil ⊢
    rw [← hpin] at hb hfil ⊢
    exact samplePosition_third ho hb hfil
  · obtain ⟨-, hraise, -⟩ := tick_button hl ((hbuttondue p).mpr ⟨hh, hs⟩) hp
    exact hraise (by rw [hline, hrec, sample_thirdPress])
  · obtain ⟨hnew, -⟩ := tick_button hl ((hbuttondue p).mpr ⟨hh, hs⟩) hp
    rw [hnew, hline, hrec, sample_thirdRelease]
  · by_cases hd : due s (.button p) = true ∧ s.pointFitted p = true
    · rw [(tick_button hl hd.1 hd.2).1] at hp
      exact sample_pressed hp
    · rwa [(tick_button_unsampled hl hd).1.1] at hp
  · by_cases hd : due s (.button p) = true ∧ s.pointFitted p = true
    · exact (tick_button hl hd.1 hd.2).2.2.1 (sample_held hp) hx
    · exact (tick_button_unsampled hl hd).2 hx
  · obtain ⟨hnew, hraise, -⟩ := tick_key hl ((hkeydue k).mpr ⟨hk, hs⟩)
    exact ⟨fun hline hrec => hraise (by rw [hline, hrec, sample_thirdPress]),
      fun hline hrec => by rw [hnew, hline, hrec, sample_thirdRelease]⟩
  · cases hd : due s (.key k) with
    | false =>
      obtain ⟨hsame, hraised⟩ := tick_skips hl hd
      exact ⟨fun h => hsame.1 ▸ h, fun _ => hraised _ (probeOf_command k), fun _ => hsame.1⟩
    | true =>
      obtain ⟨hnew, -, hold, -⟩ := tick_key hl hd
      refine ⟨fun h => sample_pressed (hnew ▸ h), fun h => hold (sample_held h), fun h => ?_⟩
      rw [((hkeydue k).mp hd).1] at h
      cases h
  · obtain ⟨u, -, hu⟩ := tick_samples (q := .mode) hl (by simp [due, hs])
    obtain ⟨hrec, hpin⟩ := hu.found
    refine hu.kept _ ?_
    rw [← hrec] at hr hfil hk
    rw [← hpin] at hr hfil hm
    exact sampleModeKey_third hr hfil hm hk

end Sys2Proof.Proofs.Ticks
end
